-- ==== Sys2Proof/Word.lean ====
section
/-! DEFINITION. The data the commands and the state share: bytes, the two links, directions,
numbered tables, and the plain arithmetic of 00_scope.md ("Conventions"). -/

namespace Sys2Proof

/-- One byte of a frame or a record (12_frame_and_record_layouts.md, R185). -/
abbrev Byte := BitVec 8

/-- The two serial links (00_scope.md, "Blocks"; R166). The chamber key is also one of the two: it
names the link it selects (R172). -/
inductive Link where
  | panel
  | chamber
  deriving DecidableEq, Repr, Inhabited

/-- What every request frame carries beside its kind and payload: the link it arrived on and its
tag, which the reply gives back unchanged (R166, R169). -/
structure Header where
  link : Link
  tag : Nat
  deriving DecidableEq, Repr, Inhabited

/-- The direction of travel a pass pulse carries, and the motor output a drive pulse drives (R121). -/
inductive Direction where
  | forward
  | back
  deriving DecidableEq, Repr, Inhabited

/-- The other direction (pushing against travel, R121). -/
def Direction.opposite : Direction → Direction
  | .forward => .back
  | .back => .forward

/-- A scene of the palette, as stored and as carried by SCENE-WRITE: a level for each of the sixteen
circuits and a keep mask, circuit `c` in bit `c − 1` (R154, R185, R188). -/
structure Scene where
  levels : Vector Byte 16
  keep : BitVec 16
  deriving DecidableEq, Repr, Inhabited

/-- "A value is clamped when it lies outside its stated range and the nearer end of that range is
used in its place" (00_scope.md, "Clamped and refused"). -/
def clamp (lo hi x : Nat) : Nat := max lo (min hi x)

/-- The clamp for signed quantities. -/
def clampInt (lo hi x : Int) : Int := max lo (min hi x)

/-- A counter that stops at `limit` rather than wrapping (R89, R170, R174). -/
def countUp (limit n : Nat) : Nat := min limit (n + 1)

/-- ceil(a / b) for positive `b`. -/
def ceilDiv (a b : Nat) : Nat := (a + b - 1) / b

/-- Entry `i` of a table numbered from 1 (bells, channels, circuits, dials, timers, programs). -/
def nth {α : Type} {n : Nat} [Inhabited α] (v : Vector α n) (i : Nat) : α :=
  if h : 1 ≤ i ∧ i ≤ n then v[i - 1] else default

/-- The table numbered from 1 with entry `i` replaced; a number that names no entry changes nothing. -/
def setNth {α : Type} {n : Nat} (v : Vector α n) (i : Nat) (x : α) : Vector α n :=
  if h : 1 ≤ i ∧ i ≤ n then v.set (i - 1) x else v

/-- Entry `i` of a table numbered from 0 (tunes, chime sets, scenes, methods, schedule entries). -/
def slot {α : Type} {n : Nat} [Inhabited α] (v : Vector α n) (i : Nat) : α :=
  if h : i < n then v[i] else default

/-- The table numbered from 0 with entry `i` replaced; a number that names no entry changes nothing. -/
def setSlot {α : Type} {n : Nat} (v : Vector α n) (i : Nat) (x : α) : Vector α n :=
  if h : i < n then v.set i x else v

/-- The numbers `lo..hi`, both ends included. -/
def numbers (lo hi : Nat) : List Nat := (List.range (hi + 1 - lo)).map (· + lo)

/-- `lo ≤ x ≤ hi`, the manual's "lies in lo..hi". -/
def within (lo hi x : Nat) : Bool := decide (lo ≤ x ∧ x ≤ hi)

end Sys2Proof
end

