-- ==== Sys2Proof/Syntax.lean ====
section
/-! DEFINITION. The commands of the part: one constructor for each row of opcode_table.json, in the
table's order. A request carries its header and its fields as raw numbers, before any clamping or
refusal: an enumerated field is its byte code, a flag is its byte (R185). A flag or code that R185
refuses is therefore a value a command can carry. Optional fields are `Option`s. An event at a
timed unit carries the number of the unit it happens to; the input level sampled by an event (the
datum at an impulse end, the fault input at a pulse end, the battery at a power-up) is an operand of that
event. -/

namespace Sys2Proof

/-- The commands, one constructor per row of the table of operations and events. -/
inductive Instr where
  /- Links and notices -/
  | identify (h : Header)
  | linkStats (h : Header)
  | noticeRead (h : Header) (start : Nat)
  | noticeMask (h : Header) (toMask toUnmask : List Nat)
  /-- `none` is ALL. -/
  | noticeClear (h : Header) (kinds : Option (List Nat))
  | modeSetMaintenance (h : Header)
  | modeSetRun (h : Header)
  | reset (h : Header)
  | faultClearDial (h : Header) (channel : Nat)
  | faultClearHammer (h : Header) (bell : Nat)
  | faultClearSwing (h : Header) (channel : Nat)
  | unknownKind (h : Header) (kind : Nat)
  /- Tower time, calendar, timers -/
  | timeSet (h : Header) (year month day msOfDay : Nat)
  | zoneSet (h : Header) (minutes : Int)
  | timeRead (h : Header)
  /-- `enable` is a flag byte: 1 enable, 0 disable. -/
  | referenceSet (h : Header) (enable : Nat)
  /-- `chimeSet = none` is NONE. -/
  | classWrite (h : Header) (record : Nat) (chimeSet : Option Nat) (strikeHours chimeQuarters : Nat)
  | weekdayWrite (h : Header) (classes : List Nat)
  /-- `year = none` is ANY. -/
  | calendarWrite (h : Header) (month day : Nat) (year : Option Nat) (cls : Nat)
  | calendarDelete (h : Header) (month day : Nat) (year : Option Nat)
  /-- `part`: 0 CLASSES, 1 WEEKDAYS, 2 ENTRIES. -/
  | calendarRead (h : Header) (part start count : Nat)
  /-- `action`: 0 NONE, 1 START-PROGRAM, 2 STOP-SWING, 3 APPLY-SCENE; `arg` is the program or scene. -/
  | timerStart (h : Header) (timer duration mask action arg fade : Nat)
  | timerStop (h : Header) (timer : Nat)
  | timerRead (h : Header)
  /- Dials -/
  /-- `kind`: 0 MINUTE, 1 HALF; `datum` is a flag byte. -/
  | dialConfig (h : Header) (channel kind impulse gap wait datum : Nat)
  | dialHold (h : Header) (channel : Nat)
  /-- `polarity`: absent, 0 for +, 1 for −. -/
  | dialSetPosition (h : Header) (channel position : Nat) (polarity : Option Nat)
  | dialRelease (h : Header) (channel : Nat)
  | dialRead (h : Header) (channel : Nat)
  /- Score, tunes, chime sets -/
  | scoreWindow (h : Header) (firstRow lastRow firstCol lastCol : Nat)
  /-- `packed` is the cells as they travel, four to a byte (R187). -/
  | scoreWrite (h : Header) (continueFlag count : Nat) (packed : List Byte)
  | scoreRead (h : Header) (row col count : Nat)
  /-- `action`: 0 SET, 1 CLEAR. -/
  | scoreProtect (h : Header) (firstRow lastRow action : Nat)
  /-- `completeness`: 0 WHOLE, 1 THIN. -/
  | tuneWrite (h : Header) (tune start intro body coda passes beat : Nat) (shift : Int) (completeness : Nat)
  | tuneClear (h : Header) (tune : Nat)
  | tuneRead (h : Header) (tune : Nat)
  | chimeWrite (h : Header) (chimeSet position count : Nat) (tunes : List Nat) (step : Nat) (pointer : Option Nat)
  | chimeRead (h : Header) (chimeSet : Nat)
  /- Performances -/
  /-- `start = none` is NOW. -/
  | playTune (h : Header) (tune : Nat) (shift : Option Int) (start : Option Nat) (wait : Nat)
  | toll (h : Header) (bell strength interval count silenceClock : Nat) (start : Option Nat) (wait : Nat)
  | hush (h : Header) (clockFlag : Nat)
  | queueRead (h : Header)
  | clockstrikeConfig (h : Header) (bell strength interval gap : Nat)
  | clockstrikeRead (h : Header)
  | silenceWrite (h : Header) (entry enable startMinute endMinute classes silenced : Nat)
  | silenceRead (h : Header)
  /- Hammers -/
  | hammerConfig (h : Header) (bell lead recovery width fitted : Nat)
  | hammerRead (h : Header) (bell : Nat)
  | strikeQueueRead (h : Header) (start count : Nat)
  | testStroke (h : Header) (bell strength : Nat)
  /- Change ringing -/
  /-- A change is its 2-byte mask, place `p` in bit `p − 1`; `cover = 0` is no cover; an absent bob or
  single is `none` (R188). -/
  | methodWrite (h : Header) (method stage : Nat) (bells : List Nat) (cover leadCount : Nat)
      (lead : List (BitVec 16)) (bob single : Option (BitVec 16))
  | methodClear (h : Header) (method : Nat)
  | methodRead (h : Header) (method : Nat)
  /-- A call is its lead number and its kind, 0 BOB or 1 SINGLE. -/
  | touchStart (h : Header) (method strength beat opening closing maximum : Nat) (calls : List (Nat × Nat))
  | touchRead (h : Header)
  /- Swing bells -/
  | swingConfig (h : Header) (channel bell drive raiseLoad holdLoad raiseLimit settle fitted : Nat)
  /-- An entry is a channel and its stagger in ms; the duration is in minutes. -/
  | swingStart (h : Header) (entries : List (Nat × Nat)) (duration : Nat)
  /-- `none` is ALL. -/
  | swingStop (h : Header) (channels : Option (List Nat))
  | swingProgramWrite (h : Header) (program : Nat) (entries : List (Nat × Nat)) (duration : Nat)
  | swingProgramRead (h : Header) (program : Nat)
  | swingProgramStart (h : Header) (program : Nat)
  | swingRead (h : Header) (first count : Nat)
  /- Supply allowance and floodlights -/
  | allowanceSet (h : Header) (units : Nat)
  | allowanceRead (h : Header)
  | circuitConfig (h : Header) (circuit maxDraw yieldFlag floor : Nat)
  | sceneWrite (h : Header) (start count : Nat) (scenes : List Scene)
  | sceneRead (h : Header) (start count : Nat)
  | sceneApply (h : Header) (scene fade : Nat)
  /-- `mode`: 0 LIT, 1 PARTIAL, 2 DARK. -/
  | lightMode (h : Header) (mode first last : Nat)
  /-- An entry is a dusk minute and a dawn minute. -/
  | duskWrite (h : Header) (start : Nat) (entries : List (Nat × Nat))
  | duskRead (h : Header) (start count : Nat)
  /-- `trigger`: 0 FIXED, 1 DUSK, 2 DAWN; `value` is the minute or the offset. -/
  | scheduleWrite (h : Header) (entry enable classes trigger : Nat) (value : Int) (scene fade : Nat)
  | scheduleRead (h : Header) (start count : Nat)
  | lightRead (h : Header)
  /- Events: links and wiring -/
  | receiveByte (link : Link) (byte : Byte)
  | receiveTimeout (link : Link)
  | replySent (link : Link)
  /-- The position the key is turned to: the link it selects. -/
  | chamberKeyChange (position : Link)
  /- Events: time -/
  | slewSecondAdjust
  | rangeEnd
  | dayClassRenewal
  | referencePulse
  | referenceGap
  | timerExpired (timer : Nat)
  /- Events: dials -/
  | dialTargetChange (channel : Nat)
  | dialImpulseStart (channel : Nat)
  /-- `datum` is the level of the datum input at the impulse's end. -/
  | dialImpulseEnd (channel : Nat) (datum : Bool)
  | dialDriverFault (channel : Nat)
  /- Events: performances and hammers -/
  | clockEventBuild
  | dueStart (id : Nat)
  | performanceDeadline (id : Nat)
  | rowEmission
  | strikeEntryTaken
  /-- `faultInput` is the level of the hammer's fault input at the pulse's end. -/
  | hammerPulseEnd (bell : Nat) (faultInput : Bool)
  | hammerRecoveryEnd (bell : Nat)
  | hammerConfirmAsserted (bell : Nat)
  | hammerConfirmCleared (bell : Nat)
  | withdrawConfirmTimeout (bell : Nat)
  | engageClearTimeout (bell : Nat)
  /- Events: swing bells -/
  | staggerEnd (channel : Nat)
  | raiseRefused
  | passPulse (channel : Nat) (direction : Direction)
  | arcPulse (channel : Nat)
  | drivePulseEnd (channel : Nat)
  | raiseNoPass (channel : Nat)
  | raiseLimitEnd (channel : Nat)
  | swingPassWatchEnd (channel : Nat)
  | durationEnd (channel : Nat)
  | loweringPassWatchEnd (channel : Nat)
  | settleWatchEnd (channel : Nat)
  /- Events: floodlights -/
  | fadeStep (circuit : Nat)
  | scheduleEvaluation
  /- Events: supply and reset -/
  | putaway
  | supplyRecovered
  | powerUp
  | resetLineAssert
  | resetLineRelease
  | supplyLost
  deriving DecidableEq, Repr, Inhabited

end Sys2Proof
end

