-- ==== Sys2Proof/Config.lean ====
section
/-! DEFINITION. The capacities and times the manual fixes for the part, and the values it leaves open:
opaque constants without a body, so that no proof can rest on one of them. -/

namespace Sys2Proof.Config

/-- The last instant of the range, 2099-12-31 23:59:59.999 (R1). -/
def lastInstant : Nat := 3155759999999

def dayMs : Nat := 86400000
def minuteMs : Nat := 60000
/-- A quarter of an hour: quarter instants are whole multiples of it (00_scope.md, "Time"). -/
def quarterMs : Nat := 900000
/-- The longest silence of the reference while LOCKED (R11). -/
def referenceGap : Nat := 150000
/-- The largest error that is slewed rather than stepped (R8). -/
def slewLimit : Int := 2000
/-- The start allowance between a due start and its first landing (R62). -/
def startAllowance : Int := 2000
/-- How long before its due start a clock event is built (R68). -/
def buildAhead : Int := 60000
/-- The emission lookahead (R86). -/
def lookahead : Int := 1500
/-- Places of the performance queue (R61), the strike queue (R85) and the calendar (R15). -/
def queuePlaces : Nat := 8
def strikePlaces : Nat := 48
def calendarPlaces : Nat := 64
/-- The confirm and clear watches of a hammer (R94, R96). -/
def hammerWatch : Nat := 2000
/-- The watch for a pass (R125, R126, R127). -/
def passWatch : Nat := 4000
/-- The longest wait at the head of the raise queue (R143). -/
def headWait : Nat := 120000
/-- The fade of yield, restoration, retry and the end of forcing, in seconds (R144, R145, R147, R159). -/
def yieldFade : Nat := 5
/-- The receive gap watch (R167). -/
def receiveGap : Nat := 50

/-- The fields that may be absent (or NONE, NOW, ALL) and whose code for absent no record table gives
(R185: such a code is "stated in the record tables"; log entry 3). -/
inductive OptionalField where
  | chimeSet
  | shift
  | start
  | polarity
  | allKinds
  | allChannels
  | lastError
  | marker
  | impulse
  | bookedUntil
  | recoveryEnd
  | hammerCause
  | pulseLeft
  | watchLeft
  | rowNumber
  | nextCall
  | startPending
  | durationLeft
  | raiseElapsed
  | settleLeft
  | place
  | fade
  | desired
  | preYield
  | origin
  deriving DecidableEq, Repr

/-- The code of an absent field, where the manual gives none. Nothing constrains it (log entry 3). -/
opaque absentCode : OptionalField → Nat

/-- The byte that codes a way-down cause in SWING-STATE (R189 gives its place; no list in the manual
gives the order of the causes). The argument is the cause's place in the model's own type (log entry 5). -/
opaque wayDownCode : Nat → Nat

/-- Whether the battery held the retained area through a loss of supply, by the number of times the supply has
returned before (R180 names a battery that failed, and nothing says when one fails; log entry 23). -/
opaque batteryHeld : Nat → Bool

/-- The bytes of an event that a notice's detail reports as absent (R189 gives the code of an absent
performance id only). The argument is the byte's place in the field (log entry 5). -/
opaque absentEvent : Nat → Nat

/-- The part byte of a PERFORMANCE-OMITTED of a tune, toll, touch or swing start: R189 gives the byte a place, and its
codes name the parts of a clock event only (log entry 5). -/
opaque noPart : Nat

/-- The byte of an omission reason that TOUCH-ENDED reports as absent (R116, R189; log entry 5). -/
opaque absentReason : Nat

end Sys2Proof.Config
end

