-- ==== Sys2Proof/Machine/State.lean ====
section
/-! DEFINITION. Everything the manual gives the part to hold, as plain data, block by block in the order
of its chapters; the notices and replies it makes; the queue of commands that wait; and the state
right after a power-up that finds the retained area lost. Instants of the tower are counts of
milliseconds (R1), held as `Int` where a step may move them below 0; elapsed marks are values of
`State.elapsed`, the part's timebase. -/

namespace Sys2Proof.Machine

/-! ## Why a command stops -/

/-- The reasons a command could stop the machine. There are none: the manual gives every row of its
table an effect in every state, so the type is empty (safe: no run ends in a fault). -/
inductive Fault where
  deriving DecidableEq, Repr

/-- The reasons a command could be refused by the model. -/
inductive Refusal where
  /-- Raised by a dispatch arm whose row has no meaning yet (safe); no arm raises it. -/
  | notModelled (mnemonic : String)
  deriving DecidableEq, Repr

/-! ## Tower time (01_tower_time.md) -/

/-- Time validity (R2). -/
inductive Validity where
  | unset
  | isSet
  deriving DecidableEq, Repr, Inhabited

/-- The reference state (R7). -/
inductive RefState where
  | off
  | seeking
  | locked
  deriving DecidableEq, Repr, Inhabited

/-- The cause of a step (R12). -/
inductive StepCause where
  | timeSet
  | zoneSet
  | reference
  | rangeEnd
  deriving DecidableEq, Repr, Inhabited

/-- Where the class of a date was found (R16). -/
inductive ClassSource where
  | year
  | any
  | weekday
  deriving DecidableEq, Repr, Inhabited

/-- Tower time: R1 to R12 and the served marker of R22. -/
structure TowerTime where
  /-- The tower instant, ms from 2000-01-01 00:00:00.000 (R1). -/
  instant : Nat
  /-- The count has stopped at the end of the range (R3). -/
  stopped : Bool
  validity : Validity
  /-- The zone offset in minutes (R5). -/
  zone : Int
  refEnabled : Bool
  refState : RefState
  /-- The elapsed mark of the last pulse, from which the gap watch runs while LOCKED (R11). -/
  lastPulse : Nat
  /-- Slew remaining in ms (R9). -/
  slew : Int
  /-- The second in progress is not, or not again, to be adjusted: it began before slew remaining was
  set, or it has had its adjustment (R9). -/
  secondServed : Bool
  /-- The last reference error since the last restart, if any (R6). -/
  lastError : Option Int
  /-- The served marker as a quarter number, day number × 96 + quarter index, or empty (R22). -/
  marker : Option Nat
  /-- The minute number up to which minute boundaries have been dealt with (R163). -/
  minuteMark : Nat
  deriving DecidableEq, Repr, Inhabited

/-- A day-class record (R13); `chimeSet = none` is NONE. -/
structure DayClass where
  chimeSet : Option Nat
  strikeHours : Bool
  chimeQuarters : Bool
  deriving DecidableEq, Repr, Inhabited

/-- A calendar entry (R15); `year = none` is ANY. -/
structure CalEntry where
  month : Nat
  day : Nat
  year : Option Nat
  cls : Nat
  deriving DecidableEq, Repr, Inhabited

/-- The calendar (R13 to R16). -/
structure Calendar where
  classes : Vector DayClass 8
  weekdays : Vector Nat 7
  /-- In ascending key order, at most 64 (R15). -/
  entries : List CalEntry
  /-- Today's class, its source, and the day number it was renewed for (R16). -/
  today : Nat
  source : ClassSource
  todayDay : Nat
  deriving DecidableEq, Repr, Inhabited

/-- A service timer's expiry action (R18); the fade is in seconds. -/
inductive TimerAction where
  | none
  | startProgram (program : Nat)
  | stopSwing
  | applyScene (scene fade : Nat)
  deriving DecidableEq, Repr, Inhabited

/-- A service timer (R18): RUNNING while `ends` is present, the elapsed mark at which the remaining
count reaches 0. -/
structure Timer where
  ends : Option Nat
  mask : BitVec 6
  action : TimerAction
  deriving DecidableEq, Repr, Inhabited

/-! ## Clock dials (02_clock_dials.md) -/

inductive DialKind where
  | minute
  | half
  deriving DecidableEq, Repr, Inhabited

inductive Polarity where
  | pos
  | neg
  deriving DecidableEq, Repr, Inhabited

/-- A dial channel's configuration (R23). -/
structure DialConfig where
  kind : DialKind
  impulse : Nat
  gap : Nat
  wait : Nat
  datum : Bool
  deriving DecidableEq, Repr, Inhabited

/-- The states of a dial channel (R27). -/
inductive DialState where
  | fault
  | held
  | unknown
  | idle
  | running
  | wait
  | catchUp
  deriving DecidableEq, Repr, Inhabited

/-- What the last decision gave (R28). -/
inductive DialPhase where
  | running
  | wait
  | catchUp
  deriving DecidableEq, Repr, Inhabited

/-- An impulse in progress: its polarity and the elapsed mark at which it ends (R25). -/
structure Impulse where
  polarity : Polarity
  ends : Nat
  deriving DecidableEq, Repr, Inhabited

/-- A dial channel (R23, R25). -/
structure Dial where
  cfg : DialConfig
  /-- The believed position H. -/
  pos : Nat
  /-- The next polarity. -/
  polarity : Polarity
  known : Bool
  hold : Bool
  fault : Bool
  holdPending : Bool
  impulse : Option Impulse
  /-- The end of the last impulse, an elapsed mark. -/
  lastEnd : Nat
  /-- The last decision, and whether it called for an impulse that has not yet begun (R28, R29). -/
  phase : DialPhase
  due : Bool
  /-- The value of the target T when the channel last took account of it (R26). -/
  target : Nat
  /-- The level of the datum input as last sampled. -/
  datumInput : Bool
  deriving DecidableEq, Repr, Inhabited

/-! ## Score memory, tunes and chime sets (03_score_memory_tunes_and_chime_sets.md) -/

/-- The score memory (R40, R41): the cells that are not 0, as (address, strength) pairs in strictly
rising address order, where the cell of row `r` and column `c` has address `24 × r + (c − 1)`; and
the protected rows in strictly rising order. An unlisted cell is 0, an unlisted row unprotected. -/
structure Score where
  cells : List (Nat × BitVec 2)
  protectedRows : List Nat
  deriving DecidableEq, Repr, Inhabited

/-- A link's write window, cursor and stream (R42). -/
structure Window where
  firstRow : Nat
  lastRow : Nat
  firstCol : Nat
  lastCol : Nat
  row : Nat
  col : Nat
  stream : Bool
  deriving DecidableEq, Repr, Inhabited

/-- What a tune says besides its valid flag (R48), and a performance's snapshot of it (R54). -/
structure TuneSnap where
  start : Nat
  intro : Nat
  body : Nat
  coda : Nat
  passes : Nat
  beat : Nat
  shift : Int
  whole : Bool
  deriving DecidableEq, Repr, Inhabited

/-- A tune record (R48). -/
structure Tune where
  valid : Bool
  snap : TuneSnap
  deriving DecidableEq, Repr, Inhabited

/-- A position of a chime set (R55); its count is the length of its list. -/
structure ChimePos where
  tunes : List Nat
  pointer : Nat
  step : Nat
  deriving DecidableEq, Repr, Inhabited

/-! ## Performances (04_performances_and_the_hammer_arbiter.md) -/

/-- The performance classes, with SWING as PERFORMANCE-OMITTED uses it (R59, R185). -/
inductive PerfClass where
  | clock
  | tune
  | toll
  | touch
  | swing
  deriving DecidableEq, Repr, Inhabited

inductive PerfState where
  | waiting
  | active
  | paused
  deriving DecidableEq, Repr, Inhabited

/-- How a performance ended (R77). -/
inductive How where
  | complete
  | hushed
  | cut
  | step
  | mode
  deriving DecidableEq, Repr, Inhabited

/-- Why a performance or a part was omitted (R185). -/
inductive OmitReason where
  | silence
  | withdrawn
  | busy
  | mode
  | late
  | step
  deriving DecidableEq, Repr, Inhabited

/-- The part of a clock event a notice names (R185). -/
inductive ClockPart where
  | whole
  | chime
  | strike
  deriving DecidableEq, Repr, Inhabited

/-- The chime part of a clock event: the snapshot, the tune, the position of the chime set and the list
entry it was built from, and the landing C of its first row (R59, R69). -/
structure ChimePart where
  snap : TuneSnap
  tune : Nat
  chimeSet : Nat
  position : Nat
  entry : Nat
  first : Int
  deriving DecidableEq, Repr, Inhabited

/-- The strike part of a clock event: stroke i lands at `first + i × interval` (R69). -/
structure StrikePart where
  bell : Nat
  strength : Nat
  count : Nat
  interval : Nat
  first : Int
  deriving DecidableEq, Repr, Inhabited

/-- The snapshot a performance plays from (R59); a touch's stands in the touch context (R108). -/
inductive Source where
  | clock (event : Nat) (chime : Option ChimePart) (strike : Option StrikePart)
  | tune (number : Nat) (snap : TuneSnap)
  | toll (bell strength interval count : Nat) (silenceClock : Bool)
  | touch
  deriving DecidableEq, Repr, Inhabited

/-- A performance (R59). -/
structure Perf where
  id : Nat
  source : Source
  firstLanding : Int
  dueStart : Int
  deadline : Int
  state : PerfState
  /-- The test at the due start has been taken (R72, R76). -/
  tested : Bool
  /-- The plan origin S, once set (R59). -/
  origin : Option Int
  /-- The next row or stroke; for a clock event within the part at the cursor. -/
  cursor : Nat
  /-- For a clock event: the cursor stands in the strike part. -/
  inStrike : Bool
  /-- Stopped at a boundary, with how it will end (R77, R78). -/
  stopped : Option How
  booked : Nat
  dropped : Nat
  /-- The strike instant of its last entry taken (R75). -/
  lastTaken : Option Int
  deriving DecidableEq, Repr, Inhabited

/-- The clock strike configuration (R67). -/
structure ClockStrike where
  bell : Nat
  strength : Nat
  interval : Nat
  gap : Nat
  deriving DecidableEq, Repr, Inhabited

/-- A silence table entry (R70). -/
structure Silence where
  enable : Bool
  start : Nat
  stop : Nat
  classes : BitVec 8
  silenced : BitVec 6
  deriving DecidableEq, Repr, Inhabited

/-- The performance arbiter and the clock builder's settings (R59 to R70). -/
structure Arbiter where
  /-- In queue order (R61). -/
  queue : List Perf
  nextId : Nat
  clockStrike : ClockStrike
  silence : Vector Silence 16
  deriving DecidableEq, Repr, Inhabited

/-! ## Hammers and the strike queue (05_hammers_and_the_strike_queue.md) -/

inductive HammerState where
  | ready
  | striking
  | recovering
  | withdrawing
  | withdrawn
  | engaging
  | inhibited
  | fault
  deriving DecidableEq, Repr, Inhabited

inductive HammerCause where
  | actuator
  | engage
  deriving DecidableEq, Repr, Inhabited

/-- A hammer channel (R81, R83). -/
structure Hammer where
  lead : Nat
  recovery : Nat
  width : Nat
  fitted : Bool
  state : HammerState
  /-- The recovery end of its last actuation, a tower instant (R83). -/
  recoveryEnd : Option Int
  actuatorFault : Bool
  faultCause : Option HammerCause
  /-- The elapsed mark at which the pulse in flight ends, and the performance it belongs to (0: a test
  stroke). -/
  pulseEnds : Option Nat
  pulseId : Nat
  /-- The withdraw output. -/
  withdrawOutput : Bool
  /-- The elapsed mark at which the confirm or clear watch runs out. -/
  watch : Option Nat
  /-- The level of the withdrawn-confirm input, and of the fault input as last sampled. -/
  confirm : Bool
  faultInput : Bool
  deriving DecidableEq, Repr, Inhabited

/-- A strike queue entry (R85), with what a STROKE-DROPPED of it must report (R89): the class, the
strength and the wanted strike instant. -/
structure Entry where
  bell : Nat
  actuation : Int
  strike : Int
  pulse : Nat
  id : Nat
  row : Nat
  cls : PerfClass
  strength : Nat
  wanted : Int
  deriving DecidableEq, Repr, Inhabited

/-- Why a stroke was dropped (R87, R185). -/
inductive DropReason where
  | outOfRange
  | notFitted
  | fault
  | withdrawn
  | late
  deriving DecidableEq, Repr, Inhabited

/-! ## Change ringing (06_change_ringing.md) -/

/-- A method record (R102). A change is the mask of its places, place `p` in bit `p − 1`. -/
structure Method where
  valid : Bool
  stage : Nat
  bells : List Nat
  cover : Option Nat
  lead : List (BitVec 16)
  bob : Option (BitVec 16)
  single : Option (BitVec 16)
  deriving DecidableEq, Repr, Inhabited

inductive CallKind where
  | bob
  | single
  deriving DecidableEq, Repr, Inhabited

/-- An entry of a call list (R108). -/
structure Call where
  lead : Nat
  kind : CallKind
  deriving DecidableEq, Repr, Inhabited

inductive TouchStatus where
  | empty
  | waiting
  | ringing
  | ended
  deriving DecidableEq, Repr, Inhabited

inductive TouchPhase where
  | opening
  | changes
  | closing
  deriving DecidableEq, Repr, Inhabited

/-- How a touch ended (R116). -/
inductive TouchHow where
  | rounds
  | cut
  | hushed
  | mode
  | omitted
  deriving DecidableEq, Repr, Inhabited

/-- The touch context (R108, R109). -/
structure Touch where
  status : TouchStatus
  method : Nat
  snap : Method
  strength : Nat
  beat : Nat
  opening : Nat
  closing : Nat
  maximum : Nat
  calls : List Call
  id : Nat
  phase : TouchPhase
  /-- The current row by position, and its row number. -/
  row : List Nat
  rowNumber : Option Nat
  leadNumber : Nat
  changeIndex : Nat
  /-- The place in the call list of the next call (its length: none left). -/
  nextCall : Nat
  rowsRung : Nat
  changedRows : Nat
  falseRows : Nat
  closingLeft : Nat
  cameRound : Bool
  /-- The ranks marked in the truth map; absent for stage 8 and above. -/
  marks : Option (List Nat)
  deriving DecidableEq, Repr, Inhabited

/-! ## Swing bells (07_swing_bells.md) -/

/-- A swing channel's configuration (R119); times in ms for the drive pulse, else in seconds. -/
structure SwingConfig where
  bell : Nat
  drive : Nat
  raiseLoad : Nat
  holdLoad : Nat
  raiseLimit : Nat
  settle : Nat
  fitted : Bool
  deriving DecidableEq, Repr, Inhabited

inductive SwingState where
  | down
  | queued
  | clearing
  | raising
  | swinging
  | lowering
  | settling
  | restoring
  | fault
  deriving DecidableEq, Repr, Inhabited

/-- Why a channel last left its way up (R122). -/
inductive WayDown where
  | none
  | stop
  | duration
  | raiseTimeout
  | maintenance
  | refused
  | moved
  | restart
  | faultClear
  deriving DecidableEq, Repr, Inhabited

inductive SwingCause where
  | none
  | withdrawFailed
  | confirmLost
  | engageFailed
  | noPass
  deriving DecidableEq, Repr, Inhabited

/-- A start pending (R122, R132): when its stagger ends, its duration in minutes, the program it came
from (0: none), and its request and place in that request's list. -/
structure StartPending where
  ends : Nat
  duration : Nat
  program : Nat
  request : Nat
  place : Nat
  deriving DecidableEq, Repr, Inhabited

/-- A drive pulse in progress (R121). -/
structure DrivePulse where
  direction : Direction
  ends : Nat
  deriving DecidableEq, Repr, Inhabited

/-- A swing channel (R119, R122). The watches are the elapsed marks at which they run out. -/
structure Swing where
  cfg : SwingConfig
  state : SwingState
  start : Option StartPending
  duration : Nat
  arcRun : Nat
  driveCount : Nat
  arcSeen : Bool
  drive : Option DrivePulse
  /-- The raise limit, the duration and the settle time. -/
  raiseEnds : Option Nat
  durationEnds : Option Nat
  settleEnds : Option Nat
  /-- The 4 s watch for a pass: in RAISING from a drive pulse's end, in SWINGING and LOWERING from a
  pass or entry. -/
  passEnds : Option Nat
  /-- The last pass since entry to RAISING (R127). -/
  lastPass : Option Nat
  wayDown : WayDown
  cause : SwingCause
  deriving DecidableEq, Repr, Inhabited

/-- A swing program (R134): entries of channel and stagger, and a duration in minutes. -/
structure Program where
  entries : List (Nat × Nat)
  duration : Nat
  deriving DecidableEq, Repr, Inhabited

/-! ## Supply allowance (08_tower_supply_allowance.md) -/

/-- The supply allowance (R139 to R147). -/
structure Allowance where
  units : Nat
  /-- The raise queue, head first (R141). -/
  queue : List Nat
  /-- The elapsed mark from which the head's wait watch runs (R143). -/
  headSince : Nat
  yieldOrdered : Bool
  yieldSet : List Nat
  /-- A new head has still to be tried, a release has still to be worked through (R141, R147): both
  are settled before a command ends. -/
  headDue : Bool
  releaseDue : Bool
  deriving DecidableEq, Repr, Inhabited

/-! ## Floodlights (09_floodlights.md) -/

/-- A fade in progress (R153). -/
structure Fade where
  start : Nat
  done : Nat
  total : Nat
  began : Nat
  deriving DecidableEq, Repr, Inhabited

/-- A floodlight circuit (R149, R151). -/
structure Circuit where
  maxDraw : Nat
  yields : Bool
  floor : Nat
  output : Nat
  target : Nat
  fade : Option Fade
  forced : Bool
  desired : Option Nat
  preYield : Option Nat
  deriving DecidableEq, Repr, Inhabited

inductive LightMode where
  | lit
  | partialRange
  | dark
  deriving DecidableEq, Repr, Inhabited

/-- A schedule entry's trigger (R161, R162). -/
inductive Trigger where
  | fixed (minute : Nat)
  | dusk (offset : Int)
  | dawn (offset : Int)
  deriving DecidableEq, Repr, Inhabited

/-- A schedule entry (R162). -/
structure SchedEntry where
  enable : Bool
  classes : BitVec 8
  trigger : Trigger
  scene : Nat
  fade : Nat
  deriving DecidableEq, Repr, Inhabited

/-- The floodlight controller (R149 to R164). -/
structure Lights where
  circuits : Vector Circuit 16
  scenes : Vector Scene 64
  mode : LightMode
  first : Nat
  last : Nat
  /-- Dusk and dawn minutes (R160). -/
  dusk : Vector (Nat × Nat) 53
  schedule : Vector SchedEntry 48
  deriving DecidableEq, Repr, Inhabited

/-! ## Notices, replies and links (10_links_and_notices.md, 12_frame_and_record_layouts.md) -/

/-- The statuses of replies (R169). -/
inductive Status where
  | ok
  | unknownKind
  | badLength
  | badValue
  | busy
  | refusedLocal
  | refusedMode
  | refusedSilence
  | full
  | notFound
  | timeUnset
  | overAllowance
  | noStream
  deriving DecidableEq, Repr, Inhabited

inductive RestartCause where
  | powerUp
  | resetLine
  | resetRequest
  | supplyRecovered
  deriving DecidableEq, Repr, Inhabited

/-- The outcome in TIMER-EXPIRED (R19, R21); per-channel statuses are listed with their channels. -/
inductive TimerOutcome where
  | none
  | notPerformed
  | status (status : Status) (channels : List (Nat × Status))
  deriving DecidableEq, Repr, Inhabited

/-- The receive error counters (R170). -/
inductive Counter where
  | badCrc
  | badLength
  | timeout
  | overrun
  deriving DecidableEq, Repr, Inhabited

/-- A notice's detail: one constructor per kind of R173, in kind order, with the fields of R189. -/
inductive Detail where
  | timeStepped (step : Int) (cause : StepCause) (old new : Nat) (before after : Validity)
  | referenceState (previous new : RefState) (gap : Bool)
  | clockEventsSkipped (count first last : Nat)
  | dialFault (channel pos : Nat) (polarity : Polarity) (target instant : Nat)
  | dialSlip (channel : Nat) (missing : Bool) (error : Int) (before : Nat)
  | hammerFault (bell : Nat) (cause : HammerCause) (id dropped : Nat)
  | strokeDropped (id : Nat) (cls : PerfClass) (row : Nat) (bell : Int) (strength : Nat) (reason : DropReason)
      (wanted : Int) (slip : Nat)
  | performanceOmitted (id : Nat) (cls : PerfClass) (reason : OmitReason) (part : ClockPart) (event : Option Nat)
      (channel program : Nat)
  | performanceEnded (id : Nat) (cls : PerfClass) (how : How) (booked dropped : Nat)
  | falseRow (id rowNumber : Nat) (row : List Nat) (rank lead index : Nat)
  | touchEnded (id method : Nat) (how : TouchHow) (reason : Option OmitReason) (cameRound : Bool)
      (rows changed falseRows lead callsUsed callsListed : Nat) (row : List Nat)
  | swingState (channel bell : Nat) (state : SwingState) (driveCount : Nat) (wayDown : WayDown)
  | swingFault (channel bell : Nat) (cause : SwingCause) (left : SwingState)
  | raiseRefused (channel bell load free : Nat) (yielded : List Nat)
  | loadHeld (circuit desired granted free : Nat)
  | timerExpired (timer : Nat) (action : TimerAction) (outcome : TimerOutcome)
  | restarted (cause : RestartCause) (lost : Bool) (validity : Validity)
  | linkErrors (link : Link) (counter : Counter)
  deriving DecidableEq, Repr, Inhabited

/-- A detail record: the latest occurrence of a kind and its tower instant (R173). -/
structure Note where
  instant : Nat
  detail : Detail
  deriving DecidableEq, Repr, Inhabited

/-- One circuit set by a SCENE-APPLY: its number, the target granted, and whether it is held (R157). -/
structure Granted where
  circuit : Nat
  target : Nat
  held : Bool
  deriving DecidableEq, Repr, Inhabited

/-- What SWING-READ gives of one channel (R138). -/
structure SwingView where
  channel : Nat
  swing : Swing
  commitment : Nat
  startLeft : Option Nat
  durationLeft : Option Nat
  raiseElapsed : Option Nat
  settleLeft : Option Nat
  hammer : HammerState
  place : Option Nat
  deriving DecidableEq, Repr, Inhabited

/-- What TOUCH-READ gives of a context that is not EMPTY (R118): the next call with its position in the call list,
the first being 0; the phase while RINGING; the number of marks for a stage of 7 or less; the due start and deadline
while WAITING; the plan origin and the cursor while RINGING. -/
structure TouchView where
  id : Nat
  method : Nat
  stage : Nat
  cover : Option Nat
  strength : Nat
  beat : Nat
  opening : Nat
  closing : Nat
  maximum : Nat
  phase : Option TouchPhase
  row : List Nat
  rowNumber : Option Nat
  leadNumber : Nat
  changeIndex : Nat
  nextCall : Option (Nat × Call)
  rowsRung : Nat
  changedRows : Nat
  falseRows : Nat
  closingLeft : Nat
  cameRound : Bool
  marksSet : Option Nat
  due : Option (Int × Int)
  plan : Option (Option Int × Nat)
  deriving DecidableEq, Repr, Inhabited

/-- What follows the status in a reply, as each request's rule gives it. -/
inductive Body where
  | none
  | identity (vendor part revision : Nat) (capacities : List Nat) (link key : Link)
  | counters (badCrc badLength timeout overrun : Nat)
  | notices (entries : List (Nat × Nat × Note)) (next : Nat)
  | masks (unmasked : List Nat) (held : List (Nat × Nat))
  | count (n : Nat)
  /-- The rows whose protect flag changed, and the rows now protected (R41). -/
  | counts (a b : Nat)
  /-- The remaining seconds of a timer just started (R18). -/
  | seconds (n : Nat)
  | wasSet (yes : Bool)
  | timeSet (step : Int) (old new : Nat)
  | zone (minutes offset : Int) (old new : Nat)
  | time (instant year month day weekday msOfDay dayOfYear : Nat) (validity : Validity) (zone : Int)
      (enable : Bool) (reference : RefState) (slew : Int) (lastError : Option Int) (cls : Nat)
      (source : ClassSource) (marker : Option Nat)
  | reference (state : RefState)
  | classes (records : List DayClass)
  | weekdays (classes : List Nat)
  | calendar (entries : List CalEntry) (size : Nat)
  | timerStop (wasRunning : Bool) (remaining : Nat)
  /-- For each timer: running, remaining, mask, action. -/
  | timers (records : List (Bool × Nat × BitVec 6 × TimerAction))
  | dialConfig (cfg : DialConfig)
  | dialPosition (pos : Nat) (polarity : Polarity)
  | dial (cfg : DialConfig) (pos : Nat) (polarity : Polarity) (target : Nat) (state : DialState)
      (known hold holdPending : Bool) (impulse : Option (Polarity × Nat))
  | window (w : Window)
  | stored (stored skipped row col : Nat)
  | scoreCells (row col count : Nat) (cells : List (BitVec 2)) (protectFlags : List Bool)
  /-- A tune's number and its record, valid flag included. -/
  | tune (number : Nat) (t : Tune)
  | tuneStored (number : Nat) (snap : TuneSnap)
  | listedAt (chimeSet position : Nat)
  | chime (chimeSet position : Nat) (p : ChimePos)
  | chimes (chimeSet : Nat) (positions : List ChimePos)
  | queued (id : Nat) (firstLanding dueStart deadline : Int)
  | touchQueued (id : Nat) (firstLanding dueStart deadline : Int)
      (strength beat opening closing maximum : Nat)
  /-- Each performance with its slip limit and, for a touch, the number of its method. -/
  | queue (performances : List (Perf × Nat × Option Nat)) (nextId free : Nat)
  | clockStrike (c : ClockStrike)
  | silences (entries : List Silence)
  | hammerConfig (bell lead recovery width : Nat) (fitted : Bool)
  | hammer (bell : Nat) (h : Hammer) (bookedUntil : Option Int) (pulseLeft watchLeft : Option Nat) (entries : Nat)
  | strikes (size : Nat) (entries : List Entry)
  | testStroke (pulse : Nat) (instant : Nat)
  | changeIndex (index : Nat)
  | method (number : Nat) (m : Method)
  /-- The status, and the context unless it is EMPTY. -/
  | touch (status : TouchStatus) (context : Option TouchView)
  | swingConfig (channel : Nat) (cfg : SwingConfig)
  | statuses (channels : List (Nat × Status))
  | swingStates (channels : List (Nat × SwingState))
  | program (p : Program)
  | swings (channels : List SwingView)
  | allowance (units commitment : Nat)
  | commitment (commitment : Nat)
  | allowanceRead (units commitment free : Nat) (circuits swings queue : List Nat) (headWait : Nat)
      (yieldOrdered : Bool) (yieldSet : List Nat) (yielded : List (Nat × Nat)) (held : List (Nat × Nat × Nat))
  | circuit (number maxDraw : Nat) (yields : Bool) (floor : Nat)
  /-- The commitment and the allowance of a CIRCUIT-CONFIG refused (R150). -/
  | overdrawn (commitment units : Nat)
  | scenesWritten (stored skipped next : Nat)
  | scenes (start : Nat) (scenes : List Scene)
  | granted (circuits : List Granted)
  | lightMode (mode : LightMode) (first last : Nat)
  | dusks (entries : List (Nat × Nat))
  | schedEntry (number : Nat) (e : SchedEntry)
  /-- Each entry from the start index on, with its trigger minute for today. -/
  | schedule (start : Nat) (entries : List (SchedEntry × Nat))
  | lights (mode : LightMode) (first last : Nat) (circuits : List (Circuit × Nat))
  deriving DecidableEq, Repr, Inhabited

/-- A reply: its kind byte, the request's tag, the status and the rest of the payload (R169). -/
structure Reply where
  kind : Nat
  tag : Nat
  status : Status
  body : Body
  deriving DecidableEq, Repr, Inhabited

/-- The receiver's states (R167). -/
inductive RxState where
  | hunt
  | length
  | body
  | check
  deriving DecidableEq, Repr, Inhabited

/-- A link's receiver (R167): its state, the bytes kept after the start byte, and the elapsed mark of the
last byte from the line. -/
structure Receiver where
  state : RxState
  kept : List Byte
  lastByte : Nat
  deriving DecidableEq, Repr, Inhabited

/-- The four error counters of a link (R170). -/
structure Counters where
  badCrc : Nat
  badLength : Nat
  timeout : Nat
  overrun : Nat
  deriving DecidableEq, Repr, Inhabited

/-- A link (R42, R166 to R178). Kind `k` stands at place `k`: `unmasked` says it is unmasked; its count
in the pending and held sets is 0 when it is in neither. -/
structure LinkState where
  receiver : Receiver
  counters : Counters
  unmasked : Vector Bool 18
  pending : Vector Nat 18
  held : Vector Nat 18
  /-- The reply that has not yet been sent in full (R168). -/
  reply : Option Reply
  window : Window
  deriving DecidableEq, Repr, Inhabited

/-! ## Supply and modes (11_supply_failure_restart_and_modes.md) -/

/-- The supply, the reset line and whether the part operates (R179 to R181). -/
structure Power where
  /-- In operation: not in putaway, not held, not without supply. -/
  operating : Bool
  /-- The tower supply is present. -/
  supply : Bool
  /-- The supply was lost since the part last operated. -/
  lost : Bool
  /-- The supply-fail input and the reset line, asserted or not. -/
  failInput : Bool
  resetLine : Bool
  /-- The putaway marker is GOOD (R180). -/
  markerGood : Bool
  /-- The model's own: how many times the supply has returned, which tells one free value of the battery from the next
  (log entry 23). -/
  powerUps : Nat
  deriving DecidableEq, Repr, Inhabited

/-! ## The state -/

/-- The state of the part, with the commands that wait, first in, first out. -/
structure State where
  /-- The timebase: milliseconds elapsed since the model began (R1). -/
  elapsed : Nat
  time : TowerTime
  calendar : Calendar
  /-- The two service timers (R18). -/
  timers : Vector Timer 2
  dials : Vector Dial 4
  score : Score
  tunes : Vector Tune 32
  chimes : Vector (Vector ChimePos 4) 8
  arbiter : Arbiter
  hammers : Vector Hammer 24
  /-- The strike queue (R85). -/
  strikes : List Entry
  methods : Vector Method 8
  touch : Touch
  swings : Vector Swing 12
  programs : Vector Program 4
  /-- The number of start requests accepted since the last restart: it marks which starts pending
  came with one request (R132). -/
  startRequests : Nat
  allowance : Allowance
  lights : Lights
  /-- The detail record of each notice kind (R173). -/
  details : Vector (Option Note) 18
  panel : LinkState
  chamber : LinkState
  /-- The chamber key's position: the link it selects (R172). -/
  key : Link
  /-- The part mode is MAINTENANCE (R183). -/
  maintenance : Bool
  power : Power
  /-- The commands that wait, the next one first. -/
  pending : List Instr
  deriving DecidableEq, Repr, Inhabited

/-! ## The state after reset

A part that is powered up for the first time: the putaway marker is CLEAR, so the retained area is
initialised (R180) and every block starts as R182 tabulates. -/

/-- A dial channel after retained loss (R23, R25). -/
def Dial.initial : Dial where
  cfg := { kind := .minute, impulse := 500, gap := 500, wait := 0, datum := false }
  pos := 0
  polarity := .pos
  known := false
  hold := false
  fault := false
  holdPending := false
  impulse := none
  lastEnd := 0
  phase := .running
  due := false
  target := 0
  datumInput := false

/-- The whole-memory window with a closed stream (R42). -/
def Window.initial : Window where
  firstRow := 0
  lastRow := 1023
  firstCol := 1
  lastCol := 24
  row := 0
  col := 1
  stream := false

/-- A tune record after retained loss (R48). -/
def Tune.initial : Tune where
  valid := false
  snap := { start := 0, intro := 0, body := 1, coda := 0, passes := 1, beat := 1000, shift := 0, whole := false }

/-- An empty position of a chime set (R55). -/
def ChimePos.initial : ChimePos := { tunes := [], pointer := 0, step := 1 }

/-- A disabled silence entry (R70). -/
def Silence.initial : Silence := { enable := false, start := 0, stop := 0, classes := 0, silenced := 0 }

/-- The clock strike configuration after retained loss (R67). -/
def ClockStrike.initial : ClockStrike := { bell := 24, strength := 3, interval := 2500, gap := 2000 }

/-- A hammer channel after retained loss, READY (R81, R101). -/
def Hammer.initial : Hammer where
  lead := 100
  recovery := 400
  width := 60
  fitted := true
  state := .ready
  recoveryEnd := none
  actuatorFault := false
  faultCause := none
  pulseEnds := none
  pulseId := 0
  withdrawOutput := false
  watch := none
  confirm := false
  faultInput := false

/-- A hammer channel of a swing bell after retained loss: WITHDRAWING, with its output asserted and its
2 s confirm watch started (R101). -/
def Hammer.initialTied : Hammer :=
  { Hammer.initial with state := .withdrawing, withdrawOutput := true, watch := some 2000 }

/-- A method record after retained loss (R102): stage 4, two changes that make all four places. -/
def Method.initial : Method where
  valid := false
  stage := 4
  bells := [1, 2, 3, 4]
  cover := none
  lead := [0xF, 0xF]
  bob := none
  single := none

/-- The EMPTY touch context (R109; the fields' values are a DESIGN CHOICE, log entry 7). -/
def Touch.initial : Touch where
  status := .empty
  method := 0
  snap := Method.initial
  strength := 0
  beat := 0
  opening := 0
  closing := 0
  maximum := 0
  calls := []
  id := 0
  phase := .opening
  row := []
  rowNumber := none
  leadNumber := 1
  changeIndex := 1
  nextCall := 0
  rowsRung := 0
  changedRows := 0
  falseRows := 0
  closingLeft := 0
  cameRound := false
  marks := none

/-- Swing channel `n` after retained loss, SETTLING from the start of operation (R119, R122). R122's table has no arc-seen
flag: it starts clear, at reset and at every restart (R121; DESIGN CHOICE, log entry 7). -/
def Swing.initial (n : Nat) : Swing where
  cfg := { bell := n, drive := 500, raiseLoad := 10, holdLoad := 4, raiseLimit := 90, settle := 20, fitted := false }
  state := .settling
  start := none
  duration := 0
  arcRun := 0
  driveCount := 0
  arcSeen := false
  drive := none
  raiseEnds := none
  durationEnds := none
  settleEnds := some 20000
  passEnds := none
  lastPass := none
  wayDown := .restart
  cause := .none

/-- A floodlight circuit after retained loss (R149, R151). -/
def Circuit.initial : Circuit where
  maxDraw := 0
  yields := false
  floor := 0
  output := 0
  target := 0
  fade := none
  forced := false
  desired := none
  preYield := none

/-- A scene with all levels 0 and an empty keep mask (R154). -/
def sceneOff : Scene := { levels := Vector.replicate 16 0, keep := 0 }

/-- A disabled schedule entry (R162). -/
def SchedEntry.initial : SchedEntry :=
  { enable := false, classes := 0, trigger := .fixed 0, scene := 0, fade := 0 }

/-- The default masks of the Panel link, kinds 1..18: on is unmasked (R173). -/
def panelMask : Vector Bool 18 :=
  #v[true, true, true, true, true, true, false, true, false, false, true, false, true, true, false, true, true, false]

/-- The default masks of the Chamber link (R173). -/
def chamberMask : Vector Bool 18 :=
  #v[false, false, false, false, false, true, false, false, true, true, true, true, true, true, false, false, true, false]

/-- A link at the start of operation, before any notice (R42, R178), its receiver in HUNT, whose lastByte is 0 (DESIGN CHOICE,
log entry 7). -/
def LinkState.initial (mask : Vector Bool 18) : LinkState where
  receiver := { state := .hunt, kept := [], lastByte := 0 }
  counters := { badCrc := 0, badLength := 0, timeout := 0, overrun := 0 }
  unmasked := mask
  pending := Vector.replicate 18 0
  held := Vector.replicate 18 0
  reply := none
  window := Window.initial

/-- A link after the first notice of a restart, RESTARTED, which is unmasked on both links (R178, R182). -/
def LinkState.restarted (mask : Vector Bool 18) : LinkState :=
  let l := LinkState.initial mask
  { l with pending := l.pending.set 16 1 }

/-- The part right after reset: the start of operation after a power-up that found the putaway marker
CLEAR (R180, R182), with RESTARTED pending on both links and no command waiting (what the manual leaves open
here: log entry 6). -/
def State.reset : State where
  elapsed := 0
  time :=
    { instant := 0, stopped := false, validity := .unset, zone := 0, refEnabled := true, refState := .seeking,
      lastPulse := 0, slew := 0, secondServed := false, lastError := none, marker := none, minuteMark := 0 }
  calendar :=
    { classes := Vector.replicate 8 { chimeSet := none, strikeHours := true, chimeQuarters := false },
      weekdays := Vector.replicate 7 0, entries := [], today := 0, source := .weekday, todayDay := 0 }
  timers := Vector.replicate 2 { ends := none, mask := 0, action := .none }
  dials := Vector.replicate 4 Dial.initial
  score := { cells := [], protectedRows := [] }
  tunes := Vector.replicate 32 Tune.initial
  chimes := Vector.replicate 8 (Vector.replicate 4 ChimePos.initial)
  arbiter :=
    { queue := [], nextId := 1, clockStrike := ClockStrike.initial, silence := Vector.replicate 16 Silence.initial }
  hammers := Vector.replicate 12 Hammer.initialTied ++ Vector.replicate 12 Hammer.initial
  strikes := []
  methods := Vector.replicate 8 Method.initial
  touch := Touch.initial
  swings := Vector.ofFn (fun i : Fin 12 => Swing.initial (i.val + 1))
  programs := Vector.replicate 4 { entries := [], duration := 0 }
  startRequests := 0
  allowance :=
    { units := 60, queue := [], headSince := 0, yieldOrdered := false, yieldSet := [], headDue := false, releaseDue := false }
  lights :=
    { circuits := Vector.replicate 16 Circuit.initial, scenes := Vector.replicate 64 sceneOff, mode := .lit,
      first := 1, last := 16, dusk := Vector.replicate 53 (1080, 360), schedule := Vector.replicate 48 SchedEntry.initial }
  details := (Vector.replicate 18 none).set 16 (some { instant := 0, detail := .restarted .powerUp true .unset })
  panel := LinkState.restarted panelMask
  chamber := LinkState.restarted chamberMask
  key := .panel
  maintenance := false
  power :=
    { operating := true, supply := true, lost := false, failInput := false, resetLine := false, markerGood := false,
      powerUps := 0 }
  pending := []

end Sys2Proof.Machine
end

