-- ==== Sys2Proof/Machine/Ops.lean ====
section
/-! DEFINITION. The operations every block uses: reading and replacing the record of one channel or
link, dates and day classes (01_tower_time.md), raising a notice (10_links_and_notices.md), counting
a receive error, taking a request and answering it, and the silence test. -/

namespace Sys2Proof.Machine

open Sys2Proof

/-! ## Channels and links -/

def State.dial (s : State) (c : Nat) : Dial := nth s.dials c
def State.withDial (s : State) (c : Nat) (d : Dial) : State := { s with dials := setNth s.dials c d }
def State.hammer (s : State) (b : Nat) : Hammer := nth s.hammers b
def State.withHammer (s : State) (b : Nat) (x : Hammer) : State := { s with hammers := setNth s.hammers b x }
def State.swing (s : State) (c : Nat) : Swing := nth s.swings c
def State.withSwing (s : State) (c : Nat) (x : Swing) : State := { s with swings := setNth s.swings c x }
def State.circuit (s : State) (c : Nat) : Circuit := nth s.lights.circuits c
def State.withCircuit (s : State) (c : Nat) (x : Circuit) : State :=
  { s with lights := { s.lights with circuits := setNth s.lights.circuits c x } }
def State.timer (s : State) (n : Nat) : Timer := nth s.timers n
def State.withTimer (s : State) (n : Nat) (t : Timer) : State := { s with timers := setNth s.timers n t }

/-- The record of a link. -/
def State.link (s : State) : Link → LinkState
  | .panel => s.panel
  | .chamber => s.chamber

/-- The state with one link's record replaced. -/
def State.withLink (s : State) (l : Link) (x : LinkState) : State :=
  match l with
  | .panel => { s with panel := x }
  | .chamber => { s with chamber := x }

/-- A link's attention output: asserted while its pending set is not empty (R174). -/
def LinkState.attention (l : LinkState) : Bool := l.pending.toList.any (0 < ·)

/-- "Now": the current tower instant (00_scope.md, "Time"). -/
def State.now (s : State) : Int := s.time.instant

/-! ## Dates (R1) -/

structure Date where
  year : Nat
  month : Nat
  day : Nat
  deriving DecidableEq, Repr, Inhabited

/-- "Within 2000..2099 every year divisible by 4 is a leap year" (R1). -/
def leapYear (year : Nat) : Bool := year % 4 == 0

/-- The length of a month (R1). -/
def monthLength (year month : Nat) : Nat :=
  if month = 2 then (if leapYear year then 29 else 28)
  else if month = 4 ∨ month = 6 ∨ month = 9 ∨ month = 11 then 30 else 31

/-- The month and day of the day with `d` days of its year before it. -/
def monthDay (year : Nat) : List Nat → Nat → Nat × Nat
  | [], d => (12, d + 1)
  | m :: ms, d => if d < monthLength year m then (m, d + 1) else monthDay year ms (d - monthLength year m)

/-- The year of day number `d` and the days of that year before it. -/
def yearDay (d : Nat) : Nat × Nat :=
  let r := d % 1461
  if r < 366 then (2000 + 4 * (d / 1461), r)
  else (2001 + 4 * (d / 1461) + (r - 366) / 365, (r - 366) % 365)

/-- The date of day number `d` (R1). -/
def dateOf (d : Nat) : Date :=
  let y := yearDay d
  let m := monthDay y.1 (numbers 1 12) y.2
  { year := y.1, month := m.1, day := m.2 }

/-- The day-of-year of day number `d`, 1 for 1 January (R1). -/
def dayOfYear (d : Nat) : Nat := (yearDay d).2 + 1

/-- The day number of a date in 2000..2099 (R1). -/
def dayNumber (year month day : Nat) : Nat :=
  let y := year - 2000
  365 * y + (y + 3) / 4 + ((numbers 1 (month - 1)).map (monthLength year)).sum + day - 1

/-- The weekday of day number `d`, 1 Monday through 7 Sunday (R1). -/
def weekdayOf (d : Nat) : Nat := (d + 5) % 7 + 1

def dayOf (instant : Nat) : Nat := instant / Config.dayMs
def msOfDay (instant : Nat) : Nat := instant % Config.dayMs
def minuteOfDay (instant : Nat) : Nat := msOfDay instant / Config.minuteMs
def msOfMinute (instant : Nat) : Nat := instant % Config.minuteMs

/-- A day exists in a year: not 0 and not beyond the month (R4, R15). -/
def dayExists (year month day : Nat) : Bool := within 1 (monthLength year month) day

/-! ## The calendar (R16) -/

/-- The class of the date of day number `d`, by precedence, with its source (R16). -/
def classOf (c : Calendar) (d : Nat) : Nat × ClassSource :=
  let t := dateOf d
  match c.entries.find? (fun e => e.month == t.month && e.day == t.day && e.year == some t.year) with
  | some e => (e.cls, .year)
  | none =>
    match c.entries.find? (fun e => e.month == t.month && e.day == t.day && e.year == none) with
    | some e => (e.cls, .any)
    | none => (nth c.weekdays (weekdayOf d), .weekday)

/-- Today's class renewed for the date of now (R16). -/
def renewToday (s : State) : State :=
  let d := dayOf s.time.instant
  let x := classOf s.calendar d
  { s with calendar := { s.calendar with today := x.1, source := x.2, todayDay := d } }

/-- The date of now is not the one today's class was renewed for (R16). -/
def renewalDue (s : State) : Bool := s.calendar.todayDay != dayOf s.time.instant

/-- Today's class is renewed when the count has passed into a new date (R16). -/
def renewIfDue (s : State) : State := if renewalDue s then renewToday s else s

/-! ## Notices (R173, R174) -/

/-- The number of a notice's kind (R173). -/
def Detail.kind : Detail → Nat
  | .timeStepped .. => 1
  | .referenceState .. => 2
  | .clockEventsSkipped .. => 3
  | .dialFault .. => 4
  | .dialSlip .. => 5
  | .hammerFault .. => 6
  | .strokeDropped .. => 7
  | .performanceOmitted .. => 8
  | .performanceEnded .. => 9
  | .falseRow .. => 10
  | .touchEnded .. => 11
  | .swingState .. => 12
  | .swingFault .. => 13
  | .raiseRefused .. => 14
  | .loadHeld .. => 15
  | .timerExpired .. => 16
  | .restarted .. => 17
  | .linkErrors .. => 18

/-- A kind is latched; the others are transient (R173). -/
def latched (kind : Nat) : Bool :=
  !(kind == 7 || kind == 9 || kind == 10 || kind == 12 || kind == 15 || kind == 18)

/-- What an occurrence of a kind does to one link's sets (R174). -/
def LinkState.occur (l : LinkState) (kind : Nat) : LinkState :=
  if nth l.unmasked kind then { l with pending := setNth l.pending kind (countUp 255 (nth l.pending kind)) }
  else if latched kind then { l with held := setNth l.held kind (countUp 255 (nth l.held kind)) }
  else l

/-- A notice is raised: its detail record is replaced, then each link takes the occurrence (R173, R174). -/
def raise (d : Detail) (s : State) : State :=
  { s with
    details := setNth s.details d.kind (some { instant := s.time.instant, detail := d })
    panel := s.panel.occur d.kind
    chamber := s.chamber.occur d.kind }

/-! ## Receive errors (R170) -/

def Counters.clear (c : Counters) : Bool :=
  c.badCrc == 0 && c.badLength == 0 && c.timeout == 0 && c.overrun == 0

/-- A counter increased by 1, stopping at 65,535 (R170). -/
def Counters.bump (c : Counters) : Counter → Counters
  | .badCrc => { c with badCrc := countUp 65535 c.badCrc }
  | .badLength => { c with badLength := countUp 65535 c.badLength }
  | .timeout => { c with timeout := countUp 65535 c.timeout }
  | .overrun => { c with overrun := countUp 65535 c.overrun }

/-- A discard is counted; LINK-ERRORS is raised when all four counters stood at 0 (R170). -/
def countError (l : Link) (k : Counter) (s : State) : State :=
  let x := s.link l
  let s' := s.withLink l { x with counters := x.counters.bump k }
  if x.counters.clear then raise (.linkErrors l k) s' else s'

/-! ## Requests and replies (R168, R169) -/

/-- What a request's rule gives: the state it leaves, the status and the rest of the reply. -/
structure Answer where
  state : State
  status : Status
  body : Body

/-- The reply is OK. -/
def accept (s : State) (b : Body) : Answer := { state := s, status := .ok, body := b }

/-- The request is refused: its reply carries the status and nothing else, no state changes
(00_scope.md, "Clamped and refused"). -/
def refuse (s : State) (st : Status) : Answer := { state := s, status := st, body := .none }

/-- The link's score stream is closed (R43). -/
def closeStream (l : Link) (s : State) : State :=
  let x := s.link l
  s.withLink l { x with window := { x.window with stream := false } }

/-- The kind byte of a reply: the request's plus 0x80, or 0xFF where the sum would not fit (R169). -/
def replyKind (kind : Nat) : Nat := if kind < 0x80 then kind + 0x80 else 0xFF

/-- A request is taken and its reply begins: the answer's state, with the reply standing on the link
until it has been sent in full (R168, R169). -/
def reply (h : Header) (kind : Nat) (a : Answer) : State :=
  let x := a.state.link h.link
  a.state.withLink h.link
    { x with reply := some { kind := replyKind kind, tag := h.tag, status := a.status, body := a.body } }

/-- A complete request frame reaches the part. Out of operation it is not received (R178, R179, R181);
while the link's last reply has not been sent in full it is an overrun (R168); otherwise it is taken
as one event by its owning block, and answered. Any request but a SCORE-WRITE (kind 0x31) closes its
link's score stream (R43); a SCORE-WRITE sees to the stream itself. -/
def takeRequest (h : Header) (kind : Nat) (body : State → Answer) (s : State) : State :=
  if !s.power.operating then s
  else if (s.link h.link).reply.isSome then countError h.link .overrun s
  else reply h kind (body (if kind = 0x31 then s else closeStream h.link s))

/-- An event of a block: out of operation it is not acted on (R179). -/
def whenOperating (f : State → State) (s : State) : State := if s.power.operating then f s else s

/-- The chamber key does not select the link (R172). -/
def keyedOut (h : Header) (s : State) : Bool := h.link != s.key

/-! ## Silence (R70, R71) -/

/-- The six silence classes, in the order of their mask (R185). -/
inductive SilenceClass where
  | hour
  | quarters
  | tune
  | toll
  | touch
  | swing
  deriving DecidableEq, Repr, Inhabited

def SilenceClass.bit : SilenceClass → Nat
  | .hour => 0
  | .quarters => 1
  | .tune => 2
  | .toll => 3
  | .touch => 4
  | .swing => 5

/-- Minute `m` lies in the entry's window (R70). -/
def Silence.holds (e : Silence) (m : Nat) : Bool :=
  if e.start < e.stop then decide (e.start ≤ m ∧ m < e.stop)
  else if e.stop < e.start then decide (m ≥ e.start ∨ m < e.stop)
  else true

/-- The entry silences a class at a minute of a day of the given class (R70). -/
def Silence.silences (e : Silence) (k : SilenceClass) (m dayClass : Nat) : Bool :=
  e.enable && e.classes.getLsbD dayClass && e.holds m && e.silenced.getLsbD k.bit

/-- Some silence table entry silences the class (R70). -/
def tableSilences (s : State) (k : SilenceClass) (m dayClass : Nat) : Bool :=
  s.arbiter.silence.toList.any (·.silences k m dayClass)

/-- Some RUNNING timer holds the class in its mask (R18, R71). -/
def timersSilence (s : State) (k : SilenceClass) : Bool :=
  s.timers.toList.any (fun t => t.ends.isSome && t.mask.getLsbD k.bit)

/-- The class is silenced at that minute and day class (R71). -/
def silenced (s : State) (k : SilenceClass) (m dayClass : Nat) : Bool :=
  tableSilences s k m dayClass || timersSilence s k

/-- SWING is silenced now: the table is consulted while validity is SET, the timers always (R123). -/
def swingSilenced (s : State) : Bool :=
  (s.time.validity == .isSet && tableSilences s .swing (minuteOfDay s.time.instant) s.calendar.today)
    || timersSilence s .swing

end Sys2Proof.Machine
end

