-- ==== Sys2Proof/Machine/Operands.lean ====
section
/-! DEFINITION. The operand forms of the commands: flag bytes, enumerated bytes and masks as R185 reads
them, packed score cells as R187 lays them out, the byte coding of whole numbers, and the codes of
12_frame_and_record_layouts.md. -/

namespace Sys2Proof.Machine

open Sys2Proof

/-- A flag byte: 0 clear, 1 set; any other value is refused with BAD-VALUE (R185). -/
def flag? (n : Nat) : Option Bool := if n = 0 then some false else if n = 1 then some true else none

/-- A dial's kind byte (R23, R185). -/
def dialKind? (n : Nat) : Option DialKind :=
  if n = 0 then some .minute else if n = 1 then some .half else none

/-- A polarity byte (R189). -/
def polarity? (n : Nat) : Option Polarity := if n = 0 then some .pos else if n = 1 then some .neg else none

/-- An optional polarity: absent, or a byte that must have a value. -/
def polarityOr (was : Polarity) : Option Nat → Option Polarity
  | none => some was
  | some n => polarity? n

/-- A completeness byte (R188): 0 WHOLE, 1 THIN. -/
def completeness? (n : Nat) : Option Bool := if n = 0 then some true else if n = 1 then some false else none

/-- A call's kind byte (R108, R185). -/
def callKind? (n : Nat) : Option CallKind := if n = 0 then some .bob else if n = 1 then some .single else none

/-- A lighting mode byte (R158, R185). -/
def lightMode? (n : Nat) : Option LightMode :=
  if n = 0 then some .lit else if n = 1 then some .partialRange else if n = 2 then some .dark else none

/-- A silence mask byte: a bit that stands for no class is refused (R185). -/
def silenceMask? (n : Nat) : Option (BitVec 6) := if n < 64 then some (BitVec.ofNat 6 n) else none

/-- A day-class mask byte (R185). -/
def classMask? (n : Nat) : Option (BitVec 8) := if n < 256 then some (BitVec.ofNat 8 n) else none

/-- The four cells of a packed byte, the first in the most significant pair (R187). -/
def unpackByte (b : Byte) : List (BitVec 2) :=
  [b.extractLsb' 6 2, b.extractLsb' 4 2, b.extractLsb' 2 2, b.extractLsb' 0 2]

/-- The first `count` cells of a packed run; the unused low pairs of the last byte are ignored (R187). -/
def unpackCells (count : Nat) (packed : List Byte) : List (BitVec 2) :=
  (packed.flatMap unpackByte).take count

/-- Cells packed four to a byte, a short last group filled with 0 (R187). -/
def packCells : List (BitVec 2) → List Byte
  | a :: b :: c :: d :: rest => (a ++ b ++ c ++ d) :: packCells rest
  | [a, b, c] => [a ++ b ++ c ++ (0 : BitVec 2)]
  | [a, b] => [a ++ b ++ (0 : BitVec 4)]
  | [a] => [a ++ (0 : BitVec 6)]
  | [] => []

/-- A whole number in `n` bytes, high byte first (R185). -/
def bigEndian : Nat → Nat → List Byte
  | 0, _ => []
  | n + 1, x => bigEndian n (x / 256) ++ [BitVec.ofNat 8 x]

/-- A signed number in `n` bytes of two's complement (R185). -/
def signedBytes (n : Nat) (x : Int) : List Byte := bigEndian n (x % (256 ^ n : Nat)).toNat

/-- The number that bytes spell, high byte first (R185). -/
def ofBigEndian (bs : List Byte) : Nat := bs.foldl (fun a b => a * 256 + b.toNat) 0

/-- The signed number that bytes spell in two's complement (R185). -/
def ofSigned (bs : List Byte) : Int :=
  let x := ofBigEndian bs
  if 2 * x < 256 ^ bs.length then x else (x : Int) - (256 ^ bs.length : Nat)

/-- A flag byte of a reply (R185). -/
def flagByte (b : Bool) : Byte := if b then 1 else 0

/-- The status codes (12_frame_and_record_layouts.md, "Codes"). -/
def Status.code : Status → Nat
  | .ok => 0x00
  | .unknownKind => 0x01
  | .badLength => 0x02
  | .badValue => 0x03
  | .busy => 0x04
  | .refusedLocal => 0x05
  | .refusedMode => 0x06
  | .refusedSilence => 0x07
  | .full => 0x08
  | .notFound => 0x09
  | .timeUnset => 0x0A
  | .overAllowance => 0x0B
  | .noStream => 0x0C

/-- The performance class codes (12_frame_and_record_layouts.md, "Codes"). -/
def PerfClass.code : PerfClass → Nat
  | .clock => 1
  | .tune => 2
  | .toll => 3
  | .touch => 4
  | .swing => 5

end Sys2Proof.Machine
end

