-- ==== Sys2Proof/Decode.lean ====
section
/-! DEFINITION. What the bytes of a request frame spell (10_links_and_notices.md, R166, R169;
12_frame_and_record_layouts.md, R185 to R188), and the bytes of a request whose layout the manual gives.
The table of operations gives no row any bits, so no word of it spells a command. -/

namespace Sys2Proof

open Sys2Proof.Machine

/-- The command a word of the table's bits spells: none, since no row has bits. -/
def decodeTableWord (_nbits _w : Nat) : Option Instr := none

/-! ## Kinds (R185, "Codes") -/

/-- The kind byte of a request; an event has none. -/
def kindCode : Instr → Option Nat
  | .identify .. => some 0x01
  | .linkStats .. => some 0x02
  | .noticeRead .. => some 0x03
  | .noticeMask .. => some 0x04
  | .noticeClear .. => some 0x05
  | .modeSetMaintenance .. | .modeSetRun .. => some 0x06
  | .reset .. => some 0x07
  | .faultClearDial .. | .faultClearHammer .. | .faultClearSwing .. => some 0x08
  | .unknownKind _ kind => some kind
  | .timeSet .. => some 0x10
  | .zoneSet .. => some 0x11
  | .timeRead .. => some 0x12
  | .referenceSet .. => some 0x13
  | .classWrite .. => some 0x14
  | .weekdayWrite .. => some 0x15
  | .calendarWrite .. | .calendarDelete .. => some 0x16
  | .calendarRead .. => some 0x17
  | .timerStart .. => some 0x18
  | .timerStop .. => some 0x19
  | .timerRead .. => some 0x1A
  | .dialConfig .. => some 0x20
  | .dialHold .. => some 0x21
  | .dialSetPosition .. => some 0x22
  | .dialRelease .. => some 0x23
  | .dialRead .. => some 0x24
  | .scoreWindow .. => some 0x30
  | .scoreWrite .. => some 0x31
  | .scoreRead .. => some 0x32
  | .scoreProtect .. => some 0x33
  | .tuneWrite .. => some 0x34
  | .tuneClear .. => some 0x35
  | .tuneRead .. => some 0x36
  | .chimeWrite .. => some 0x37
  | .chimeRead .. => some 0x38
  | .playTune .. => some 0x40
  | .toll .. => some 0x41
  | .hush .. => some 0x42
  | .queueRead .. => some 0x43
  | .clockstrikeConfig .. => some 0x44
  | .clockstrikeRead .. => some 0x45
  | .silenceWrite .. => some 0x46
  | .silenceRead .. => some 0x47
  | .hammerConfig .. => some 0x50
  | .hammerRead .. => some 0x51
  | .strikeQueueRead .. => some 0x52
  | .testStroke .. => some 0x53
  | .methodWrite .. => some 0x58
  | .methodClear .. => some 0x59
  | .methodRead .. => some 0x5A
  | .touchStart .. => some 0x5B
  | .touchRead .. => some 0x5C
  | .swingConfig .. => some 0x60
  | .swingStart .. => some 0x61
  | .swingStop .. => some 0x62
  | .swingProgramWrite .. => some 0x63
  | .swingProgramRead .. => some 0x64
  | .swingProgramStart .. => some 0x65
  | .swingRead .. => some 0x66
  | .allowanceSet .. => some 0x68
  | .allowanceRead .. => some 0x69
  | .circuitConfig .. => some 0x70
  | .sceneWrite .. => some 0x71
  | .sceneRead .. => some 0x72
  | .sceneApply .. => some 0x73
  | .lightMode .. => some 0x74
  | .duskWrite .. => some 0x75
  | .duskRead .. => some 0x76
  | .scheduleWrite .. => some 0x77
  | .scheduleRead .. => some 0x78
  | .lightRead .. => some 0x79
  | .receiveByte .. | .receiveTimeout .. | .replySent .. | .chamberKeyChange .. | .slewSecondAdjust | .rangeEnd
  | .dayClassRenewal | .referencePulse | .referenceGap | .timerExpired .. | .dialTargetChange .. | .dialImpulseStart ..
  | .dialImpulseEnd .. | .dialDriverFault .. | .clockEventBuild | .dueStart .. | .performanceDeadline ..
  | .rowEmission | .strikeEntryTaken | .hammerPulseEnd .. | .hammerRecoveryEnd .. | .hammerConfirmAsserted ..
  | .hammerConfirmCleared .. | .withdrawConfirmTimeout .. | .engageClearTimeout .. | .staggerEnd .. | .raiseRefused
  | .passPulse .. | .arcPulse .. | .drivePulseEnd .. | .raiseNoPass .. | .raiseLimitEnd .. | .swingPassWatchEnd ..
  | .durationEnd .. | .loweringPassWatchEnd .. | .settleWatchEnd .. | .fadeStep .. | .scheduleEvaluation | .putaway
  | .supplyRecovered | .powerUp | .resetLineAssert | .resetLineRelease | .supplyLost => none

/-- The header a request carries; an event has none. -/
def headerOf : Instr → Option Header
  | .identify h | .linkStats h | .noticeRead h _ | .noticeMask h _ _ | .noticeClear h _ | .modeSetMaintenance h
  | .modeSetRun h | .reset h | .faultClearDial h _ | .faultClearHammer h _ | .faultClearSwing h _ | .unknownKind h _
  | .timeSet h .. | .zoneSet h _ | .timeRead h | .referenceSet h _ | .classWrite h .. | .weekdayWrite h _
  | .calendarWrite h .. | .calendarDelete h .. | .calendarRead h .. | .timerStart h .. | .timerStop h _ | .timerRead h
  | .dialConfig h .. | .dialHold h _ | .dialSetPosition h .. | .dialRelease h _ | .dialRead h _ | .scoreWindow h ..
  | .scoreWrite h .. | .scoreRead h .. | .scoreProtect h .. | .tuneWrite h .. | .tuneClear h _ | .tuneRead h _
  | .chimeWrite h .. | .chimeRead h _ | .playTune h .. | .toll h .. | .hush h _ | .queueRead h
  | .clockstrikeConfig h .. | .clockstrikeRead h | .silenceWrite h .. | .silenceRead h | .hammerConfig h ..
  | .hammerRead h _ | .strikeQueueRead h .. | .testStroke h .. | .methodWrite h .. | .methodClear h _ | .methodRead h _
  | .touchStart h .. | .touchRead h | .swingConfig h .. | .swingStart h .. | .swingStop h _ | .swingProgramWrite h ..
  | .swingProgramRead h _ | .swingProgramStart h _ | .swingRead h .. | .allowanceSet h _ | .allowanceRead h
  | .circuitConfig h .. | .sceneWrite h .. | .sceneRead h .. | .sceneApply h .. | .lightMode h .. | .duskWrite h ..
  | .duskRead h .. | .scheduleWrite h .. | .scheduleRead h .. | .lightRead h => some h
  | .receiveByte .. | .receiveTimeout .. | .replySent .. | .chamberKeyChange .. | .slewSecondAdjust | .rangeEnd
  | .dayClassRenewal | .referencePulse | .referenceGap | .timerExpired .. | .dialTargetChange .. | .dialImpulseStart ..
  | .dialImpulseEnd .. | .dialDriverFault .. | .clockEventBuild | .dueStart .. | .performanceDeadline ..
  | .rowEmission | .strikeEntryTaken | .hammerPulseEnd .. | .hammerRecoveryEnd .. | .hammerConfirmAsserted ..
  | .hammerConfirmCleared .. | .withdrawConfirmTimeout .. | .engageClearTimeout .. | .staggerEnd .. | .raiseRefused
  | .passPulse .. | .arcPulse .. | .drivePulseEnd .. | .raiseNoPass .. | .raiseLimitEnd .. | .swingPassWatchEnd ..
  | .durationEnd .. | .loweringPassWatchEnd .. | .settleWatchEnd .. | .fadeStep .. | .scheduleEvaluation | .putaway
  | .supplyRecovered | .powerUp | .resetLineAssert | .resetLineRelease | .supplyLost => none

/-- The kind codes that name a request (12_frame_and_record_layouts.md, "Codes"). -/
def requestKinds : List Nat :=
  numbers 0x01 0x08 ++ numbers 0x10 0x1A ++ numbers 0x20 0x24 ++ numbers 0x30 0x38 ++ numbers 0x40 0x47
    ++ numbers 0x50 0x53 ++ numbers 0x58 0x5C ++ numbers 0x60 0x66 ++ numbers 0x68 0x69 ++ numbers 0x70 0x79

/-- A kind code names a request (R169). -/
def namesRequest (kind : Nat) : Bool := requestKinds.contains kind

/-! ## Payloads (R185 to R188) -/

/-- What a frame spells (R169): a kind or a length that the dispatcher answers itself, a payload whose enumerated
byte or count its owning block refuses, or a request. -/
inductive FrameMeaning where
  | unknown
  | badLength
  | badValue
  | request (i : Instr)
  deriving DecidableEq, Repr, Inhabited

/-- A whole number of two bytes, high byte first (R185). -/
def word (hi lo : Byte) : Nat := hi.toNat * 256 + lo.toNat

/-- A signed number of two bytes (R185). -/
def signedWord (hi lo : Byte) : Int := (hi ++ lo).toInt

/-- A 2-byte mask or change (R185, R188). -/
def maskOf (hi lo : Byte) : BitVec 16 := hi ++ lo

/-- A change that may be absent: 0xFFFF (R188). -/
def absentChange (c : BitVec 16) : Option (BitVec 16) := if c = 0xFFFF then none else some c

/-- The changes that bytes spell two by two (R188). -/
def changesOf : List Byte → List (BitVec 16)
  | hi :: lo :: rest => maskOf hi lo :: changesOf rest
  | _ => []

/-- A scene record: sixteen levels and a keep mask of two bytes (R188). -/
def sceneOf (bs : List Byte) : Scene :=
  { levels := Vector.ofFn (fun i : Fin 16 => bs.getD i.val 0), keep := maskOf (bs.getD 16 0) (bs.getD 17 0) }

/-- The scene records that bytes spell, eighteen bytes each (R155, R188). -/
def scenesOf : Nat → List Byte → List Scene
  | 0, _ => []
  | n + 1, bs => sceneOf (bs.take 18) :: scenesOf n (bs.drop 18)

/-- A payload that must be empty. -/
def noPayload (i : Instr) (payload : List Byte) : FrameMeaning := if payload.isEmpty then .request i else .badLength

/-- A payload of one byte. -/
def oneByte (f : Nat → Instr) : List Byte → FrameMeaning
  | [b] => .request (f b.toNat)
  | _ => .badLength

/-- MODE-SET's mode byte: 0 RUN, 1 MAINTENANCE (R183, R185; DEDUCED, log entry 4). -/
def modeSetOf (h : Header) : List Byte → FrameMeaning
  | [b] => if b = 0 then .request (.modeSetRun h) else if b = 1 then .request (.modeSetMaintenance h) else .badValue
  | _ => .badLength

/-- FAULT-CLEAR's block and number (R186). -/
def faultClearOf (h : Header) : List Byte → FrameMeaning
  | [b, n] =>
    if b = 1 then .request (.faultClearDial h n.toNat)
    else if b = 2 then .request (.faultClearHammer h n.toNat)
    else if b = 3 then .request (.faultClearSwing h n.toNat)
    else .badValue
  | _ => .badLength

/-- CALENDAR-WRITE's operation and entry; year 0 is ANY (R188). -/
def calendarOf (h : Header) : List Byte → FrameMeaning
  | [op, m, d, y1, y0, c] =>
    let year := if word y1 y0 = 0 then none else some (word y1 y0)
    if op = 0 then .request (.calendarWrite h m.toNat d.toNat year c.toNat)
    else if op = 1 then .request (.calendarDelete h m.toNat d.toNat year)
    else .badValue
  | _ => .badLength

/-- SCORE-WRITE: continue flag, count, packed cells (R187). -/
def scoreWriteOf (h : Header) : List Byte → FrameMeaning
  | f :: n :: cells => .request (.scoreWrite h f.toNat n.toNat cells)
  | _ => .badLength

/-- TUNE-WRITE (R188). -/
def tuneOf (h : Header) : List Byte → FrameMeaning
  | [n, s1, s0, intro, body, coda, passes, b1, b0, shift, c] =>
    .request (.tuneWrite h n.toNat (word s1 s0) intro.toNat body.toNat coda.toNat passes.toNat (word b1 b0) shift.toInt
      c.toNat)
  | _ => .badLength

/-- A pointer that may be absent: 0xFF (R188). -/
def pointerOf (b : Byte) : Option Nat := if b = 0xFF then none else some b.toNat

/-- CHIME-WRITE (R188): 5 to 9 bytes are admitted, and a count that does not match them is refused with
BAD-VALUE. -/
def chimeOf (h : Header) (payload : List Byte) : FrameMeaning :=
  if payload.length < 5 ∨ 9 < payload.length then .badLength
  else
    match payload with
    | k :: p :: n :: rest =>
      if rest.length = n.toNat + 2 then
        .request (.chimeWrite h k.toNat p.toNat n.toNat ((rest.take n.toNat).map BitVec.toNat)
          (rest.getD n.toNat 0).toNat (pointerOf (rest.getD (n.toNat + 1) 0)))
      else .badValue
    | _ => .badLength

/-- METHOD-WRITE past its bell map: cover, lead count, changes, bob, single (R188). -/
def methodTail (h : Header) (k n : Nat) (bells : List Nat) : List Byte → FrameMeaning
  | cover :: m :: rest =>
    let cs := changesOf rest
    if rest.length = 2 * m.toNat + 4 then
      .request (.methodWrite h k n bells cover.toNat m.toNat (cs.take m.toNat) (absentChange (cs.getD m.toNat 0))
        (absentChange (cs.getD (m.toNat + 1) 0)))
    else .badValue
  | _ => .badValue

/-- METHOD-WRITE (R188): 16 to 84 bytes are admitted, and counts that do not match them are refused with
BAD-VALUE. -/
def methodOf (h : Header) (payload : List Byte) : FrameMeaning :=
  if payload.length < 16 ∨ 84 < payload.length then .badLength
  else
    match payload with
    | k :: n :: rest =>
      if n.toNat ≤ rest.length then methodTail h k.toNat n.toNat ((rest.take n.toNat).map BitVec.toNat) (rest.drop n.toNat)
      else .badValue
    | _ => .badLength

/-- HAMMER-CONFIG (R188). -/
def hammerOf (h : Header) : List Byte → FrameMeaning
  | [b, l1, l0, d1, d0, w, f] => .request (.hammerConfig h b.toNat (word l1 l0) (word d1 d0) w.toNat f.toNat)
  | _ => .badLength

/-- SWING-CONFIG (R188). -/
def swingOf (h : Header) : List Byte → FrameMeaning
  | [c, b, d1, d0, r, k, m, t, f] =>
    .request (.swingConfig h c.toNat b.toNat (word d1 d0) r.toNat k.toNat m.toNat t.toNat f.toNat)
  | _ => .badLength

/-- CIRCUIT-CONFIG (R188). -/
def circuitOf (h : Header) : List Byte → FrameMeaning
  | [c, d, y, f] => .request (.circuitConfig h c.toNat d.toNat y.toNat f.toNat)
  | _ => .badLength

/-- SCENE-WRITE: start index, count, scene records (R155, R188; DEDUCED, log entry 4). -/
def sceneWriteOf (h : Header) : List Byte → FrameMeaning
  | a :: n :: rest =>
    if rest.length % 18 = 0 then .request (.sceneWrite h a.toNat n.toNat (scenesOf (rest.length / 18) rest))
    else if within 0 63 a.toNat && within 1 8 n.toNat then .badLength
    else .badValue
  | _ => .badLength

/-- SCHEDULE-WRITE (R188). -/
def scheduleOf (h : Header) : List Byte → FrameMeaning
  | [e, on, m, t, v1, v0, n, f1, f0] =>
    .request (.scheduleWrite h e.toNat on.toNat m.toNat t.toNat (signedWord v1 v0) n.toNat (word f1 f0))
  | _ => .badLength

/-- The request of a kind that carries nothing, or the number of one thing (in one byte: DEDUCED, log
entry 4). -/
def plainOf (h : Header) (kind : Nat) (payload : List Byte) : Option FrameMeaning :=
  if kind = 0x01 then some (noPayload (.identify h) payload)
  else if kind = 0x02 then some (noPayload (.linkStats h) payload)
  else if kind = 0x03 then some (oneByte (.noticeRead h) payload)
  else if kind = 0x07 then some (noPayload (.reset h) payload)
  else if kind = 0x12 then some (noPayload (.timeRead h) payload)
  else if kind = 0x13 then some (oneByte (.referenceSet h) payload)
  else if kind = 0x19 then some (oneByte (.timerStop h) payload)
  else if kind = 0x1A then some (noPayload (.timerRead h) payload)
  else if kind = 0x21 then some (oneByte (.dialHold h) payload)
  else if kind = 0x23 then some (oneByte (.dialRelease h) payload)
  else if kind = 0x24 then some (oneByte (.dialRead h) payload)
  else if kind = 0x35 then some (oneByte (.tuneClear h) payload)
  else if kind = 0x36 then some (oneByte (.tuneRead h) payload)
  else if kind = 0x38 then some (oneByte (.chimeRead h) payload)
  else if kind = 0x42 then some (oneByte (.hush h) payload)
  else if kind = 0x43 then some (noPayload (.queueRead h) payload)
  else if kind = 0x45 then some (noPayload (.clockstrikeRead h) payload)
  else if kind = 0x47 then some (noPayload (.silenceRead h) payload)
  else if kind = 0x51 then some (oneByte (.hammerRead h) payload)
  else if kind = 0x59 then some (oneByte (.methodClear h) payload)
  else if kind = 0x5A then some (oneByte (.methodRead h) payload)
  else if kind = 0x5C then some (noPayload (.touchRead h) payload)
  else if kind = 0x64 then some (oneByte (.swingProgramRead h) payload)
  else if kind = 0x65 then some (oneByte (.swingProgramStart h) payload)
  else if kind = 0x69 then some (noPayload (.allowanceRead h) payload)
  else if kind = 0x79 then some (noPayload (.lightRead h) payload)
  else none

/-- The request of a kind whose record the manual lays out (R183, R186 to R188). -/
def recordOf (h : Header) (kind : Nat) (payload : List Byte) : Option FrameMeaning :=
  if kind = 0x06 then some (modeSetOf h payload)
  else if kind = 0x08 then some (faultClearOf h payload)
  else if kind = 0x16 then some (calendarOf h payload)
  else if kind = 0x31 then some (scoreWriteOf h payload)
  else if kind = 0x34 then some (tuneOf h payload)
  else if kind = 0x37 then some (chimeOf h payload)
  else if kind = 0x50 then some (hammerOf h payload)
  else if kind = 0x58 then some (methodOf h payload)
  else if kind = 0x60 then some (swingOf h payload)
  else if kind = 0x70 then some (circuitOf h payload)
  else if kind = 0x71 then some (sceneWriteOf h payload)
  else if kind = 0x77 then some (scheduleOf h payload)
  else none

/-! ### Requests whose fields the manual gives without a table

Their fields stand in the order in which the request's rule names them, each coded by R185 in the fewest of 1, 2, 3 or
6 bytes that hold its range; a list of no fixed length stands behind a byte with the number of its entries, as R188
lays its own lists out; a field that one choice of the request does not use is still carried, as a DELETE's class is
(DEDUCED, log entry 4). -/

/-- A number that may be absent (R185; log entry 3). -/
def optional (f : Config.OptionalField) (n : Nat) : Option Nat := if n = Config.absentCode f then none else some n

/-- The entries of a list of pairs whose numbers take `a` and `b` bytes. -/
def pairsOf (a b : Nat) : Nat → List Byte → List (Nat × Nat)
  | 0, _ => []
  | n + 1, bs => (ofBigEndian (bs.take a), ofBigEndian ((bs.drop a).take b)) :: pairsOf a b n (bs.drop (a + b))

/-- NOTICE-MASK: the kinds to mask, the kinds to unmask (R175). -/
def noticeMaskOf (h : Header) : List Byte → FrameMeaning
  | n :: rest =>
    match rest.drop n.toNat with
    | m :: ks =>
      if ks.length = m.toNat then
        .request (.noticeMask h ((rest.take n.toNat).map BitVec.toNat) (ks.map BitVec.toNat))
      else .badLength
    | [] => .badLength
  | [] => .badLength

/-- A list of numbers of one byte, or ALL (R133, R177). -/
def listOrAll (f : Config.OptionalField) (g : Option (List Nat) → Instr) : List Byte → FrameMeaning
  | n :: ks =>
    if ks.isEmpty && n.toNat == Config.absentCode f then .request (g none)
    else if ks.length = n.toNat then .request (g (some (ks.map BitVec.toNat)))
    else .badLength
  | [] => .badLength

/-- TIME-SET: year, month, day, ms-of-day (R4). -/
def timeSetOf (h : Header) : List Byte → FrameMeaning
  | [y1, y0, m, d, t5, t4, t3, t2, t1, t0] =>
    .request (.timeSet h (word y1 y0) m.toNat d.toNat (ofBigEndian [t5, t4, t3, t2, t1, t0]))
  | _ => .badLength

/-- ZONE-SET: signed minutes (R5). -/
def zoneSetOf (h : Header) : List Byte → FrameMeaning
  | [b] => .request (.zoneSet h b.toInt)
  | _ => .badLength

/-- CLASS-WRITE: record, chime set, the two flags (R13). -/
def classWriteOf (h : Header) : List Byte → FrameMeaning
  | [r, c, a, b] => .request (.classWrite h r.toNat (optional .chimeSet c.toNat) a.toNat b.toNat)
  | _ => .badLength

/-- CALENDAR-READ: part, start position, count (R17). -/
def calendarReadOf (h : Header) : List Byte → FrameMeaning
  | [p, a, n] => .request (.calendarRead h p.toNat a.toNat n.toNat)
  | _ => .badLength

/-- TIMER-START: timer, duration, mask, action, program or scene, fade (R18). -/
def timerStartOf (h : Header) : List Byte → FrameMeaning
  | [n, d2, d1, d0, m, a, x, f1, f0] =>
    .request (.timerStart h n.toNat (ofBigEndian [d2, d1, d0]) m.toNat a.toNat x.toNat (word f1 f0))
  | _ => .badLength

/-- DIAL-CONFIG: channel and its five fields (R23, R24). -/
def dialConfigOf (h : Header) : List Byte → FrameMeaning
  | [c, k, i1, i0, g1, g0, w1, w0, f] =>
    .request (.dialConfig h c.toNat k.toNat (word i1 i0) (word g1 g0) (word w1 w0) f.toNat)
  | _ => .badLength

/-- DIAL-SET-POSITION: channel, position, polarity (R34). -/
def dialSetPositionOf (h : Header) : List Byte → FrameMeaning
  | [c, p1, p0, q] => .request (.dialSetPosition h c.toNat (word p1 p0) (optional .polarity q.toNat))
  | _ => .badLength

/-- SCORE-WINDOW: first and last row, first and last column (R42). -/
def scoreWindowOf (h : Header) : List Byte → FrameMeaning
  | [a1, a0, b1, b0, c, d] => .request (.scoreWindow h (word a1 a0) (word b1 b0) c.toNat d.toNat)
  | _ => .badLength

/-- SCORE-READ: start row, start column, count (R47). -/
def scoreReadOf (h : Header) : List Byte → FrameMeaning
  | [r1, r0, c, n] => .request (.scoreRead h (word r1 r0) c.toNat n.toNat)
  | _ => .badLength

/-- SCORE-PROTECT: first and last row, action (R41). -/
def scoreProtectOf (h : Header) : List Byte → FrameMeaning
  | [a1, a0, b1, b0, x] => .request (.scoreProtect h (word a1 a0) (word b1 b0) x.toNat)
  | _ => .badLength

/-- PLAY-TUNE: tune, shift, start, wait limit (R64). -/
def playTuneOf (h : Header) : List Byte → FrameMeaning
  | [n, x, s5, s4, s3, s2, s1, s0, w1, w0] =>
    .request (.playTune h n.toNat ((optional .shift x.toNat).map (fun _ => x.toInt))
      (optional .start (ofBigEndian [s5, s4, s3, s2, s1, s0])) (word w1 w0))
  | _ => .badLength

/-- TOLL: bell, strength, interval, count, silence-clock flag, start, wait limit (R65). -/
def tollOf (h : Header) : List Byte → FrameMeaning
  | [b, v, i1, i0, c1, c0, f, s5, s4, s3, s2, s1, s0, w1, w0] =>
    .request (.toll h b.toNat v.toNat (word i1 i0) (word c1 c0) f.toNat
      (optional .start (ofBigEndian [s5, s4, s3, s2, s1, s0])) (word w1 w0))
  | _ => .badLength

/-- CLOCKSTRIKE-CONFIG: bell, strength, interval, gap (R67). -/
def clockStrikeOf (h : Header) : List Byte → FrameMeaning
  | [b, v, i1, i0, g1, g0] => .request (.clockstrikeConfig h b.toNat v.toNat (word i1 i0) (word g1 g0))
  | _ => .badLength

/-- SILENCE-WRITE: entry, enable, start and end minute, the two masks (R70). -/
def silenceOf (h : Header) : List Byte → FrameMeaning
  | [e, on, a1, a0, b1, b0, c, k] =>
    .request (.silenceWrite h e.toNat on.toNat (word a1 a0) (word b1 b0) c.toNat k.toNat)
  | _ => .badLength

/-- A request of two numbers of one byte (R99, R100, R138, R156, R160, R162). -/
def twoBytes (g : Nat → Nat → Instr) : List Byte → FrameMeaning
  | [a, b] => .request (g a.toNat b.toNat)
  | _ => .badLength

/-- TOUCH-START: method, strength, beat, opening, closing, maximum, calls (R108). A call list that does not match its own
count is answered BAD-LENGTH here, before the key test (R63, R169, R172; DESIGN CHOICE, log entry 15). -/
def touchStartOf (h : Header) : List Byte → FrameMeaning
  | k :: v :: b1 :: b0 :: o :: c :: m1 :: m0 :: n :: calls =>
    if calls.length = 3 * n.toNat then
      .request (.touchStart h k.toNat v.toNat (word b1 b0) o.toNat c.toNat (word m1 m0) (pairsOf 2 1 n.toNat calls))
    else .badLength
  | _ => .badLength

/-- A list of starts and a duration: channel and stagger of each, minutes (R132, R134). A list that does not match its own
count is answered BAD-LENGTH here, before SWING-START's key test (R132, R169, R172; DESIGN CHOICE, log entry 15). -/
def startsOf (g : List (Nat × Nat) → Nat → Instr) : List Byte → FrameMeaning
  | n :: rest =>
    if rest.length = 4 * n.toNat + 1 then .request (g (pairsOf 1 3 n.toNat rest) (rest.getLastD 0).toNat) else .badLength
  | [] => .badLength

/-- SWING-PROGRAM-WRITE: program, list, duration (R134). -/
def programWriteOf (h : Header) : List Byte → FrameMeaning
  | k :: rest => startsOf (.swingProgramWrite h k.toNat) rest
  | [] => .badLength

/-- ALLOWANCE-SET: units (R139). -/
def allowanceSetOf (h : Header) : List Byte → FrameMeaning
  | [u1, u0] => .request (.allowanceSet h (word u1 u0))
  | _ => .badLength

/-- SCENE-APPLY: scene, fade (R157). -/
def sceneApplyOf (h : Header) : List Byte → FrameMeaning
  | [n, f1, f0] => .request (.sceneApply h n.toNat (word f1 f0))
  | _ => .badLength

/-- LIGHT-MODE: mode, first and last circuit (R159). -/
def lightModeOf (h : Header) : List Byte → FrameMeaning
  | [m, a, b] => .request (.lightMode h m.toNat a.toNat b.toNat)
  | _ => .badLength

/-- DUSK-WRITE: start index and entries, dusk and dawn minute of each (R160). -/
def duskWriteOf (h : Header) : List Byte → FrameMeaning
  | a :: n :: rest =>
    if rest.length = 4 * n.toNat then .request (.duskWrite h a.toNat (pairsOf 2 2 n.toNat rest)) else .badLength
  | _ => .badLength

/-- The request of a kind whose fields its rule gives without a table. -/
def fieldsOf (h : Header) (kind : Nat) (payload : List Byte) : Option FrameMeaning :=
  if kind = 0x04 then some (noticeMaskOf h payload)
  else if kind = 0x05 then some (listOrAll .allKinds (.noticeClear h) payload)
  else if kind = 0x10 then some (timeSetOf h payload)
  else if kind = 0x11 then some (zoneSetOf h payload)
  else if kind = 0x14 then some (classWriteOf h payload)
  else if kind = 0x15 then some (.request (.weekdayWrite h (payload.map BitVec.toNat)))
  else if kind = 0x17 then some (calendarReadOf h payload)
  else if kind = 0x18 then some (timerStartOf h payload)
  else if kind = 0x20 then some (dialConfigOf h payload)
  else if kind = 0x22 then some (dialSetPositionOf h payload)
  else if kind = 0x30 then some (scoreWindowOf h payload)
  else if kind = 0x32 then some (scoreReadOf h payload)
  else if kind = 0x33 then some (scoreProtectOf h payload)
  else if kind = 0x40 then some (playTuneOf h payload)
  else if kind = 0x41 then some (tollOf h payload)
  else if kind = 0x44 then some (clockStrikeOf h payload)
  else if kind = 0x46 then some (silenceOf h payload)
  else if kind = 0x52 then some (twoBytes (.strikeQueueRead h) payload)
  else if kind = 0x53 then some (twoBytes (.testStroke h) payload)
  else if kind = 0x5B then some (touchStartOf h payload)
  else if kind = 0x61 then some (startsOf (.swingStart h) payload)
  else if kind = 0x62 then some (listOrAll .allChannels (.swingStop h) payload)
  else if kind = 0x63 then some (programWriteOf h payload)
  else if kind = 0x66 then some (twoBytes (.swingRead h) payload)
  else if kind = 0x68 then some (allowanceSetOf h payload)
  else if kind = 0x72 then some (twoBytes (.sceneRead h) payload)
  else if kind = 0x73 then some (sceneApplyOf h payload)
  else if kind = 0x74 then some (lightModeOf h payload)
  else if kind = 0x75 then some (duskWriteOf h payload)
  else if kind = 0x76 then some (twoBytes (.duskRead h) payload)
  else if kind = 0x78 then some (twoBytes (.scheduleRead h) payload)
  else none

/-- What a frame's kind and payload spell: every kind that names a request has its layout, and every other is
unknown (R169). -/
def decodeRequest (h : Header) (kind : Nat) (payload : List Byte) : FrameMeaning :=
  if !namesRequest kind then .unknown
  else ((plainOf h kind payload).or ((recordOf h kind payload).or (fieldsOf h kind payload))).getD .unknown

/-! ## The bytes of a request whose layout the manual gives -/

/-- One byte. -/
def byteOf (n : Nat) : Byte := BitVec.ofNat 8 n

/-- Two bytes, high byte first. -/
def wordBytes (n : Nat) : List Byte := [byteOf (n / 256), byteOf n]

/-- A 16-bit mask or change in two bytes. -/
def maskBytes (m : BitVec 16) : List Byte := [m.extractLsb' 8 8, m.extractLsb' 0 8]

/-- A scene record's eighteen bytes (R188). -/
def sceneBytes (x : Scene) : List Byte := x.levels.toList ++ maskBytes x.keep

/-- The payload of a request whose layout the manual gives; `none` for the others and for the events. -/
def encodePayload : Instr → Option (List Byte)
  | .identify _ | .linkStats _ | .reset _ | .timeRead _ | .timerRead _ | .queueRead _ | .clockstrikeRead _
  | .silenceRead _ | .touchRead _ | .allowanceRead _ | .lightRead _ => some []
  | .noticeRead _ n | .referenceSet _ n | .timerStop _ n | .dialHold _ n | .dialRelease _ n | .dialRead _ n
  | .tuneClear _ n | .tuneRead _ n | .chimeRead _ n | .hush _ n | .hammerRead _ n | .methodClear _ n | .methodRead _ n
  | .swingProgramRead _ n | .swingProgramStart _ n => some [byteOf n]
  | .modeSetRun _ => some [0]
  | .modeSetMaintenance _ => some [1]
  | .faultClearDial _ n => some [1, byteOf n]
  | .faultClearHammer _ n => some [2, byteOf n]
  | .faultClearSwing _ n => some [3, byteOf n]
  | .calendarWrite _ m d y c => some ([0, byteOf m, byteOf d] ++ wordBytes (y.getD 0) ++ [byteOf c])
  | .calendarDelete _ m d y => some ([1, byteOf m, byteOf d] ++ wordBytes (y.getD 0) ++ [0])
  | .scoreWrite _ f n cells => some (byteOf f :: byteOf n :: cells)
  | .tuneWrite _ n s i b c p t x w =>
    some (byteOf n :: wordBytes s ++ [byteOf i, byteOf b, byteOf c, byteOf p] ++ wordBytes t ++ [BitVec.ofInt 8 x, byteOf w])
  | .chimeWrite _ k p n tunes step pointer =>
    some ([byteOf k, byteOf p, byteOf n] ++ tunes.map byteOf ++ [byteOf step, byteOf (pointer.getD 0xFF)])
  | .hammerConfig _ b l d w f => some (byteOf b :: wordBytes l ++ wordBytes d ++ [byteOf w, byteOf f])
  | .methodWrite _ k n bells cover m lead bob single =>
    some ([byteOf k, byteOf n] ++ bells.map byteOf ++ [byteOf cover, byteOf m]
      ++ (lead ++ [bob.getD 0xFFFF, single.getD 0xFFFF]).flatMap maskBytes)
  | .swingConfig _ c b d r k m t f =>
    some ([byteOf c, byteOf b] ++ wordBytes d ++ [byteOf r, byteOf k, byteOf m, byteOf t, byteOf f])
  | .circuitConfig _ c d y f => some [byteOf c, byteOf d, byteOf y, byteOf f]
  | .sceneWrite _ a n scenes => some (byteOf a :: byteOf n :: scenes.flatMap sceneBytes)
  | .scheduleWrite _ e on m t v n f =>
    some ([byteOf e, byteOf on, byteOf m, byteOf t] ++ maskBytes (BitVec.ofInt 16 v) ++ [byteOf n] ++ wordBytes f)
  | _ => none

/-! ## The frame (R166) -/

/-- One bit of the CRC register's shift (R166). -/
def crcShift (r : BitVec 16) : BitVec 16 := if r.getLsbD 15 then (r <<< 1) ^^^ 0x1021 else r <<< 1

/-- The CRC register after one byte, entering most significant bit first (R166). -/
def crcByte (r : BitVec 16) (b : Byte) : BitVec 16 :=
  (List.range 8).foldl (fun r _ => crcShift r) (r ^^^ (b ++ (0 : Byte)))

/-- The CRC over bytes in the order sent, from 0xFFFF (R166). -/
def crc16 (bs : List Byte) : BitVec 16 := bs.foldl crcByte 0xFFFF

/-- A frame: start byte, length, kind, tag, payload and CRC (R166). -/
def frameBytes (kind tag : Nat) (payload : List Byte) : List Byte :=
  let body := byteOf (payload.length + 2) :: byteOf kind :: byteOf tag :: payload
  0x7E :: body ++ maskBytes (crc16 body)

end Sys2Proof
end

