-- ==== Sys2Proof/Machine/Dials.lean ====
section
/-! DEFINITION. The clock dials (02_clock_dials.md): target, state, decision, impulses, the datum, and the
dial requests and events. -/

namespace Sys2Proof.Machine

open Sys2Proof

/-- The outcome type of every meaning. -/
abbrev Result := Host.Outcome State Fault Refusal

/-- The step count S of a kind of movement (R23). -/
def dialSteps : DialKind → Nat
  | .minute => 720
  | .half => 1440

/-- The target T at an instant (R26). -/
def dialTarget (k : DialKind) (instant : Nat) : Nat :=
  match k with
  | .minute => minuteOfDay instant % 720
  | .half => msOfDay instant / 30000 % 1440

def DialPhase.toState : DialPhase → DialState
  | .running => .running
  | .wait => .wait
  | .catchUp => .catchUp

/-- The channel's flags let a decision be taken: the last row of R27's table. -/
def Dial.decides (d : Dial) (v : Validity) : Bool := !d.fault && !d.hold && d.known && v == .isSet

/-- The state of a channel (R27): the table, but while an impulse is in progress the state in which it
began. -/
def Dial.stateIn (d : Dial) (v : Validity) : DialState :=
  if d.fault then .fault
  else if d.impulse.isSome then d.phase.toState
  else if d.hold then .held
  else if !d.known then .unknown
  else if v == .unset then .idle
  else d.phase.toState

/-- How far the believed position is ahead of target `t` (R28). -/
def Dial.ahead (d : Dial) (t : Nat) : Nat := (d.pos + dialSteps d.cfg.kind - t) % dialSteps d.cfg.kind

/-- How far the believed position is behind target `t` (R28). -/
def Dial.behind (d : Dial) (t : Nat) : Nat := (t + dialSteps d.cfg.kind - d.pos) % dialSteps d.cfg.kind

/-- The decision: the state it sets, and whether it calls for an impulse (R28). -/
def Dial.decision (d : Dial) (t : Nat) : DialPhase × Bool :=
  if d.ahead t = 0 then (.running, false)
  else if d.ahead t ≤ d.cfg.wait then (.wait, false)
  else if d.behind t = 1 then (.running, true)
  else (.catchUp, true)

/-- An impulse called for begins, in the next polarity, once the gap after the last one has run
(R28, R29, R30). -/
def Dial.beginWhenDue (d : Dial) (elapsed : Nat) : Dial :=
  if d.due && decide (d.lastEnd + d.cfg.gap ≤ elapsed) then
    { d with due := false, impulse := some { polarity := d.polarity, ends := elapsed + d.cfg.impulse } }
  else d

/-- The decision is taken at the present target (R28, R29). -/
def Dial.decideNow (d : Dial) (instant elapsed : Nat) : Dial :=
  let t := dialTarget d.cfg.kind instant
  let x := d.decision t
  Dial.beginWhenDue { d with phase := x.1, due := x.2, target := t } elapsed

/-- The channel takes the state its flags give: a decision where decisions are taken, else no impulse
begins (R27, R29). An impulse in progress goes on. -/
def Dial.settle (d : Dial) (v : Validity) (instant elapsed : Nat) : Dial :=
  if d.impulse.isSome then d
  else if d.decides v then d.decideNow instant elapsed
  else { d with due := false }

/-- `Dial.settle` of one channel of the state. -/
def settleDial (c : Nat) (s : State) : State :=
  s.withDial c ((s.dial c).settle s.time.validity s.time.instant s.elapsed)

/-- The target differs from the one the channel last took account of (R26). -/
def dialTargetMoved (s : State) (c : Nat) : Bool :=
  dialTarget (s.dial c).cfg.kind s.time.instant != (s.dial c).target

/-- A change of T: the target is taken, and the decision retaken unless an impulse is in progress (R29). -/
def dialFollow (c : Nat) (s : State) : State :=
  let d := s.dial c
  let t := dialTarget d.cfg.kind s.time.instant
  if t = d.target then s else settleDial c (s.withDial c { d with target := t })

/-- What a step or a change of validity asks of one channel (R38): validity that changes moves the channel
into or out of IDLE, and otherwise a change of T is taken. -/
def dialAfterStep (before : Validity) (s : State) (c : Nat) : State :=
  if before = s.time.validity then dialFollow c s
  else
    let d := s.dial c
    settleDial c (s.withDial c { d with target := dialTarget d.cfg.kind s.time.instant })

/-- The four channels after a step (R38). -/
def dialsAfterStep (before : Validity) (s : State) : State :=
  (numbers 1 4).foldl (dialAfterStep before) s

/-- The datum error of R32: a value in −S/2..S/2 − 1. -/
def datumError (k : DialKind) (h : Nat) : Int :=
  ((h + dialSteps k / 2) % dialSteps k : Nat) - (dialSteps k / 2 : Nat)

/-- The datum check at a completed impulse, with H already advanced (R32). -/
def datumCheck (c : Nat) (asserted : Bool) (s : State) : State :=
  let d := s.dial c
  if !d.cfg.datum then s
  else if asserted && d.pos != 0 then
    raise (.dialSlip c false (datumError d.cfg.kind d.pos) d.pos) (s.withDial c { d with pos := 0 })
  else if !asserted && d.pos == 0 then raise (.dialSlip c true 0 d.pos) s
  else s

def Polarity.flip : Polarity → Polarity
  | .pos => .neg
  | .neg => .pos

/-- H and the polarity after a completed impulse (R30). -/
def Dial.stepped (d : Dial) (ended : Nat) : Dial :=
  { d with
    pos := (d.pos + 1) % dialSteps d.cfg.kind, polarity := d.polarity.flip, impulse := none, holdPending := false,
    lastEnd := ended }

/-! ## Requests -/

/-- DIAL-CONFIG (R24). The datum's "enabled or disabled" travels as a flag byte, 1 enabled and 0 disabled (DESIGN CHOICE,
log entry 4). -/
def dialConfigAnswer (c kind impulse gap wait datum : Nat) (s : State) : Answer :=
  match dialKind? kind, flag? datum with
  | some k, some f =>
    if !within 1 4 c then refuse s .badValue
    else
      let d := s.dial c
      match d.stateIn s.time.validity with
      | .running | .wait | .catchUp => refuse s .busy
      | .fault | .held | .unknown | .idle =>
        let cfg : DialConfig :=
          { kind := k, impulse := clamp 100 2000 impulse, gap := clamp 100 2000 gap, wait := clamp 0 (dialSteps k / 2) wait,
            datum := f }
        let d' :=
          if k = d.cfg.kind then { d with cfg := cfg }
          else { d with cfg := cfg, pos := 0, known := false, target := dialTarget k s.time.instant }
        accept (s.withDial c d') (.dialConfig cfg)
  | _, _ => refuse s .badValue

/-- DIAL-HOLD (R33). -/
def dialHoldAnswer (c : Nat) (s : State) : Answer :=
  if !within 1 4 c then refuse s .badValue
  else
    let d := s.dial c
    if d.impulse.isSome then accept (s.withDial c { d with hold := true, holdPending := true }) .none
    else accept (s.withDial c { d with hold := true, due := false }) .none

/-- DIAL-SET-POSITION (R34). -/
def dialSetPositionAnswer (c position : Nat) (polarity : Option Nat) (s : State) : Answer :=
  let d := s.dial c
  match polarityOr d.polarity polarity with
  | none => refuse s .badValue
  | some p =>
    if !within 1 4 c then refuse s .badValue
    else
      match d.stateIn s.time.validity with
      | .running | .wait | .catchUp | .idle => refuse s .busy
      | .held | .unknown | .fault =>
        let h := clamp 0 (dialSteps d.cfg.kind - 1) position
        accept (settleDial c (s.withDial c { d with pos := h, polarity := p, known := true })) (.dialPosition h p)

/-- DIAL-RELEASE (R35). -/
def dialReleaseAnswer (c : Nat) (s : State) : Answer :=
  if !within 1 4 c then refuse s .badValue
  else
    let d := s.dial c
    if d.hold then accept (settleDial c (s.withDial c { d with hold := false, holdPending := false })) .none
    else accept s .none

/-- FAULT-CLEAR naming a dial channel (R36, R186). -/
def faultClearDialAnswer (c : Nat) (s : State) : Answer :=
  if !within 1 4 c then refuse s .badValue
  else
    let d := s.dial c
    if d.fault then accept (settleDial c (s.withDial c { d with fault := false })) (.wasSet true)
    else accept s (.wasSet false)

/-- DIAL-READ (R37). -/
def dialReadAnswer (c : Nat) (s : State) : Answer :=
  if !within 1 4 c then refuse s .badValue
  else
    let d := s.dial c
    accept s
      (.dial d.cfg d.pos d.polarity (dialTarget d.cfg.kind s.time.instant) (d.stateIn s.time.validity) d.known d.hold
        d.holdPending (d.impulse.map (fun i => (i.polarity, i.ends - s.elapsed))))

def execDialConfig (h : Header) (c kind impulse gap wait datum : Nat) (s : State) : Result :=
  .next (takeRequest h 0x20 (dialConfigAnswer c kind impulse gap wait datum) s)

def execDialHold (h : Header) (c : Nat) (s : State) : Result :=
  .next (takeRequest h 0x21 (dialHoldAnswer c) s)

def execDialSetPosition (h : Header) (c position : Nat) (polarity : Option Nat) (s : State) : Result :=
  .next (takeRequest h 0x22 (dialSetPositionAnswer c position polarity) s)

def execDialRelease (h : Header) (c : Nat) (s : State) : Result :=
  .next (takeRequest h 0x23 (dialReleaseAnswer c) s)

def execDialRead (h : Header) (c : Nat) (s : State) : Result :=
  .next (takeRequest h 0x24 (dialReadAnswer c) s)

def execFaultClearDial (h : Header) (c : Nat) (s : State) : Result :=
  .next (takeRequest h 0x08 (faultClearDialAnswer c) s)

/-! ## Events -/

/-- The target of a channel has changed (R26). -/
def dialTargetChangeDue (s : State) (c : Nat) : Bool := within 1 4 c && dialTargetMoved s c

/-- An impulse is due and the gap after the last one has run (R29). -/
def dialImpulseStartDue (s : State) (c : Nat) : Bool :=
  let d := s.dial c
  within 1 4 c && d.due && d.impulse.isNone && d.decides s.time.validity && decide (d.lastEnd + d.cfg.gap ≤ s.elapsed)

/-- An impulse in progress has run its full length (R30). -/
def dialImpulseEndDue (s : State) (c : Nat) : Bool :=
  within 1 4 c && (s.dial c).impulse.any (fun i => decide (i.ends ≤ s.elapsed))

/-- A completed impulse (R30): H and the polarity, then the datum, then the state or decision. -/
def dialImpulseComplete (c : Nat) (datum : Bool) (s : State) : State :=
  let d := s.dial c
  let s1 := s.withDial c { d.stepped s.elapsed with datumInput := datum }
  settleDial c (datumCheck c datum s1)

/-- The driver fault input asserted while an impulse is driven: the impulse is cut and not counted
(R30, R31). -/
def dialCut (c : Nat) (s : State) : State :=
  let d := s.dial c
  raise (.dialFault c d.pos d.polarity (dialTarget d.cfg.kind s.time.instant) s.time.instant)
    (s.withDial c
      { d with impulse := none, lastEnd := s.elapsed, fault := true, holdPending := false, due := false })

/-- DIAL-TARGET-CHANGE (R26, R29). -/
def execDialTargetChange (c : Nat) (s : State) : Result :=
  .next (whenOperating (fun s => if dialTargetChangeDue s c then dialFollow c s else s) s)

/-- DIAL-IMPULSE-START (R29). -/
def execDialImpulseStart (c : Nat) (s : State) : Result :=
  .next (whenOperating
    (fun s => if dialImpulseStartDue s c then s.withDial c ((s.dial c).beginWhenDue s.elapsed) else s) s)

/-- DIAL-IMPULSE-END (R30, R32). -/
def execDialImpulseEnd (c : Nat) (datum : Bool) (s : State) : Result :=
  .next (whenOperating (fun s => if dialImpulseEndDue s c then dialImpulseComplete c datum s else s) s)

/-- DIAL-DRIVER-FAULT (R31): outside an impulse it has no effect. -/
def execDialDriverFault (c : Nat) (s : State) : Result :=
  .next (whenOperating (fun s => if within 1 4 c && (s.dial c).impulse.isSome then dialCut c s else s) s)

end Sys2Proof.Machine
end

