-- ==== Sys2Proof/Machine/Scores.lean ====
section
/-! DEFINITION. The score memory and its canonical form, tune records and their playing order, chime
sets, and the requests of 03_score_memory_tunes_and_chime_sets.md. -/

namespace Sys2Proof.Machine

open Sys2Proof

/-! ## The score memory (R40, R41) -/

/-- The address of the cell of a row and column (R40). -/
def cellAddress (row col : Nat) : Nat := 24 * row + (col - 1)

/-- The cell at an address; an unlisted cell is 0 (R40). -/
def cellAt : List (Nat × BitVec 2) → Nat → BitVec 2
  | [], _ => 0
  | (b, w) :: rest, a => if a = b then w else cellAt rest a

/-- The cells with one written, in canonical form: a cell of 0 is unlisted. -/
def writeCell (a : Nat) (v : BitVec 2) : List (Nat × BitVec 2) → List (Nat × BitVec 2)
  | [] => if v = 0 then [] else [(a, v)]
  | (b, w) :: rest =>
    if a < b then (if v = 0 then (b, w) :: rest else (a, v) :: (b, w) :: rest)
    else if a = b then (if v = 0 then rest else (a, v) :: rest)
    else (b, w) :: writeCell a v rest

/-- A row set as a strictly rising list, with a row added. -/
def addRow (r : Nat) : List Nat → List Nat
  | [] => [r]
  | x :: xs => if r < x then r :: x :: xs else if r = x then x :: xs else x :: addRow r xs

/-- The addresses rise strictly, and start at or above `lo`. -/
def risingFrom : Nat → List Nat → Bool
  | _, [] => true
  | lo, x :: xs => decide (lo ≤ x) && risingFrom (x + 1) xs

/-- The canonical form of the score memory: addresses strictly rising and inside the 1024 × 24 cells, no
listed cell equal to what an unlisted one reads as, protected rows strictly rising and inside 0..1023. -/
def Memory.wf (m : Score) : Bool :=
  risingFrom 0 (m.cells.map (·.1)) && m.cells.all (fun c => decide (c.1 < 24576) && c.2 != 0)
    && risingFrom 0 m.protectedRows && m.protectedRows.all (fun r => decide (r < 1024))

/-- The cell of a row and column (R40). -/
def Score.read (m : Score) (row col : Nat) : BitVec 2 := cellAt m.cells (cellAddress row col)

/-- The score with the cell of a row and column stored (R45). -/
def Score.write (m : Score) (row col : Nat) (v : BitVec 2) : Score :=
  { m with cells := writeCell (cellAddress row col) v m.cells }

/-- A row's protect flag (R41). -/
def Score.isProtected (m : Score) (row : Nat) : Bool := m.protectedRows.contains row

/-- The score with one row's protect flag set or clear (R41). -/
def Score.protect (m : Score) (on : Bool) (row : Nat) : Score :=
  { m with
    protectedRows := if on then addRow row m.protectedRows else m.protectedRows.filter (· != row) }

/-! ## Writing and reading (R42 to R47) -/

/-- The cursor advances inside the window (R45). -/
def Window.advance (w : Window) : Window :=
  if w.col < w.lastCol then { w with col := w.col + 1 }
  else if w.row < w.lastRow then { w with col := w.firstCol, row := w.row + 1 }
  else { w with col := w.firstCol, row := w.firstRow }

/-- The cursor returned to the first row and column (R42, R44). -/
def Window.home (w : Window) : Window := { w with row := w.firstRow, col := w.firstCol }

/-- The progress of a SCORE-WRITE. -/
structure Writing where
  score : Score
  window : Window
  stored : Nat
  skipped : Nat

/-- One cell of an accepted SCORE-WRITE (R45). -/
def Writing.put (w : Writing) (v : BitVec 2) : Writing :=
  if w.score.isProtected w.window.row then { w with window := w.window.advance, skipped := w.skipped + 1 }
  else
    { score := w.score.write w.window.row w.window.col v, window := w.window.advance, stored := w.stored + 1,
      skipped := w.skipped }

/-- A link's window record replaced. -/
def State.withWindow (s : State) (l : Link) (w : Window) : State :=
  s.withLink l { s.link l with window := w }

/-- SCORE-WINDOW (R42). -/
def scoreWindowAnswer (l : Link) (r0 r1 c0 c1 : Nat) (s : State) : Answer :=
  if within 0 1023 r0 && within 0 1023 r1 && within 1 24 c0 && within 1 24 c1 && decide (r0 ≤ r1) && decide (c0 ≤ c1) then
    let w : Window :=
      { firstRow := r0, lastRow := r1, firstCol := c0, lastCol := c1, row := r0, col := c0,
        stream := (s.link l).window.stream }
    accept (s.withWindow l w) (.window w)
  else refuse s .badValue

/-- SCORE-WRITE (R44, R45, R187). A refusal closes the stream (R43). A length that does not match the count is refused
before a continue flag that is neither 0 nor 1 (DESIGN CHOICE, log entry 15). -/
def scoreWriteAnswer (l : Link) (continueFlag count : Nat) (packed : List Byte) (s : State) : Answer :=
  if count > 200 then refuse (closeStream l s) .badValue
  else if packed.length ≠ ceilDiv count 4 then refuse (closeStream l s) .badLength
  else
    match flag? continueFlag with
    | none => refuse (closeStream l s) .badValue
    | some goOn =>
      let w := (s.link l).window
      if goOn && !w.stream then refuse (closeStream l s) .noStream
      else
        let start : Writing := { score := s.score, window := if goOn then w else w.home, stored := 0, skipped := 0 }
        let x := (unpackCells count packed).foldl Writing.put start
        accept (State.withWindow { s with score := x.score } l { x.window with stream := true })
          (.stored x.stored x.skipped x.window.row x.window.col)

/-- The next position in sequence: after column 24 the next row, after row 1023 row 0 (R40, R47). -/
def nextCell (p : Nat × Nat) : Nat × Nat := if p.2 < 24 then (p.1, p.2 + 1) else ((p.1 + 1) % 1024, 1)

/-- `n` positions in sequence from `p`. -/
def cellRun : Nat → Nat × Nat → List (Nat × Nat)
  | 0, _ => []
  | n + 1, p => p :: cellRun n (nextCell p)

/-- SCORE-READ (R47). -/
def scoreReadAnswer (row col count : Nat) (s : State) : Answer :=
  if within 0 1023 row && within 1 24 col then
    let n := clamp 1 200 count
    let reached := ceilDiv (col - 1 + n) 24
    accept s
      (.scoreCells row col n ((cellRun n (row, col)).map (fun p => s.score.read p.1 p.2))
        ((List.range reached).map (fun k => s.score.isProtected ((row + k) % 1024))))
  else refuse s .badValue

/-- SCORE-PROTECT (R41). -/
def scoreProtectAnswer (r0 r1 action : Nat) (s : State) : Answer :=
  if within 0 1023 r0 && within 0 1023 r1 && decide (r0 ≤ r1) && decide (action ≤ 1) then
    let on := action == 0
    let m := (numbers r0 r1).foldl (Score.protect · on ·) s.score
    let changed := ((numbers r0 r1).filter (fun r => s.score.isProtected r != on)).length
    accept { s with score := m } (.counts changed m.protectedRows.length)
  else refuse s .badValue

/-! ## Tunes (R48 to R54) -/

/-- The length N of the played sequence (R51). -/
def TuneSnap.length (t : TuneSnap) : Nat := t.intro + t.body * t.passes + t.coda

/-- The score row of played row `j` (R51). -/
def TuneSnap.playedRow (t : TuneSnap) (j : Nat) : Nat :=
  (if j < t.intro then t.start + j
   else if j < t.intro + t.body * t.passes then t.start + t.intro + (j - t.intro) % t.body
   else t.start + t.intro + t.body + (j - t.intro - t.body * t.passes)) % 1024

/-- The rows of the stretch: intro, body and coda rows (R48). -/
def TuneSnap.stretch (t : TuneSnap) : Nat := t.intro + t.body + t.coda

/-- The bells a tune uses, as the score now stands (R53). -/
def usedBells (m : Score) (t : TuneSnap) : List Nat :=
  m.cells.filterMap (fun c =>
    if (c.1 / 24 + 1024 - t.start) % 1024 < t.stretch then
      let b : Int := (c.1 % 24 : Nat) + 1 + t.shift
      if 1 ≤ b ∧ b ≤ 24 then some b.toNat else none
    else none)

/-- A record of a chime set's position (R55). -/
def chimeAt (s : State) (set position : Nat) : ChimePos := nth (slot s.chimes set) position

def State.withChime (s : State) (set position : Nat) (p : ChimePos) : State :=
  { s with chimes := setSlot s.chimes set (setNth (slot s.chimes set) position p) }

/-- TUNE-WRITE (R49). Its OK reply gives the record as stored by the bytes of the write's own record (R188), without the
valid flag, which an accepted write has set (DESIGN CHOICE, log entry 10). -/
def tuneWriteAnswer (n start intro body coda passes beat : Nat) (shift : Int) (completeness : Nat) (s : State) : Answer :=
  match completeness? completeness with
  | some whole =>
    if within 0 31 n && within 0 1023 start then
      let t : Tune :=
        { valid := true,
          snap :=
            { start := start, intro := clamp 0 255 intro, body := clamp 1 255 body, coda := clamp 0 255 coda,
              passes := clamp 1 16 passes, beat := clamp 150 3000 beat, shift := clampInt (-11) 11 shift, whole := whole } }
      accept { s with tunes := setSlot s.tunes n t } (.tuneStored n t.snap)
    else refuse s .badValue
  | none => refuse s .badValue

/-- The first chime set and position that list a tune, sets 0..7 and positions 1..4 in order (R50). -/
def listedIn (s : State) (n : Nat) : Option (Nat × Nat) :=
  ((numbers 0 7).flatMap (fun k => (numbers 1 4).map (fun p => (k, p)))).find?
    (fun x => (chimeAt s x.1 x.2).tunes.contains n)

/-- TUNE-CLEAR (R50). -/
def tuneClearAnswer (n : Nat) (s : State) : Answer :=
  if !within 0 31 n then refuse s .badValue
  else
    match listedIn s n with
    | some x => { state := s, status := .badValue, body := .listedAt x.1 x.2 }
    | none => accept { s with tunes := setSlot s.tunes n { slot s.tunes n with valid := false } } .none

/-- TUNE-READ (R50). -/
def tuneReadAnswer (n : Nat) (s : State) : Answer :=
  if !within 0 31 n then refuse s .badValue else accept s (.tune n (slot s.tunes n))

/-! ## Chime sets (R55 to R58) -/

/-- A pointer CHIME-WRITE may carry with a count (R56). -/
def pointerFits (count : Nat) : Option Nat → Bool
  | none => true
  | some p => decide (p < count) || (count == 0 && p == 0)

/-- CHIME-WRITE (R56). -/
def chimeWriteAnswer (k position count : Nat) (tunes : List Nat) (step : Nat) (pointer : Option Nat) (s : State) : Answer :=
  if within 0 7 k && within 1 4 position && decide (count ≤ 4) && decide (tunes.length = count)
      && tunes.all (fun n => within 0 31 n && (slot s.tunes n).valid) && pointerFits count pointer then
    let p : ChimePos := { tunes := tunes, pointer := pointer.getD 0, step := clamp 1 3 step }
    accept (s.withChime k position p) (.chime k position p)
  else refuse s .badValue

/-- CHIME-READ (R56). -/
def chimeReadAnswer (k : Nat) (s : State) : Answer :=
  if !within 0 7 k then refuse s .badValue else accept s (.chimes k (slot s.chimes k).toList)

/-- A chime built from the position begins to play: its pointer advances over the position as it now
stands; an empty position is left (R58). -/
def advanceChime (set position : Nat) (s : State) : State :=
  let p := chimeAt s set position
  if p.tunes.length = 0 then s
  else s.withChime set position { p with pointer := (p.pointer + p.step) % p.tunes.length }

/-! ## Meanings -/

def execScoreWindow (h : Header) (r0 r1 c0 c1 : Nat) (s : State) : Result :=
  .next (takeRequest h 0x30 (scoreWindowAnswer h.link r0 r1 c0 c1) s)

def execScoreWrite (h : Header) (continueFlag count : Nat) (packed : List Byte) (s : State) : Result :=
  .next (takeRequest h 0x31 (scoreWriteAnswer h.link continueFlag count packed) s)

def execScoreRead (h : Header) (row col count : Nat) (s : State) : Result :=
  .next (takeRequest h 0x32 (scoreReadAnswer row col count) s)

def execScoreProtect (h : Header) (r0 r1 action : Nat) (s : State) : Result :=
  .next (takeRequest h 0x33 (scoreProtectAnswer r0 r1 action) s)

def execTuneWrite (h : Header) (n start intro body coda passes beat : Nat) (shift : Int) (completeness : Nat)
    (s : State) : Result :=
  .next (takeRequest h 0x34 (tuneWriteAnswer n start intro body coda passes beat shift completeness) s)

def execTuneClear (h : Header) (n : Nat) (s : State) : Result :=
  .next (takeRequest h 0x35 (tuneClearAnswer n) s)

def execTuneRead (h : Header) (n : Nat) (s : State) : Result :=
  .next (takeRequest h 0x36 (tuneReadAnswer n) s)

def execChimeWrite (h : Header) (k position count : Nat) (tunes : List Nat) (step : Nat) (pointer : Option Nat)
    (s : State) : Result :=
  .next (takeRequest h 0x37 (chimeWriteAnswer k position count tunes step pointer) s)

def execChimeRead (h : Header) (k : Nat) (s : State) : Result :=
  .next (takeRequest h 0x38 (chimeReadAnswer k) s)

end Sys2Proof.Machine
end

