-- ==== Sys2Proof/Machine/Touches.lean ====
section
/-! DEFINITION. Change ringing (06_change_ringing.md): changes and rows, the truth rank, the touch context
and how a row is formed and taken, and the method requests. TOUCH-START stands with the other
queueing requests in Requests.lean. -/

namespace Sys2Proof.Machine

open Sys2Proof

/-! ## Changes and rows (R103, R106) -/

/-- For each position 1..n, whether the change makes the place (R102). -/
def placesMade (n : Nat) (c : BitVec 16) : List Bool := (numbers 1 n).map (fun p => c.getLsbD (p - 1))

/-- The positions a change does not make pair off, scanned from 1 upward (R103). -/
def pairsOff : List Bool → Bool
  | [] => true
  | true :: rest => pairsOff rest
  | false :: false :: rest => pairsOff rest
  | false :: _ => false

/-- A change is valid for stage `n` (R103). -/
def changeValid (n : Nat) (c : BitVec 16) : Bool := pairsOff (placesMade n c) && decide (c.toNat < 2 ^ n)

/-- A change applied to a row by walking the positions (R106). -/
def walk : List Bool → List Nat → List Nat
  | true :: made, b :: row => b :: walk made row
  | false :: _ :: made, b :: c :: row => c :: b :: walk made row
  | _, row => row

/-- A change applied to a row (R106). -/
def applyChange (c : BitVec 16) (row : List Nat) : List Nat := walk (placesMade row.length c) row

/-- Rounds at stage `n` (R106). -/
def rounds (n : Nat) : List Nat := numbers 1 n

def factorial : Nat → Nat
  | 0 => 1
  | n + 1 => (n + 1) * factorial n

/-- The rank of a row (R114). -/
def rank : List Nat → Nat
  | [] => 0
  | x :: xs => (xs.filter (· < x)).length * factorial xs.length + rank xs

/-! ## The touch context (R107 to R113) -/

/-- The call that replaces the last change of the lead being rung, if any (R107). -/
def Touch.callNow (t : Touch) : Option Call :=
  if t.changeIndex = t.snap.lead.length then (t.calls[t.nextCall]?).filter (fun c => c.lead == t.leadNumber)
  else none

/-- The change the next changed row uses (R107). -/
def Touch.changeNow (t : Touch) : BitVec 16 :=
  let own := t.snap.lead.getD (t.changeIndex - 1) 0
  match t.callNow with
  | some c => (match c.kind with | .bob => t.snap.bob | .single => t.snap.single).getD own
  | none => own

/-- The next row, formed from the context alone (R110). -/
def Touch.form (t : Touch) : List Nat :=
  match t.phase with
  | .opening | .closing => rounds t.snap.stage
  | .changes => applyChange t.changeNow t.row

/-- The row number the next row takes (R110). -/
def Touch.nextRowNumber (t : Touch) : Nat :=
  match t.rowNumber with
  | none => 0
  | some r => r + 1

/-- Nothing is left to ring: CLOSING with no closing row left (R113). -/
def Touch.done (t : Touch) : Bool := t.phase == .closing && t.closingLeft == 0

/-- The position in the lead moves on (R112, step 3). -/
def Touch.moveOn (t : Touch) : Touch :=
  if t.changeIndex < t.snap.lead.length then { t with changeIndex := t.changeIndex + 1 }
  else { t with leadNumber := t.leadNumber + 1, changeIndex := 1 }

/-- The changed row is false: its rank is marked already (R114). -/
def Touch.isFalse (t : Touch) (row : List Nat) : Bool :=
  match t.marks with
  | none => false
  | some ms => ms.contains (rank row)

/-- The truth check of a changed row (R114): a false row is counted, another is marked. -/
def Touch.check (t : Touch) (row : List Nat) : Touch :=
  if t.isFalse row then { t with falseRows := t.falseRows + 1 }
  else { t with marks := t.marks.map (rank row :: ·) }

/-- Taking a row in CHANGES (R107, R112, R113). -/
def Touch.takeChanged (t : Touch) (row : List Nat) : Touch :=
  let called := t.callNow.isSome
  let t1 := if called then { t with nextCall := t.nextCall + 1 } else t
  if row = rounds t.snap.stage then { t1 with cameRound := true, phase := .closing, closingLeft := t.closing }
  else Touch.moveOn (Touch.check { t1 with changedRows := t1.changedRows + 1 } row)

/-- The row formed is taken into the context (R110 to R113). -/
def Touch.take (t : Touch) : Touch :=
  let row := t.form
  let r := t.nextRowNumber
  let t1 := { t with row := row, rowNumber := some r, rowsRung := t.rowsRung + 1 }
  match t.phase with
  | .opening =>
    if r + 1 = t.opening then
      { t1 with phase := .changes, leadNumber := 1, changeIndex := 1, marks := t1.marks.map (fun _ => [0]) }
    else t1
  | .changes => t1.takeChanged row
  | .closing => { t1 with closingLeft := t1.closingLeft - 1 }

/-- The strokes in a row: the working bells and the cover (R115). -/
def Touch.strokes (t : Touch) : Nat := t.snap.stage + (if t.snap.cover.isSome then 1 else 0)

/-- When row `r` begins: S + r × c × b + (r div 2) × b (R115). -/
def Touch.rowStart (t : Touch) (origin : Int) (r : Nat) : Int :=
  origin + ((r * t.strokes * t.beat + r / 2 * t.beat : Nat) : Int)

/-- The tower bells of a row in striking order: through the bell map, the cover last (R106, R115). -/
def Touch.towerBells (t : Touch) (row : List Nat) : List Nat :=
  row.map (fun w => t.snap.bells.getD (w - 1) 0) ++ t.snap.cover.toList

/-! ## Method requests (R104, R105) -/

/-- The index byte of the first invalid change: lead changes from 1, then the bob 0xFE, then the single
0xFF (R104, R188). -/
def firstInvalid (n : Nat) (lead : List (BitVec 16)) (bob single : Option (BitVec 16)) : Option Nat :=
  match (numbers 1 lead.length).find? (fun i => !changeValid n (lead.getD (i - 1) 0)) with
  | some i => some i
  | none =>
    if bob.any (fun c => !changeValid n c) then some 0xFE
    else if single.any (fun c => !changeValid n c) then some 0xFF
    else none

/-- The entries of a list are distinct. -/
def distinct : List Nat → Bool
  | [] => true
  | x :: xs => !xs.contains x && distinct xs

/-- The method's bells and cover fit (R104); `cover = 0` is none (R188). -/
def bellsFit (n : Nat) (bells : List Nat) (cover : Nat) : Bool :=
  decide (bells.length = n) && bells.all (within 1 24) && distinct bells
    && (cover == 0 || within 1 24 cover && !bells.contains cover)

/-- METHOD-WRITE (R104). The index of an invalid change is given only when every other field fits (DESIGN CHOICE, log
entry 15). -/
def methodWriteAnswer (k n : Nat) (bells : List Nat) (cover m : Nat) (lead : List (BitVec 16))
    (bob single : Option (BitVec 16)) (s : State) : Answer :=
  if within 0 7 k && within 4 12 n && bellsFit n bells cover && within 2 32 m && decide (lead.length = m) then
    match firstInvalid n lead bob single with
    | some i => { state := s, status := .badValue, body := .changeIndex i }
    | none =>
      let r : Method :=
        { valid := true, stage := n, bells := bells, cover := if cover = 0 then none else some cover, lead := lead,
          bob := bob, single := single }
      accept { s with methods := setSlot s.methods k r } .none
  else refuse s .badValue

/-- METHOD-CLEAR (R105). -/
def methodClearAnswer (k : Nat) (s : State) : Answer :=
  if !within 0 7 k then refuse s .badValue
  else accept { s with methods := setSlot s.methods k { slot s.methods k with valid := false } } .none

/-- METHOD-READ (R105). -/
def methodReadAnswer (k : Nat) (s : State) : Answer :=
  if !within 0 7 k then refuse s .badValue else accept s (.method k (slot s.methods k))

def execMethodWrite (h : Header) (k n : Nat) (bells : List Nat) (cover m : Nat) (lead : List (BitVec 16))
    (bob single : Option (BitVec 16)) (s : State) : Result :=
  .next (takeRequest h 0x58 (methodWriteAnswer k n bells cover m lead bob single) s)

def execMethodClear (h : Header) (k : Nat) (s : State) : Result :=
  .next (takeRequest h 0x59 (methodClearAnswer k) s)

def execMethodRead (h : Header) (k : Nat) (s : State) : Result :=
  .next (takeRequest h 0x5A (methodReadAnswer k) s)

end Sys2Proof.Machine
end

