-- ==== Sys2Proof/Machine/Arbiter.lean ====
section
/-! DEFINITION. Performances and the hammer arbiter (04_performances_and_the_hammer_arbiter.md): the
queue, clock events, the start test and the arbitration table, holding back and re-basing, ending,
and what the arbiter does on a step and on entering MAINTENANCE. -/

namespace Sys2Proof.Machine

open Sys2Proof

/-! ## Hammers as the arbiter and the scheduler see them (R83, R84) -/

/-- Usable for a performance stroke (R83). -/
def Hammer.usable (h : Hammer) : Bool :=
  h.fitted && (h.state == .ready || h.state == .striking || h.state == .recovering)

/-- At rest: READY, or INHIBITED in MAINTENANCE (R90, R96). -/
def restState (s : State) : HammerState := if s.maintenance then .inhibited else .ready

/-- The greater of two instants, `none` standing for −∞ (R84). -/
def laterOf : Option Int → Option Int → Option Int
  | none, b => b
  | a, none => a
  | some a, some b => some (max a b)

/-- Booked-until B of a hammer (R84): the later of the recovery end of its last actuation and, for its
latest entry in the strike queue, actuation + L + D. -/
def bookedUntil (s : State) (b : Nat) : Option Int :=
  let h := s.hammer b
  (s.strikes.filter (·.bell == b)).foldl
    (fun x e => laterOf x (some (e.actuation + ((h.lead + h.recovery : Nat) : Int)))) h.recoveryEnd

/-- A performance has entries in the strike queue. -/
def hasEntries (s : State) (id : Nat) : Bool := s.strikes.any (·.id == id)

/-! ## The queue (R59 to R61) -/

def Source.cls : Source → PerfClass
  | .clock .. => .clock
  | .tune .. => .tune
  | .toll .. => .toll
  | .touch => .touch

def Perf.cls (p : Perf) : PerfClass := p.source.cls

def Perf.isClock (p : Perf) : Bool := p.cls == .clock

/-- The order of classes among equal due starts (R61). -/
def PerfClass.order : PerfClass → Nat
  | .clock => 0
  | .touch => 1
  | .toll => 2
  | .tune => 3
  | .swing => 4

/-- `p` stands before `q` in the queue (R61). -/
def Perf.before (p q : Perf) : Bool :=
  decide (p.dueStart < q.dueStart)
    || p.dueStart == q.dueStart
      && (decide (p.cls.order < q.cls.order) || p.cls.order == q.cls.order && decide (p.id < q.id))

/-- The queue with a performance in its place (R61). -/
def enqueue (p : Perf) : List Perf → List Perf
  | [] => [p]
  | q :: qs => if p.before q then p :: q :: qs else q :: enqueue p qs

def State.withQueue (s : State) (q : List Perf) : State := { s with arbiter := { s.arbiter with queue := q } }

/-- The performance with an id. -/
def findPerf (s : State) (id : Nat) : Option Perf := s.arbiter.queue.find? (·.id == id)

/-- The queue with the performance of an id changed. -/
def updatePerf (id : Nat) (f : Perf → Perf) (s : State) : State :=
  s.withQueue (s.arbiter.queue.map (fun p => if p.id == id then f p else p))

/-- The queue without a performance. -/
def dropPerf (id : Nat) (s : State) : State := s.withQueue (s.arbiter.queue.filter (·.id != id))

/-- The ACTIVE performance. -/
def activePerf (s : State) : Option Perf := s.arbiter.queue.find? (·.state == .active)

/-- The next id in 1..255 (R60). -/
def idAfter (n : Nat) : Nat := if n < 255 then n + 1 else 1

/-- The first id not in use, from `n` on (R60). -/
def freeId (used : List Nat) : Nat → Nat → Nat
  | 0, n => n
  | fuel + 1, n => if used.contains n then freeId used fuel (idAfter n) else n

/-- The id the next performance takes (R60): with at most 8 in the queue, one of nine is free. -/
def newId (s : State) : Nat := freeId (s.arbiter.queue.map (·.id)) 255 s.arbiter.nextId

/-- A performance joins the queue as WAITING, and the counter stands one past its id (R60, R61, R63). -/
def joinQueue (p : Perf) (s : State) : State :=
  { s with arbiter := { s.arbiter with queue := enqueue p s.arbiter.queue, nextId := idAfter p.id } }

/-- A clock event whose only part is its strike: the cursor stands in the strike part (R59). -/
def Source.strikeOnly : Source → Bool
  | .clock _ chime _ => chime.isNone
  | .tune .. | .toll .. | .touch => false

/-- A performance that waits, with its times fixed by its first landing and wait limit (R59). -/
def waitingPerf (id : Nat) (src : Source) (first : Int) (waitMs : Nat) : Perf where
  id := id
  source := src
  firstLanding := first
  dueStart := first - Config.startAllowance
  deadline := first - Config.startAllowance + (waitMs : Int)
  state := .waiting
  tested := false
  origin := none
  cursor := 0
  inStrike := src.strikeOnly
  stopped := none
  booked := 0
  dropped := 0
  lastTaken := none

/-! ## What a performance has left (R74, R75, R77) -/

/-- A performance has rows or strokes it has not offered (R77). -/
def remains (s : State) (p : Perf) : Bool :=
  match p.source with
  | .clock _ chime strike =>
    if p.inStrike then strike.any (fun k => decide (p.cursor < k.count))
    else chime.any (fun c => decide (p.cursor < c.snap.length)) || strike.any (fun k => decide (0 < k.count))
  | .tune _ snap => decide (p.cursor < snap.length)
  | .toll _ _ _ count _ => decide (p.cursor < count)
  | .touch => !s.touch.done

/-- Nothing left to offer and no entry left in the strike queue (R77). -/
def finished (s : State) (p : Perf) : Bool := (p.stopped.isSome || !remains s p) && !hasEntries s p.id

/-- The spacing of a tune's rows or of a toll's strokes (R74, R75). -/
def Perf.spacing (p : Perf) : Int :=
  match p.source with
  | .tune _ snap => snap.beat
  | .toll _ _ interval _ _ => interval
  | _ => 0

/-- When the row or stroke at the cursor is planned to land: S + cursor × spacing (R52, R65). -/
def Perf.cursorLanding (p : Perf) : Int := p.origin.getD 0 + (p.cursor : Int) * p.spacing

/-- Holds back for waiting clocks: a tune, or a toll whose silence-clock flag is clear (R74). -/
def Perf.yieldsToClock (p : Perf) : Bool :=
  match p.source with
  | .tune .. => true
  | .toll _ _ _ _ silence => !silence
  | _ => false

/-- The ACTIVE performance holds back: its cursor row would land at or after F less its spacing, for the
first landing F of a WAITING clock (R74). -/
def heldBack (s : State) (p : Perf) : Bool :=
  p.state == .active && p.yieldsToClock && p.stopped.isNone && remains s p
    && s.arbiter.queue.any
        (fun c => c.isClock && c.state == .waiting && decide (p.cursorLanding ≥ c.firstLanding - p.spacing))

/-- A performance re-based so that its cursor row or stroke lands at `r` (R75). -/
def Perf.rebase (p : Perf) (r : Int) : Perf := { p with origin := some (r - (p.cursor : Int) * p.spacing) }

/-- The id of a performance that is holding back. -/
def holder (s : State) : Option Nat := ((activePerf s).filter (heldBack s)).map (·.id)

/-- A hold that `was` in force and has ended without a pause: the performance is re-based (R74, R75), also where a step has
rebuilt the clock and the hold is in force no more, as after a backward step (R79; DESIGN CHOICE, log entry 13). -/
def endHold (was : Option Nat) (s : State) : State :=
  match was, activePerf s with
  | some id, some p =>
    if p.id = id ∧ p.stopped = none ∧ heldBack s p = false then
      updatePerf id (fun p => p.rebase (max p.cursorLanding (s.now + Config.startAllowance))) s
    else s
  | _, _ => s

/-! ## The served marker and omission (R22, R72) -/

/-- A write of the served marker: it moves to a later event only (R22). -/
def moveMarker (event : Nat) (s : State) : State :=
  match s.time.marker with
  | some m => if m < event then { s with time := { s.time with marker := some event } } else s
  | none => { s with time := { s.time with marker := some event } }

/-- An event lies after the served marker (R22, R68). -/
def afterMarker (s : State) (event : Nat) : Bool := s.time.marker.any (fun m => decide (m < event))

def Perf.event (p : Perf) : Option Nat :=
  match p.source with
  | .clock e _ _ => some e
  | _ => none

/-- PERFORMANCE-OMITTED for a performance or a part of a clock event (R72). For a performance that is no clock event the record's
part is the whole, and the byte of it a free value (R189; DESIGN CHOICE, log entry 5). -/
def omitted (p : Perf) (reason : OmitReason) (part : ClockPart) (s : State) : State :=
  raise (.performanceOmitted p.id p.cls reason part p.event 0 0) s

/-- The touch leaves the queue: its context becomes ENDED and TOUCH-ENDED is raised, before the
arbiter's own notice (R116). -/
def endTouch (p : Perf) (how : TouchHow) (reason : Option OmitReason) (s : State) : State :=
  if p.cls == .touch then
    let t := s.touch
    raise
      (.touchEnded p.id t.method how reason t.cameRound t.rowsRung t.changedRows t.falseRows t.leadNumber t.nextCall
        t.calls.length t.row)
      { s with touch := { t with status := .ended } }
  else s

/-- The marker moves to the event of a clock performance. -/
def serveEvent (p : Perf) (s : State) : State :=
  match p.event with
  | some e => moveMarker e s
  | none => s

/-- A WAITING performance leaves the queue without a further notice: a clock event is served, and a hold
kept for it ends (R72, R74). -/
def leaveOmitted (p : Perf) (s : State) : State := endHold (holder s) (serveEvent p (dropPerf p.id s))

/-- A performance is omitted (R72): TOUCH-ENDED for a touch, PERFORMANCE-OMITTED, and it leaves. -/
def omitPerf (p : Perf) (reason : OmitReason) (part : ClockPart) (s : State) : State :=
  let was := holder s
  let s1 := omitted p reason part (endTouch p .omitted (some reason) s)
  endHold was (serveEvent p (dropPerf p.id s1))

/-! ## Clock events (R67 to R69) -/

/-- The hour on the twelve-hour dial of quarter index `q` (R69). -/
def dialHour (q : Nat) : Nat := if q / 4 % 12 = 0 then 12 else q / 4 % 12

/-- The chime part of an event, from the class record of its date (R57, R69). -/
def planChime (s : State) (event : Nat) : Option ChimePart :=
  let q := event % 96
  let cls := slot s.calendar.classes (classOf s.calendar (event / 96)).1
  if !cls.chimeQuarters then none
  else
    match cls.chimeSet with
    | none => none
    | some k =>
      let position := if q % 4 = 0 then 4 else q % 4
      let p := chimeAt s k position
      match p.tunes[p.pointer]? with
      | none => none
      | some n =>
        let snap := (slot s.tunes n).snap
        let at_ : Int := (event * Config.quarterMs : Nat)
        let first := if q % 4 = 0 then at_ - (s.arbiter.clockStrike.gap : Int) - (((snap.length - 1) * snap.beat : Nat) : Int)
          else at_
        some { snap := snap, tune := n, chimeSet := k, position := position, entry := p.pointer, first := first }

/-- The strike part of an event (R69). -/
def planStrike (s : State) (event : Nat) : Option StrikePart :=
  let q := event % 96
  let cls := slot s.calendar.classes (classOf s.calendar (event / 96)).1
  let c := s.arbiter.clockStrike
  if q % 4 = 0 && cls.strikeHours then
    some { bell := c.bell, strength := c.strength, count := dialHour q, interval := c.interval,
           first := (event * Config.quarterMs : Nat) }
  else none

/-- The earliest landing of the parts (R69). -/
def firstOf : Option ChimePart → Option StrikePart → Option Int
  | some c, some k => some (min c.first k.first)
  | some c, none => some c.first
  | none, some k => some k.first
  | none, none => none

/-- The due start an event would have if it were built now; none when it would build nothing
(R68, R69). -/
def eventDue (s : State) (event : Nat) : Option Int :=
  (firstOf (planChime s event) (planStrike s event)).map (· - Config.startAllowance)

/-- The quarters whose events can have a build time at or before now: an hour chime runs at most
4589 beats of 3000 ms before a gap of 10 s, and the build time lies 62 s before it; the last event is
that of the last quarter of the range. -/
def lastCandidate (s : State) : Nat := min (s.time.instant + 13839000) Config.lastInstant / Config.quarterMs

/-- The events after the served marker, up to the last whose build time can have come. -/
def candidates (s : State) : List Nat :=
  match s.time.marker with
  | some m => numbers (m + 1) (lastCandidate s)
  | none => []

/-- The event is in the queue. -/
def eventQueued (s : State) (event : Nat) : Bool := s.arbiter.queue.any (fun p => p.event == some event)

/-- An event may be built now (R68). -/
def buildable (s : State) (event : Nat) : Bool :=
  s.time.validity == .isSet && afterMarker s event && !eventQueued s event
    && (eventDue s event).any (fun d => decide (d - Config.buildAhead ≤ s.now))

/-- A part comes too soon after the moment of building (R69). -/
def tooLate (s : State) (first : Int) : Bool := decide (first < s.now + Config.startAllowance)

/-- A part of an event is not built, with reason LATE (R69). -/
def latePart (id event : Nat) (part : ClockPart) (late : Bool) (s : State) : State :=
  if late then raise (.performanceOmitted id .clock .late part (some event) 0 0) s else s

/-- A clock event is built, or omitted: BUSY when the queue is full (R68), part by part LATE when a part
comes too soon, the marker moving to it when no part remains (R69). -/
def buildEvent (event : Nat) (s : State) : State :=
  if Config.queuePlaces ≤ s.arbiter.queue.length then
    moveMarker event (raise (.performanceOmitted 0 .clock .busy .whole (some event) 0 0) s)
  else
    let chime := planChime s event
    let strike := planStrike s event
    let chimeLate := chime.any (fun c => tooLate s c.first)
    let strikeLate := strike.any (fun k => tooLate s k.first)
    let chime' := if chimeLate then none else chime
    let strike' := if strikeLate then none else strike
    let id := if (firstOf chime' strike').isSome then newId s else 0
    let s1 := latePart id event .strike strikeLate (latePart id event .chime chimeLate s)
    match firstOf chime' strike' with
    | none => moveMarker event s1
    | some first => joinQueue (waitingPerf id (.clock event chime' strike') first 0) s1

/-! ## Starting (R62, R71, R72, R73) -/

/-- The silence test of a part of a clock event: at its own quarter instant (R71). -/
def eventSilenced (s : State) (event : Nat) (k : SilenceClass) : Bool :=
  silenced s k (event % 96 * 15) (classOf s.calendar (event / 96)).1

/-- The silence test of a tune, toll or touch: at the minute of now (R71). -/
def nowSilenced (s : State) (k : SilenceClass) : Bool :=
  silenced s k (minuteOfDay s.time.instant) s.calendar.today

/-- A WHOLE tune lacks a hammer it uses (R53, R72). -/
def tuneLacks (s : State) (snap : TuneSnap) : Bool :=
  snap.whole && (usedBells s.score snap).any (fun b => !(s.hammer b).usable)

/-- A non-clock performance starts: S is now + 2,000, and a touch begins OPENING (R62, R109). -/
def startPlain (p : Perf) (s : State) : State :=
  let s1 := updatePerf p.id
    (fun p => { p with state := .active, tested := true, origin := some (s.now + Config.startAllowance) }) s
  if p.cls == .touch then { s1 with touch := { s1.touch with status := .ringing, phase := .opening } } else s1

/-- A clock event starts with the parts it has left: the marker moves to it, and a chime part advances
its position's pointer (R58, R72, R73). A part omitted at this test is dropped from the source, so QUEUE-READ shows it as not
built from then on (R66; DESIGN CHOICE, log entry 13). -/
def startClock (p : Perf) (event : Nat) (chime : Option ChimePart) (strike : Option StrikePart) (s : State) : State :=
  let s1 := updatePerf p.id
    (fun p => { p with state := .active, tested := true, source := .clock event chime strike, inStrike := chime.isNone }) s
  let s2 := moveMarker event s1
  match chime with
  | some c => advanceChime c.chimeSet c.position s2
  | none => s2

/-- A performance becomes PAUSED at its cursor (R73). -/
def pause (id : Nat) (s : State) : State := updatePerf id (fun p => { p with state := .paused }) s

/-- The part a BUSY omission names: the whole event, or the part left when the other was omitted. -/
def leftPart : Bool → Option ChimePart → ClockPart
  | false, _ => .whole
  | true, some _ => .chime
  | true, none => .strike

/-- The arbitration table for an arriving clock event (R73). -/
def arbitrateClock (p : Perf) (event : Nat) (chime : Option ChimePart) (strike : Option StrikePart) (part : ClockPart)
    (s : State) : State :=
  match activePerf s with
  | none => startClock p event chime strike s
  | some q => if q.yieldsToClock then startClock p event chime strike (pause q.id s) else omitPerf p .busy part s

/-- One of the tests of R72 on a part of a clock event, if the part is still there: it stays, or is omitted
with that test's reason. -/
def partTest {α : Type} (p : Perf) (reason : OmitReason) (part : ClockPart) (fails : α → Bool) (x : Option α) (s : State) :
    Option α × State :=
  if x.any fails then (none, omitted p reason part s) else (x, s)

/-- The start test of a clock event (R72): each part for silence, then each remaining part against its
hammers, then the arbitration. -/
def testClock (p : Perf) (event : Nat) (chime : Option ChimePart) (strike : Option StrikePart) (s : State) : State :=
  if !afterMarker s event then omitPerf p .busy .whole s
  else
    let c1 := partTest p .silence .chime (fun _ => eventSilenced s event .quarters) chime s
    let k1 := partTest p .silence .strike (fun _ => eventSilenced s event .hour) strike c1.2
    let c2 := partTest p .withdrawn .chime (fun c => tuneLacks s c.snap) c1.1 k1.2
    let k2 := partTest p .withdrawn .strike (fun k => !(s.hammer k.bell).usable) k1.1 c2.2
    if c2.1.isNone && k2.1.isNone then leaveOmitted p k2.2
    else
      let lost := c2.1.isSome != chime.isSome || k2.1.isSome != strike.isSome
      arbitrateClock p event c2.1 k2.1 (leftPart lost c2.1) k2.2

/-- The start test of a tune, toll or touch, and its row of the arbitration table (R72, R73). -/
def testPlain (p : Perf) (k : SilenceClass) (lacks : Bool) (s : State) : State :=
  if nowSilenced s k then omitPerf p .silence .whole s
  else if lacks then omitPerf p .withdrawn .whole s
  else
    match activePerf s with
    | none => startPlain p s
    | some _ => updatePerf p.id (fun p => { p with tested := true }) s

/-- A WAITING performance is tested for starting (R72). -/
def startTest (p : Perf) (s : State) : State :=
  if s.maintenance then omitPerf p .mode .whole s
  else
    match p.source with
    | .clock event chime strike => testClock p event chime strike s
    | .tune _ snap => testPlain p .tune (tuneLacks s snap) s
    | .toll bell _ _ _ _ => testPlain p .toll (!(s.hammer bell).usable) s
    | .touch => testPlain p .touch false s

/-- One WAITING performance is offered the hammers, when none is ACTIVE and its due start has come
(R76). -/
def offerTo (s : State) (id : Nat) : State :=
  match findPerf s id, activePerf s with
  | some p, none => if p.state == .waiting && decide (p.dueStart ≤ s.now) then startTest p s else s
  | _, _ => s

/-- The strike instant from which a PAUSED performance resumes, when the clock ended COMPLETE or HUSHED
with an entry taken (R75). -/
def resumeFrom (how : How) (p : Perf) : Option Int :=
  if p.isClock && (how == .complete || how == .hushed) then p.lastTaken else none

/-- A PAUSED performance resumes (R75). -/
def resume (clock : Option Int) (q : Perf) (s : State) : State :=
  let r := match clock with
    | some t => t + q.spacing
    | none => s.now + Config.startAllowance
  updatePerf q.id (fun p => Perf.rebase { p with state := .active } r) s

/-- The hammers are offered: a PAUSED performance that was not stopped resumes first; otherwise each
WAITING performance whose due start has come is tested in queue order until one starts (R76). -/
def offerHammers (clock : Option Int) (s : State) : State :=
  match s.arbiter.queue.find? (fun p => p.state == .paused && p.stopped.isNone) with
  | some q => resume clock q s
  | none => (s.arbiter.queue.map (·.id)).foldl offerTo s

/-! ## Ending (R77) -/

def touchHow : How → TouchHow
  | .complete => .rounds
  | .hushed => .hushed
  | .cut => .cut
  | .step => .rounds
  | .mode => .mode

/-- The strike queue without a performance's entries (R93). -/
def removeEntries (id : Nat) (s : State) : State := { s with strikes := s.strikes.filter (·.id != id) }

/-- A performance ends: its un-taken entries are removed when it ends STEP or MODE, TOUCH-ENDED and
PERFORMANCE-ENDED are raised, and it leaves the queue (R77, R93, R116). -/
def endPerf (p : Perf) (how : How) (s : State) : State :=
  let s1 := if how == .step || how == .mode then removeEntries p.id s else s
  dropPerf p.id
    (raise (.performanceEnded p.id p.cls how p.booked p.dropped) (endTouch p (touchHow how) none s1))

/-- A performance that has ended by R77's condition ends; the end of the ACTIVE one offers the hammers
(R76). -/
def checkEnd (s : State) (id : Nat) : State :=
  match findPerf s id with
  | some p =>
    if p.state != .waiting && finished s p then
      let how := p.stopped.getD .complete
      let s1 := endPerf p how s
      if p.state == .active then offerHammers (resumeFrom how p) s1 else s1
    else s
  | none => s

/-! ## Steps (R79) -/

/-- A step moves a tune's, toll's or touch's times; the first landing goes with the due start (R79). -/
def Perf.shift (step : Int) (p : Perf) : Perf :=
  if p.isClock then p
  else
    { p with
      firstLanding := p.firstLanding + step, dueStart := p.dueStart + step, deadline := p.deadline + step,
      origin := p.origin.map (· + step), lastTaken := p.lastTaken.map (· + step) }

/-- A step moves an entry's actuation and strike instants (R93), and with them the wanted strike instant that a drop
would report (DESIGN CHOICE, log entry 26). -/
def Entry.shift (step : Int) (e : Entry) : Entry :=
  { e with actuation := e.actuation + step, strike := e.strike + step, wanted := e.wanted + step }

/-- The step is added to the un-taken entries and to every recovery end, and with them to every B
(R79, R84, R93). -/
def shiftStrikes (step : Int) (s : State) : State :=
  { s with
    strikes := s.strikes.map (Entry.shift step)
    hammers := s.hammers.map (fun h => { h with recoveryEnd := h.recoveryEnd.map (· + step) }) }

/-- The clock events after the marker whose due start is at or before now (R79, step 4). -/
def passedEvents (s : State) : List Nat :=
  (candidates s).filter (fun e => (eventDue s e).any (fun d => decide (d ≤ s.now)))

/-- The passed events are omitted: one notice, the marker moves to the last, and those that had been
built and were waiting are also reported one by one, in queue order (R79, step 4; the order a DESIGN CHOICE, log
entry 14). -/
def skipEvents (waiting : List Perf) (s : State) : State :=
  if s.time.validity != .isSet then s
  else
    let es := passedEvents s
    match es.head?, es.getLast? with
    | some a, some z =>
      let s1 := moveMarker z (raise (.clockEventsSkipped (min 65535 es.length) a z) s)
      (waiting.filter (fun p => p.event.any es.contains)).foldl (fun s p => omitted p .step .whole s) s1
    | _, _ => s

/-- The events whose build time has come and whose due start is still ahead are built at once
(R79, step 5). -/
def buildAhead (s : State) : State :=
  (candidates s).foldl
    (fun s e => if buildable s e && (eventDue s e).any (fun d => decide (s.now < d)) then buildEvent e s else s) s

/-- The arbiter's reaction to a step record (R79). -/
def arbiterAfterStep (step : Int) (s : State) : State :=
  let was := holder s
  let clock := (activePerf s).filter (·.isClock)
  let waiting := s.arbiter.queue.filter (fun p => p.isClock && p.state == .waiting)
  let s1 := match clock with
    | some p => endPerf p .step s
    | none => s
  let s2 := s1.withQueue (s1.arbiter.queue.filter (fun p => !(p.isClock && p.state == .waiting)))
  let s3 := shiftStrikes step (s2.withQueue (s2.arbiter.queue.map (Perf.shift step)))
  let s4 := if 0 < step then skipEvents waiting s3 else s3
  let s5 := endHold was (buildAhead s4)
  if clock.isSome then offerHammers none s5 else s5

/-! ## MAINTENANCE and HUSH (R78, R80) -/

/-- What entry to MAINTENANCE does with one WAITING or PAUSED performance (R80). -/
def clearForMode (s : State) (p : Perf) : State :=
  if p.isClock && p.state == .waiting then omitPerf p .mode .whole s else endPerf p .mode s

/-- The arbiter and the strike scheduler on entering MAINTENANCE (R80, R93): the ACTIVE performance ends
first, then the rest leave in queue order (the order a DESIGN CHOICE, log entry 14); every un-taken entry is removed. -/
def arbiterMaintenance (s : State) : State :=
  let s1 := match activePerf s with
    | some p => endPerf p .mode s
    | none => s
  let s2 : State := { s1 with strikes := [] }
  s2.arbiter.queue.foldl clearForMode s2

/-- HUSH stops a performance at its cursor (R78): also one that has offered every row and has entries left; not a touch
that its cut has stopped already (DESIGN CHOICE, log entry 25). -/
def hushable (clockFlag : Bool) (p : Perf) : Bool :=
  p.state == .active && p.stopped.isNone && (clockFlag || !p.isClock)

/-- HUSH removes a WAITING or PAUSED tune, toll or touch that no earlier HUSH has stopped (R78). -/
def hushRemoves (p : Perf) : Bool := p.state != .active && !p.isClock && p.stopped.isNone

/-- HUSH (R78): the ACTIVE performance is stopped, the waiting and paused ones leave in queue order (the order a DESIGN
CHOICE, log entry 14), and the stopped one ends at once if it has no entries. -/
def hushAnswer (clockFlag : Nat) (s : State) : Answer :=
  match flag? clockFlag with
  | none => refuse s .badValue
  | some f =>
    let stops := (s.arbiter.queue.filter (hushable f)).map (·.id)
    let leaving := s.arbiter.queue.filter hushRemoves
    let s1 := stops.foldl (fun s id => updatePerf id (fun p => { p with stopped := some .hushed }) s) s
    let s2 := leaving.foldl (fun s p => endPerf p .hushed s) s1
    accept (stops.foldl checkEnd s2) (.count (stops.length + leaving.length))

def execHush (h : Header) (clockFlag : Nat) (s : State) : Result :=
  .next (takeRequest h 0x42 (hushAnswer clockFlag) s)

/-! ## Events -/

/-- The first event that may be built now (R68). -/
def nextBuild (s : State) : Option Nat :=
  if s.time.validity != .isSet then none else (candidates s).find? (buildable s)

/-- CLOCK-EVENT-BUILD (R68, R69). -/
def execClockEventBuild (s : State) : Result :=
  .next (whenOperating
    (fun s => match nextBuild s with
      | some e => buildEvent e s
      | none => s) s)

/-- A WAITING performance's due start has come and it has not been tested for it (R72). -/
def Perf.startDue (p : Perf) (now : Int) : Bool := p.state == .waiting && !p.tested && decide (p.dueStart ≤ now)

/-- DUE-START (R72). -/
def execDueStart (id : Nat) (s : State) : Result :=
  .next (whenOperating
    (fun s => match findPerf s id with
      | some p => if p.startDue s.now then startTest p s else s
      | none => s) s)

/-- A WAITING performance has reached its deadline, and the test at its due start has been taken
(R76). -/
def Perf.deadlineDue (p : Perf) (now : Int) : Bool := p.state == .waiting && p.tested && decide (p.deadline ≤ now)

/-- PERFORMANCE-DEADLINE (R76): it is omitted LATE. -/
def execPerformanceDeadline (id : Nat) (s : State) : Result :=
  .next (whenOperating
    (fun s => match findPerf s id with
      | some p => if p.deadlineDue s.now then omitPerf p .late .whole s else s
      | none => s) s)

end Sys2Proof.Machine
end

