-- ==== Sys2Proof/Machine/Strikes.lean ====
section
/-! DEFINITION. The strike scheduler (05_hammers_and_the_strike_queue.md): rows and their slip limits,
emission and booking, dropped strokes, the taking of an entry, the ends of pulses and recoveries,
and test strokes. -/

namespace Sys2Proof.Machine

open Sys2Proof

/-! ## Rows (R52, R69, R86, R88, R115) -/

/-- A stroke as it is offered: a bell (perhaps outside 1..24 after a shift), a strength and the instant
the blow is wanted (R86). -/
structure Stroke where
  bell : Int
  strength : Nat
  wanted : Int
  deriving DecidableEq, Repr, Inhabited

/-- A row as it is offered: its number, the instant it lands, and its strokes in booking order (R87). -/
structure RowOffer where
  number : Nat
  landing : Int
  strokes : List Stroke
  deriving DecidableEq, Repr, Inhabited

/-- The strokes of a score row, all at one instant, columns ascending (R52). -/
def scoreStrokes (m : Score) (row : Nat) (shift wanted : Int) : List Stroke :=
  (numbers 1 24).filterMap (fun c =>
    let v := m.read row c
    if v = 0 then none else some { bell := (c : Int) + shift, strength := v.toNat, wanted := wanted })

/-- Played row `j` of a tune whose first row lands at `first` (R52). -/
def tuneRow (m : Score) (t : TuneSnap) (first : Int) (j : Nat) : RowOffer :=
  let w := first + ((j * t.beat : Nat) : Int)
  { number := j, landing := w, strokes := scoreStrokes m (t.playedRow j) t.shift w }

/-- A row of one stroke: a toll stroke or an hour stroke (R65, R69). -/
def singleStroke (i bell strength : Nat) (wanted : Int) : RowOffer :=
  { number := i, landing := wanted, strokes := [{ bell := bell, strength := strength, wanted := wanted }] }

/-- The touch's next row: stroke `k` lands at S_r + k × beat (R115). -/
def touchRow (t : Touch) (origin : Int) : RowOffer :=
  let r := t.nextRowNumber
  let start := t.rowStart origin r
  let bells := t.towerBells t.form
  { number := r, landing := start,
    strokes := (List.range bells.length).map (fun k =>
      { bell := (bells.getD k 0 : Nat), strength := t.strength, wanted := start + ((k * t.beat : Nat) : Int) }) }

/-- The row at a performance's cursor. -/
def rowAt (s : State) (p : Perf) : RowOffer :=
  match p.source with
  | .clock _ chime strike =>
    match p.inStrike, chime, strike with
    | false, some c, _ => tuneRow s.score c.snap c.first p.cursor
    | _, _, some k => singleStroke p.cursor k.bell k.strength (k.first + ((p.cursor * k.interval : Nat) : Int))
    | _, _, none => { number := 0, landing := 0, strokes := [] }
  | .tune _ snap => tuneRow s.score snap (p.origin.getD 0) p.cursor
  | .toll bell strength interval _ _ =>
    singleStroke p.cursor bell strength (p.origin.getD 0 + ((p.cursor * interval : Nat) : Int))
  | .touch => touchRow s.touch (p.origin.getD 0)

/-- The slip limit of the row at a performance's cursor (R88). -/
def slipLimit (s : State) (p : Perf) : Nat :=
  match p.source with
  | .clock _ chime strike =>
    match p.inStrike, chime, strike with
    | false, some c, _ => c.snap.beat / 2
    | _, _, some k => k.interval / 4
    | _, _, none => 0
  | .tune _ snap => snap.beat / 2
  | .toll _ _ interval _ _ => interval / 4
  | .touch => s.touch.beat / 4

/-- The stroke's bell lies in 1..24. -/
def Stroke.inRange (k : Stroke) : Bool := decide (1 ≤ k.bell ∧ k.bell ≤ 24)

/-- The wanted actuation of a stroke: its strike instant less the hammer's lead (R87). -/
def wantedActuation (s : State) (k : Stroke) : Int := k.wanted - ((s.hammer k.bell.toNat).lead : Int)

/-- The row's earliest wanted actuation, or its landing when no stroke lies in 1..24 (R86). -/
def earliestWanted (s : State) (r : RowOffer) : Int :=
  match (r.strokes.filter (·.inRange)).map (wantedActuation s) with
  | [] => r.landing
  | a :: as => as.foldl min a

/-- The row may be emitted now (R86). -/
def emissible (s : State) (p : Perf) : Bool :=
  let r := rowAt s p
  p.state == .active && p.stopped.isNone && remains s p && !heldBack s p
    && decide (earliestWanted s r ≤ s.now + Config.lookahead)
    && decide ((r.strokes.filter (·.inRange)).length + s.strikes.length ≤ Config.strikePlaces)

/-! ## Booking and dropping (R85, R87, R89) -/

/-- The pulse width P at a strength (R90). -/
def pulseWidth (w strength : Nat) : Nat := (w * (strength + 1) + 2) / 4

/-- The strike queue with an entry inserted after every entry that is not later (R85). -/
def insertEntry (e : Entry) : List Entry → List Entry
  | [] => [e]
  | x :: xs => if e.actuation < x.actuation then e :: x :: xs else x :: insertEntry e xs

/-- Why a hammer that is not usable cannot strike (R87, step 4). -/
def Hammer.dropReason (h : Hammer) : DropReason :=
  if !h.fitted then .notFitted else if h.state == .fault then .fault else .withdrawn

/-- A stroke is dropped: STROKE-DROPPED is raised and the performance counts it (R89). -/
def dropStroke (id : Nat) (cls : PerfClass) (row : Nat) (bell : Int) (strength : Nat) (reason : DropReason)
    (wanted : Int) (slip : Nat) (s : State) : State :=
  raise (.strokeDropped id cls row bell strength reason wanted slip)
    (updatePerf id (fun p => { p with dropped := countUp 65535 p.dropped }) s)

/-- The actuation a stroke gets: never before it is wanted, before B, or before now (R87, step 2). -/
def actuationFor (s : State) (k : Stroke) : Int :=
  let a := max (wantedActuation s k) s.now
  match bookedUntil s k.bell.toNat with
  | some b => max a b
  | none => a

/-- One stroke of an emitted row is booked or dropped (R87). A drop for any reason but LATE reports a slip of 0
(DESIGN CHOICE, log entry 26). -/
def bookStroke (p : Perf) (row limit : Nat) (s : State) (k : Stroke) : State :=
  if !k.inRange then dropStroke p.id p.cls row k.bell k.strength .outOfRange k.wanted 0 s
  else
    let h := s.hammer k.bell.toNat
    let a := actuationFor s k
    let slip := (a - wantedActuation s k).toNat
    if !h.usable then dropStroke p.id p.cls row k.bell k.strength h.dropReason k.wanted 0 s
    else if limit < slip then dropStroke p.id p.cls row k.bell k.strength .late k.wanted slip s
    else
      let e : Entry :=
        { bell := k.bell.toNat, actuation := a, strike := a + (h.lead : Int), pulse := pulseWidth h.width k.strength,
          id := p.id, row := row, cls := p.cls, strength := k.strength, wanted := k.wanted }
      updatePerf p.id (fun p => { p with booked := countUp 65535 p.booked })
        { s with strikes := insertEntry e s.strikes }

/-- The cursor after a row: the next row, or the first stroke of the strike after the last chime row. -/
def Perf.advance (p : Perf) : Perf :=
  match p.source with
  | .clock _ (some c) (some _) =>
    if !p.inStrike && decide (c.snap.length ≤ p.cursor + 1) then { p with cursor := 0, inStrike := true }
    else { p with cursor := p.cursor + 1 }
  | _ => { p with cursor := p.cursor + 1 }

/-- FALSE-ROW is raised when the touch row about to be taken repeats an earlier one (R114). -/
def reportFalse (t : Touch) (s : State) : State :=
  if t.phase == .changes && t.form != rounds t.snap.stage && t.isFalse t.form then
    raise (.falseRow t.id t.nextRowNumber t.form (rank t.form) t.leadNumber t.changeIndex) s
  else s

/-- The touch row is taken (R110 to R114); reaching the maximum of changed rows cuts the touch (R112). -/
def takeTouchRow (p : Perf) (s : State) : State :=
  let t := s.touch
  let t' := t.take
  let s1 := reportFalse t { s with touch := t' }
  if t.phase == .changes && t'.phase == .changes && t'.changedRows == t'.maximum then
    updatePerf p.id (fun p => { p with stopped := some .cut }) s1
  else s1

/-- A row is emitted: a touch row is taken, the strokes are booked one after another, strokes outside
1..24 being dropped first (the order a DESIGN CHOICE, log entry 14), and the cursor moves on (R86, R87). -/
def emitRow (p : Perf) (s : State) : State :=
  let r := rowAt s p
  let limit := slipLimit s p
  let s1 := if p.cls == .touch then takeTouchRow p s else s
  let ordered := r.strokes.filter (fun k => !k.inRange) ++ r.strokes.filter (·.inRange)
  let s2 := ordered.foldl (bookStroke p r.number limit) s1
  checkEnd (updatePerf p.id Perf.advance s2) p.id

/-- An entry is dropped from the queue, with a slip of 0 (R89, R93; log entry 26). -/
def dropEntry (reason : DropReason) (s : State) (e : Entry) : State :=
  dropStroke e.id e.cls e.row e.bell e.strength reason e.wanted 0 s

/-- Every entry for a bell is dropped, in queue order (the order a DESIGN CHOICE, log entry 14); a performance left with
nothing ends (R92, R93, R94). -/
def dropEntriesFor (bell : Nat) (reason : DropReason) (s : State) : State :=
  let gone := s.strikes.filter (·.bell == bell)
  let s1 : State := { s with strikes := s.strikes.filter (·.bell != bell) }
  ((gone.map (·.id)).eraseDups).foldl checkEnd (gone.foldl (dropEntry reason) s1)

/-! ## Actuation (R90 to R92) -/

/-- A hammer's recovery end has come (R90). -/
def Hammer.recovered (h : Hammer) (now : Int) : Bool := h.recoveryEnd.all (fun r => decide (r ≤ now))

/-- A hammer whose recovery end has come goes to rest (R90, R98). -/
def endRecovery (b : Nat) (s : State) : State :=
  let h := s.hammer b
  if h.state == .recovering && h.recovered s.now then s.withHammer b { h with state := restState s } else s

/-- A fault found at a pulse end: the flag is set, HAMMER-FAULT raised with the number of entries dropped,
and each of them reported (R92). -/
def actuatorFault (b : Nat) (s : State) : State :=
  let h := s.hammer b
  let n := (s.strikes.filter (·.bell == b)).length
  dropEntriesFor b .fault
    (raise (.hammerFault b .actuator h.pulseId n)
      (s.withHammer b { h with state := .fault, actuatorFault := true, faultCause := some .actuator }))

/-- The end of a pulse on a hammer that is still engaged: the fault input is sampled, and the hammer goes
to FAULT, RECOVERING or rest (R90, R92). -/
def pulseEnd (b : Nat) (asserted : Bool) (s : State) : State :=
  let h := s.hammer b
  let s1 := s.withHammer b { h with pulseEnds := none, faultInput := asserted }
  if asserted then actuatorFault b s1
  else if h.state == .striking then
    endRecovery b (s1.withHammer b { h with pulseEnds := none, faultInput := asserted, state := .recovering })
  else s1

/-- The hammer's pulse has run its length. -/
def pulseDone (s : State) (b : Nat) : Bool := (s.hammer b).pulseEnds.any (fun e => decide (e ≤ s.elapsed))

/-- A pulse and a recovery that end at this very moment are taken first: a channel at its recovery end is
READY (R90). -/
def ripen (b : Nat) (s : State) : State :=
  let h := s.hammer b
  endRecovery b (if h.state == .striking && pulseDone s b then pulseEnd b h.faultInput s else s)

/-- A hammer begins an actuation (R90, R99). -/
def actuate (b id pulse : Nat) (actuation : Int) (s : State) : State :=
  let h := s.hammer b
  s.withHammer b
    { h with
      state := .striking, pulseEnds := some (s.elapsed + pulse), pulseId := id,
      recoveryEnd := some (actuation + ((h.lead + h.recovery : Nat) : Int)) }

/-- The first entry's actuation instant has come (R90). -/
def entryDue (s : State) : Bool := s.strikes.head?.any (fun e => decide (e.actuation ≤ s.now))

/-- The first entry is taken, unless a fault found at the end of the pulse before it has dropped it with the bell's other
entries (R92): its hammer begins the pulse, or the stroke is dropped when the channel is
not READY; the performance it belonged to may end (R90, R91). An entry so dropped is not the performance's last entry
taken, and one that finds its channel STRIKING is dropped WITHDRAWN (DESIGN CHOICE, log entry 26). -/
def takeEntry (s : State) : State :=
  match s.strikes with
  | [] => s
  | e :: rest =>
    let s1 := ripen e.bell s
    if s1.strikes != s.strikes then s1
    else
      let s2 : State := { s1 with strikes := rest }
      let h := s2.hammer e.bell
      if h.state == .ready then
        checkEnd
          (updatePerf e.id (fun p => { p with lastTaken := some e.strike }) (actuate e.bell e.id e.pulse e.actuation s2))
          e.id
      else checkEnd (dropEntry h.dropReason s2 e) e.id

/-- ROW-EMISSION (R86, R87). -/
def execRowEmission (s : State) : Result :=
  .next (whenOperating
    (fun s => match activePerf s with
      | some p => if emissible s p then emitRow p s else s
      | none => s) s)

/-- STRIKE-ENTRY-TAKEN (R90, R91). -/
def execStrikeEntryTaken (s : State) : Result :=
  .next (whenOperating (fun s => if entryDue s then takeEntry s else s) s)

/-- HAMMER-RECOVERY-END (R90, R98). -/
def execHammerRecoveryEnd (b : Nat) (s : State) : Result := .next (whenOperating (endRecovery b) s)

/-! ## Requests of the hammers and the strike queue (R82, R99, R100) -/

/-- The states in which a change of `fitted` is refused (R82). -/
def Hammer.midWithdrawal (h : Hammer) : Bool :=
  h.state == .withdrawing || h.state == .withdrawn || h.state == .engaging

/-- HAMMER-CONFIG (R82). -/
def hammerConfigAnswer (b lead recovery width fitted : Nat) (s0 : State) : Answer :=
  match flag? fitted with
  | none => refuse s0 .badValue
  | some f =>
    let l := clamp 20 400 lead
    let d := clamp 30 1000 recovery
    let w := clamp 10 120 width
    if !within 1 24 b || decide (l + d < w) then refuse s0 .badValue
    else
      let s := endRecovery b s0
      let h := s.hammer b
      if s.strikes.any (·.bell == b) || h.state == .striking || h.state == .recovering
          || f != h.fitted && h.midWithdrawal then refuse s0 .busy
      else accept (s.withHammer b { h with lead := l, recovery := d, width := w, fitted := f }) (.hammerConfig b l d w f)

/-- HAMMER-READ (R100). -/
def hammerReadAnswer (b : Nat) (s : State) : Answer :=
  if !within 1 24 b then refuse s .badValue
  else
    let h := s.hammer b
    accept s
      (.hammer b h (bookedUntil s b) (h.pulseEnds.map (· - s.elapsed)) (h.watch.map (· - s.elapsed))
        (s.strikes.filter (·.bell == b)).length)

/-- STRIKE-QUEUE-READ (R100). -/
def strikeQueueReadAnswer (start count : Nat) (s : State) : Answer :=
  accept s (.strikes s.strikes.length ((s.strikes.drop (clamp 0 47 start)).take (clamp 1 12 count)))

/-- TEST-STROKE (R99). A bell outside 1..24 is BAD-VALUE in RUN too: the bell is tested before the mode (DESIGN CHOICE, log
entry 15). -/
def testStrokeAnswer (b strength : Nat) (s0 : State) : Answer :=
  if !within 1 24 b then refuse s0 .badValue
  else if !s0.maintenance then refuse s0 .refusedMode
  else
    let s := endRecovery b s0
    let h := s.hammer b
    let free := (bookedUntil s b).all (fun x => decide (x ≤ s.now))
    if h.fitted && h.state == .inhibited && free then
      let p := pulseWidth h.width (clamp 1 3 strength)
      accept (actuate b 0 p s.now s) (.testStroke p s.time.instant)
    else refuse s0 .busy

/-- QUEUE-READ (R66): the performances in queue order, each with its slip limit, and a touch with the number of
its method, which stands in the touch context. -/
def queueReadAnswer (s : State) : Answer :=
  accept s
    (.queue
      (s.arbiter.queue.map (fun p => (p, slipLimit s p, if p.cls == .touch then some s.touch.method else none)))
      s.arbiter.nextId
      (Config.queuePlaces - s.arbiter.queue.length))

def execHammerConfig (h : Header) (b lead recovery width fitted : Nat) (s : State) : Result :=
  .next (takeRequest h 0x50 (hammerConfigAnswer b lead recovery width fitted) s)

def execHammerRead (h : Header) (b : Nat) (s : State) : Result :=
  .next (takeRequest h 0x51 (hammerReadAnswer b) s)

def execStrikeQueueRead (h : Header) (start count : Nat) (s : State) : Result :=
  .next (takeRequest h 0x52 (strikeQueueReadAnswer start count) s)

def execTestStroke (h : Header) (b strength : Nat) (s : State) : Result :=
  .next (takeRequest h 0x53 (testStrokeAnswer b strength) s)

def execQueueRead (h : Header) (s : State) : Result := .next (takeRequest h 0x43 queueReadAnswer s)

end Sys2Proof.Machine
end

