-- ==== Sys2Proof/Machine/Hammers.lean ====
section
/-! DEFINITION. Withdrawal and engagement of the hammers (05_hammers_and_the_strike_queue.md, R94 to
R97): the handshake's requests and answers. A request gives the state and, where it is answered at
once, the answer; the swing controller takes the answers in Swings.lean. -/

namespace Sys2Proof.Machine

open Sys2Proof

/-- The answers of the hammer side to the swing channel of the bell (R94 to R96). -/
inductive HammerAnswer where
  | withdrawn
  | engaged
  | failed
  deriving DecidableEq, Repr, Inhabited

/-- The withdraw output is asserted and the confirm watch starts; a confirm input that is asserted already
gives WITHDRAWN at once (R94). -/
def assertWithdraw (b : Nat) (s : State) : State × Option HammerAnswer :=
  let h := s.hammer b
  if h.confirm then (s.withHammer b { h with state := .withdrawn, withdrawOutput := true, watch := none }, some .withdrawn)
  else
    (s.withHammer b
      { h with state := .withdrawing, withdrawOutput := true, watch := some (s.elapsed + Config.hammerWatch) }, none)

/-- A withdraw request (R94). A channel that leaves FAULT by it has no fault cause until a fault is found again or an
engagement ends in FAULT (DESIGN CHOICE, log entry 27). A pulse still in flight since before an engagement does not keep
the output back outside STRIKING (R83; DESIGN CHOICE, log entry 20). -/
def withdrawRequest (b : Nat) (s : State) : State × Option HammerAnswer :=
  let h := s.hammer b
  if !h.fitted then
    (dropEntriesFor b .withdrawn (s.withHammer b { h with state := .withdrawn, faultCause := none, watch := none }),
      some .withdrawn)
  else
    match h.state with
    | .ready | .recovering | .inhibited | .fault =>
      assertWithdraw b
        (dropEntriesFor b .withdrawn (s.withHammer b { h with state := .withdrawing, faultCause := none }))
    | .striking => (dropEntriesFor b .withdrawn (s.withHammer b { h with state := .withdrawing }), none)
    | .engaging => assertWithdraw b s
    | .withdrawing => if h.watch.isNone && h.withdrawOutput then assertWithdraw b s else (s, none)
    | .withdrawn => (s, some .withdrawn)

/-- An engagement completes: FAULT if the actuator-fault flag is set, otherwise at rest in the mode of this
moment; engaged is answered (R96). In FAULT the cause is ACTUATOR again (DESIGN CHOICE, log entry 27). -/
def completeEngage (b : Nat) (s : State) : State × Option HammerAnswer :=
  let h := s.hammer b
  let st := if h.actuatorFault then .fault else restState s
  let cause := if h.actuatorFault then some .actuator else none
  (s.withHammer b { h with state := st, faultCause := cause, watch := none }, some .engaged)

/-- The withdraw output is released and the clear watch starts; a confirm input that is clear already, or a
channel that is not fitted, completes at once (R96). -/
def beginEngage (b : Nat) (s : State) : State × Option HammerAnswer :=
  let h := s.hammer b
  let s1 := s.withHammer b
    { h with
      state := .engaging, withdrawOutput := false, faultCause := none, watch := some (s.elapsed + Config.hammerWatch) }
  if !h.fitted || !h.confirm then completeEngage b s1 else (s1, none)

/-- An engage request (R96). -/
def engageRequest (b : Nat) (s : State) : State × Option HammerAnswer :=
  let h := s.hammer b
  match h.state with
  | .withdrawing | .withdrawn => beginEngage b s
  | .fault => if h.faultCause = some .engage then beginEngage b s else (s, some .engaged)
  | .engaging => (s, none)
  | .ready | .striking | .recovering | .inhibited => (s, some .engaged)

/-- The confirm input asserts (R95): in WITHDRAWING with the output asserted the channel goes WITHDRAWN,
and answers while its watch runs. -/
def confirmAsserted (b : Nat) (s : State) : State × Option HammerAnswer :=
  let h := s.hammer b
  if h.state == .withdrawing && h.withdrawOutput then
    (s.withHammer b { h with state := .withdrawn, confirm := true, watch := none },
      if h.watch.isSome then some .withdrawn else none)
  else (s.withHammer b { h with confirm := true }, none)

/-- The confirm input clears (R95, R96): an engagement completes, and a fitted WITHDRAWN channel returns to
WITHDRAWING with a fresh watch. -/
def confirmCleared (b : Nat) (s : State) : State × Option HammerAnswer :=
  let h := s.hammer b
  let s1 := s.withHammer b { h with confirm := false }
  if h.state == .engaging then completeEngage b s1
  else if h.state == .withdrawn && h.fitted then assertWithdraw b s1
  else (s1, none)

/-- The confirm watch has run out (R95). -/
def confirmTimeoutDue (s : State) (b : Nat) : Bool :=
  let h := s.hammer b
  within 1 24 b && h.state == .withdrawing && h.watch.any (fun w => decide (w ≤ s.elapsed))

/-- The clear watch has run out (R96). -/
def clearTimeoutDue (s : State) (b : Nat) : Bool :=
  let h := s.hammer b
  within 1 24 b && h.state == .engaging && h.watch.any (fun w => decide (w ≤ s.elapsed))

/-- 2 s without the confirm: failed is answered, the output stays asserted (R95). -/
def confirmTimeout (b : Nat) (s : State) : State × Option HammerAnswer :=
  (s.withHammer b { s.hammer b with watch := none }, some .failed)

/-- The confirm stays asserted 2 s after release: FAULT with cause ENGAGE, HAMMER-FAULT, failed (R96). -/
def clearTimeout (b : Nat) (s : State) : State × Option HammerAnswer :=
  let h := s.hammer b
  (raise (.hammerFault b .engage 0 0)
    (s.withHammer b { h with state := .fault, faultCause := some .engage, watch := none }), some .failed)

/-- The end of a pulse on a hammer that has been asked to withdraw meanwhile: a fault sets the flag and is
reported, and the channel stays as it is (R94). -/
def sampleWithdrawing (b : Nat) (asserted : Bool) (s : State) : State :=
  let h := s.hammer b
  let s1 := s.withHammer b { h with pulseEnds := none, faultInput := asserted, actuatorFault := h.actuatorFault || asserted }
  if asserted then raise (.hammerFault b .actuator h.pulseId 0) s1 else s1

/-- The end of a pulse (R90, R92, R94): on a channel that waits for it in WITHDRAWING the withdraw output is
then asserted and the watch starts. -/
def hammerPulseEnded (b : Nat) (asserted : Bool) (s : State) : State × Option HammerAnswer :=
  let h := s.hammer b
  if h.state == .withdrawing && !h.withdrawOutput then assertWithdraw b (sampleWithdrawing b asserted s)
  else if h.midWithdrawal then (sampleWithdrawing b asserted s, none)
  else (pulseEnd b asserted s, none)

end Sys2Proof.Machine
end

