-- ==== Sys2Proof/Machine/Swings.lean ====
section
/-! DEFINITION. The commitment (08_tower_supply_allowance.md, R140) and the state machine of a swing
channel (07_swing_bells.md): entry to each of its states, the answers of its hammer, and the sensor
pulses. A fall of the commitment, or the end of the last pending raise, marks a release as due; the
release itself stands in Allowance.lean. -/

namespace Sys2Proof.Machine

open Sys2Proof

/-! ## Commitment (R140, R145) -/

/-- The draw of a circuit at a level: ceil(max × level / 255) (R140). -/
def drawAt (maxDraw level : Nat) : Nat := ceilDiv (maxDraw * level) 255

/-- A circuit's share: the draw at the greater of output and target, 0 while forced (R140). -/
def Circuit.share (c : Circuit) : Nat := if c.forced then 0 else drawAt c.maxDraw (max c.output c.target)

/-- A swing channel's share (R140). -/
def Swing.share (x : Swing) : Nat :=
  match x.state with
  | .clearing | .raising => x.cfg.raiseLoad
  | .swinging | .lowering => x.cfg.holdLoad
  | .down | .queued | .settling | .restoring | .fault => 0

/-- The commitment C (R140). -/
def commitment (s : State) : Nat :=
  (s.lights.circuits.toList.map Circuit.share).sum + (s.swings.toList.map Swing.share).sum

/-- A raise is pending: the raise queue is not empty or a channel is CLEARING or RAISING (R145). -/
def raisePending (s : State) : Bool :=
  !s.allowance.queue.isEmpty || s.swings.toList.any (fun x => x.state == .clearing || x.state == .raising)

/-- A release is started (R147). -/
def startRelease (s : State) : State := { s with allowance := { s.allowance with releaseDue := true } }

/-- A change that may free load: a release is started by a fall of C, and when a raise stops being pending
(R140, R147). -/
def watchLoad (f : State → State) (s : State) : State :=
  let s' := f s
  if commitment s' < commitment s || raisePending s && !raisePending s' then startRelease s' else s'

/-! ## The raise queue (R141) -/

/-- A new first channel becomes head: its wait watch starts, no yield has been ordered for it, and it is to
be tried (R141). As the last head leaves, the yield-ordered flag and the yield set, which ALLOWANCE-READ shows also of an
empty queue (R148), are cleared too (DESIGN CHOICE, log entries 7 and 10). -/
def newHead (q : List Nat) (s : State) : State :=
  { s with
    allowance :=
      { s.allowance with
        queue := q, headSince := s.elapsed, yieldOrdered := false, yieldSet := [], headDue := !q.isEmpty } }

/-- A channel joins at the tail (R141). -/
def joinRaise (c : Nat) (s : State) : State :=
  let q := s.allowance.queue
  if q.isEmpty then newHead [c] s else { s with allowance := { s.allowance with queue := q ++ [c] } }

/-- A channel leaves the queue; those behind it close up (R141). -/
def leaveRaise (c : Nat) (s : State) : State :=
  let q := s.allowance.queue.filter (· != c)
  if s.allowance.queue.head? = some c then newHead q s else { s with allowance := { s.allowance with queue := q } }

/-! ## States (R121 to R131) -/

/-- The motor stops with any drive pulse cut, and every watch of the state being left stops (R121). -/
def Swing.still (x : Swing) : Swing :=
  { x with drive := none, raiseEnds := none, durationEnds := none, settleEnds := none, passEnds := none }

/-- One drive pulse is given and counted (R121, R122). -/
def givePulse (c : Nat) (d : Direction) (s : State) : State :=
  let x := s.swing c
  s.withSwing c
    { x with
      drive := some { direction := d, ends := s.elapsed + x.cfg.drive }, passEnds := none,
      driveCount := countUp 65535 x.driveCount }

/-- SWING-STATE (R126, R129). -/
def reportSwing (c : Nat) (s : State) : State :=
  let x := s.swing c
  raise (.swingState c x.cfg.bell x.state x.driveCount x.wayDown) s

/-- Entry to RAISING with its start pulse (R125). -/
def enterRaising (c : Nat) (s : State) : State :=
  let x := s.swing c
  givePulse c .forward
    (s.withSwing c
      { x.still with
        state := .raising, arcSeen := false, arcRun := 0, driveCount := 0, lastPass := none,
        raiseEnds := some (s.elapsed + x.cfg.raiseLimit * 1000) })

/-- Entry to SWINGING (R126). -/
def enterSwinging (c : Nat) : State → State :=
  watchLoad (fun s =>
    let x := s.swing c
    reportSwing c
      (s.withSwing c
        { x.still with
          state := .swinging, passEnds := some (s.elapsed + Config.passWatch),
          durationEnds := if x.duration = 0 then none else some (s.elapsed + x.duration * 60000) }))

/-- Entry to SETTLING, with a withdraw request where R131 asks for one (R128). The request's immediate
answer changes nothing in SETTLING. -/
def enterSettling (c : Nat) (withdraw : Bool) : State → State :=
  watchLoad (fun s =>
    let x := s.swing c
    let s1 := s.withSwing c { x.still with state := .settling, settleEnds := some (s.elapsed + x.cfg.settle * 1000) }
    if withdraw then (withdrawRequest x.cfg.bell s1).1 else s1)

/-- Entry to LOWERING (R127): its pass watch runs from the last pass since entry to RAISING. -/
def enterLowering (c : Nat) (cause : WayDown) : State → State :=
  watchLoad (fun s =>
    let x := s.swing c
    s.withSwing c
      { x.still with
        state := .lowering, wayDown := cause, passEnds := some (x.lastPass.getD s.elapsed + Config.passWatch) })

/-- Entry to FAULT (R130). -/
def enterFault (c : Nat) (cause : SwingCause) : State → State :=
  watchLoad (fun s =>
    let x := s.swing c
    raise (.swingFault c x.cfg.bell cause x.state) (s.withSwing c { x.still with state := .fault, cause := cause }))

/-- Entry to DOWN after an engagement: SWING-STATE with the recorded cause, which is then NONE (R129). -/
def enterDown (c : Nat) (s : State) : State :=
  let s1 := reportSwing c (s.withSwing c { (s.swing c).still with state := .down, duration := 0 })
  s1.withSwing c { s1.swing c with wayDown := .none }

/-- Return from QUEUED to DOWN (R123, R129). -/
def returnDown (c : Nat) (cause : WayDown) : State → State :=
  watchLoad (fun s =>
    let x := s.swing c
    reportSwing c (leaveRaise c (s.withSwing c { x.still with state := .down, duration := 0, wayDown := cause })))

/-- The swing channel tied to a bell (R119). -/
def tiedChannel (s : State) (b : Nat) : Option Nat := (numbers 1 12).find? (fun c => (s.swing c).cfg.bell == b)

/-- A hammer's answer reaches the swing channel of its bell (R124, R128, R129, R130). -/
def deliver (b : Nat) (a : HammerAnswer) (s : State) : State :=
  match tiedChannel s b with
  | none => s
  | some c =>
    match a, (s.swing c).state with
    | .withdrawn, .clearing => enterRaising c s
    | .failed, .clearing => enterFault c .withdrawFailed s
    | .failed, .raising | .failed, .swinging | .failed, .lowering | .failed, .settling => enterFault c .confirmLost s
    | .failed, .restoring => enterFault c .engageFailed s
    | .engaged, .restoring => enterDown c s
    | _, _ => s

/-- A hammer operation with its answer, if any, delivered. -/
def answering (b : Nat) (f : State → State × Option HammerAnswer) (s : State) : State :=
  let r := f s
  match r.2 with
  | some a => deliver b a r.1
  | none => r.1

/-- Entry to CLEARING: the withdraw request goes to the hammer of the tied bell (R124). -/
def enterClearing (c : Nat) (s : State) : State :=
  let x := s.swing c
  answering x.cfg.bell (withdrawRequest x.cfg.bell) (s.withSwing c { x.still with state := .clearing })

/-- Entry to RESTORING: the engage request goes to the hammer of the tied bell (R129). -/
def enterRestoring (c : Nat) (cause : WayDown) (s : State) : State :=
  let x := s.swing c
  answering x.cfg.bell (engageRequest x.cfg.bell)
    (watchLoad (fun s => s.withSwing c { x.still with state := .restoring, wayDown := cause }) s)

/-! ## Sensor pulses (R121, R125 to R129, R131) -/

/-- The half-swing that has just ended is judged in RAISING (R125). -/
def raisingPass (c : Nat) (d : Direction) (arc : Bool) (s : State) : State :=
  let x := s.swing c
  let run := if arc then x.arcRun + 1 else 0
  let s1 := s.withSwing c { x with arcRun := run, lastPass := some s.elapsed, passEnds := none }
  if run ≥ 3 then enterSwinging c s1 else givePulse c d s1

/-- A pass in SWINGING (R126). -/
def swingingPass (c : Nat) (d : Direction) (arc : Bool) (s : State) : State :=
  let s1 := if arc then s else givePulse c d s
  s1.withSwing c { s1.swing c with lastPass := some s.elapsed, passEnds := some (s.elapsed + Config.passWatch) }

/-- A pass in LOWERING (R127). -/
def loweringPass (c : Nat) (d : Direction) (arc : Bool) (s : State) : State :=
  if arc then
    let s1 := givePulse c d.opposite s
    s1.withSwing c { s1.swing c with lastPass := some s.elapsed, passEnds := some (s.elapsed + Config.passWatch) }
  else enterSettling c false s

/-- A pass in DOWN or QUEUED: the bell has been set moving (R131). -/
def movedPass (c : Nat) : State → State :=
  watchLoad (fun s =>
    let s1 := s.withSwing c { s.swing c with wayDown := .moved, start := none }
    enterSettling c true (if (s1.swing c).state == .queued then leaveRaise c s1 else s1))

/-- A pass sensor pulse on a fitted channel (R121): the half-swing's arc flag is read and cleared, a drive
pulse in progress is cut, and the state's rule acts. CLEARING and FAULT do not read the sensor. -/
def passPulse (c : Nat) (d : Direction) (s : State) : State :=
  let x := s.swing c
  let s1 := s.withSwing c { x with arcSeen := false, drive := none }
  match x.state with
  | .down | .queued => movedPass c s1
  | .raising => raisingPass c d x.arcSeen s1
  | .swinging => swingingPass c d x.arcSeen s1
  | .lowering => loweringPass c d x.arcSeen s1
  | .settling => s1.withSwing c { s1.swing c with settleEnds := some (s.elapsed + x.cfg.settle * 1000) }
  | .restoring => enterSettling c true s1
  | .clearing | .fault => s

/-- An arc sensor pulse on a fitted channel (R121). -/
def arcPulse (c : Nat) (s : State) : State :=
  let x := s.swing c
  match x.state with
  | .raising | .swinging | .lowering => s.withSwing c { x with arcSeen := true }
  | .down | .queued | .clearing | .settling | .restoring | .fault => s

end Sys2Proof.Machine
end

