-- ==== Sys2Proof/Machine/Allowance.lean ====
section
/-! DEFINITION. The supply allowance at work (08_tower_supply_allowance.md): the clamp, the setting and
fading of a circuit (09_floodlights.md, R152, R153), yield and restoration, the trial of the raise
queue's head, the release, and the allowance requests. -/

namespace Sys2Proof.Machine

open Sys2Proof

/-! ## The clamp and the setting of a circuit (R146, R152, R153) -/

/-- F: the free load with a circuit's own share left out (R146). -/
def freeFor (s : State) (c : Nat) : Nat := s.allowance.units - (commitment s - (s.circuit c).share)

/-- The level granted to a circuit that should have level `d` when `f` units are free (R146). -/
def grantLevel (maxDraw d f : Nat) : Nat :=
  if maxDraw = 0 then d else min d (min 255 (f * 255 / maxDraw))

/-- A fade from the present output to the target over `seconds`; with no time or nothing to change the
output is at the target at once (R153). -/
def Circuit.fadeTo (x : Circuit) (target seconds elapsed : Nat) : Circuit :=
  if seconds = 0 ∨ x.output = target then { x with target := target, output := target, fade := none }
  else { x with target := target, fade := some { start := x.output, done := 0, total := 10 * seconds, began := elapsed } }

/-- Whether a grant leaves a circuit held: a yielded circuit is never marked held (R145, R146). -/
def heldAt (x : Circuit) (d g : Nat) : Option Nat := if g < d ∧ x.preYield = none then some d else none

/-- The allowance grants a circuit a target for level `d`, and the circuit fades to it; LOAD-HELD is raised
when the grant falls short and the circuit was not held before (R146). -/
def grant (c d seconds : Nat) (s : State) : State :=
  let x := s.circuit c
  let f := freeFor s c
  let g := grantLevel x.maxDraw d f
  let h := heldAt x d g
  let s1 := s.withCircuit c { x.fadeTo g seconds s.elapsed with desired := h }
  if h.isSome && x.desired.isNone then raise (.loadHeld c d g f) s1 else s1

/-- A circuit is set to level `d` with a fade of `seconds` (R152). -/
def setCircuit (c d seconds : Nat) : State → State :=
  watchLoad (fun s =>
    let x := s.circuit c
    let d' := if x.preYield.isSome then min d x.floor else d
    let s1 := s.withCircuit c { x with preYield := x.preYield.map (fun _ => d) }
    if x.forced then s1.withCircuit c { s1.circuit c with target := d', desired := none } else grant c d' seconds s1)

/-- One fade step (R153): the output moves to s + trunc((t − s) × j / n), and the fade is removed at its
last step. -/
def Circuit.fadeStep (x : Circuit) (f : Fade) : Circuit :=
  let j := f.done + 1
  if j ≥ f.total then { x with output := x.target, fade := none }
  else
    let moved : Int := (f.start : Int) + Int.tdiv (((x.target : Int) - f.start) * j) f.total
    { x with output := moved.toNat, fade := some { f with done := j } }

/-! ## Yield and restoration (R144, R145) -/

/-- A circuit gives way when yield is ordered (R144). -/
def Circuit.givesWay (x : Circuit) : Bool :=
  x.yields && x.preYield.isNone && x.share != 0 && decide (x.floor < x.target)

/-- A circuit that gives way records its level and fades to its floor (R144). -/
def yieldCircuit (s : State) (c : Nat) : State :=
  let x := s.circuit c
  if x.givesWay then
    watchLoad
      (fun s => s.withCircuit c
        { x.fadeTo x.floor Config.yieldFade s.elapsed with desired := none, preYield := some (x.desired.getD x.target) })
      { s with allowance := { s.allowance with yieldSet := s.allowance.yieldSet ++ [c] } }
  else s

/-- Yield is ordered for the head (R144). -/
def orderYield (s : State) : State :=
  (numbers 1 16).foldl yieldCircuit { s with allowance := { s.allowance with yieldOrdered := true } }

/-- A yielded circuit is restored at its pre-yield level through the clamp (R145). -/
def restoreCircuit (s : State) (c : Nat) : State :=
  let x := s.circuit c
  match x.preYield with
  | some d => setCircuit c d Config.yieldFade (s.withCircuit c { x with preYield := none })
  | none => s

/-- A held circuit that is not forced is granted afresh: a higher grant is faded to, and a grant in full
ends the hold (R147, step 3). -/
def retryCircuit (s : State) (c : Nat) : State :=
  let x := s.circuit c
  match x.desired with
  | some d =>
    let g := grantLevel x.maxDraw d (freeFor s c)
    if !x.forced && decide (x.target < g) then
      s.withCircuit c { x.fadeTo g Config.yieldFade s.elapsed with desired := if g = d then none else some d }
    else s
  | none => s

/-! ## The head and the release (R142, R147) -/

/-- A channel is admitted: its raise load is committed, it leaves the queue and enters CLEARING (R142). -/
def admitHead (c : Nat) (s : State) : State := leaveRaise c (enterClearing c s)

/-- The head is tried, and each new head after it, until one does not fit or the queue is empty; yield is
ordered for a head that does not fit, once (R142). -/
def tryHeads : Nat → State → State
  | 0, s => s
  | fuel + 1, s =>
    match s.allowance.queue.head? with
    | none => s
    | some c =>
      if (s.swing c).cfg.raiseLoad + commitment s ≤ s.allowance.units then tryHeads fuel (admitHead c s)
      else if s.allowance.yieldOrdered then s
      else orderYield s

/-- The head is tried; the queue holds at most twelve channels (R141, R142). -/
def tryHead (s : State) : State :=
  let s1 := tryHeads 13 s
  { s1 with allowance := { s1.allowance with headDue := false } }

/-- One release is worked through (R147). -/
def release (s : State) : State :=
  let s1 := tryHead { s with allowance := { s.allowance with releaseDue := false } }
  let s2 := if raisePending s1 then s1 else (numbers 1 16).foldl restoreCircuit s1
  (numbers 1 16).foldl retryCircuit s2

/-- A new head that has still to be tried is tried, and each release that has been started is worked
through, one after another (R141, R147). -/
def workOff : Nat → State → State
  | 0, s => s
  | fuel + 1, s =>
    if s.allowance.headDue then workOff fuel (tryHead s)
    else if s.allowance.releaseDue then workOff fuel (release s)
    else s

/-- What a command leaves due in the allowance is settled. Each further round needs a yield newly ordered
for a new head, of which there are at most twelve; nothing is left over for a later command. -/
def settleLoad (s : State) : State :=
  let t := workOff 32 s
  { t with allowance := { t.allowance with headDue := false, releaseDue := false } }

/-- An answer whose state has the allowance settled. -/
def Answer.settled (a : Answer) : Answer := { a with state := settleLoad a.state }

/-! ## Requests (R139, R148) -/

/-- ALLOWANCE-SET (R139). On a rise the reply gives the commitment as it stands after the release (DESIGN CHOICE, log
entry 14). -/
def allowanceSetAnswer (units : Nat) (s : State) : Answer :=
  let a := clamp 0 1000 units
  if a < commitment s then { state := s, status := .overAllowance, body := .commitment (commitment s) }
  else
    let s1 : State := { s with allowance := { s.allowance with units := a } }
    let s2 := settleLoad (if s.allowance.units < a then startRelease s1 else s1)
    accept s2 (.allowance a (commitment s2))

/-- ALLOWANCE-READ (R148). The head's wait is 0 while the raise queue is empty (DESIGN CHOICE, log entry 10). -/
def allowanceReadAnswer (s : State) : Answer :=
  let cs := numbers 1 16
  accept s
    (.allowanceRead s.allowance.units (commitment s) (s.allowance.units - commitment s)
      (s.lights.circuits.toList.map Circuit.share) (s.swings.toList.map Swing.share) s.allowance.queue
      (if s.allowance.queue.isEmpty then 0 else s.elapsed - s.allowance.headSince)
      s.allowance.yieldOrdered s.allowance.yieldSet
      (cs.filterMap (fun c => (s.circuit c).preYield.map (fun d => (c, d))))
      (cs.filterMap (fun c => (s.circuit c).desired.map (fun d => (c, d, (s.circuit c).target)))))

def execAllowanceSet (h : Header) (units : Nat) (s : State) : Result :=
  .next (takeRequest h 0x68 (allowanceSetAnswer units) s)

def execAllowanceRead (h : Header) (s : State) : Result := .next (takeRequest h 0x69 allowanceReadAnswer s)

end Sys2Proof.Machine
end

