-- ==== Sys2Proof/Machine/Lights.lean ====
section
/-! DEFINITION. The floodlights (09_floodlights.md): scenes, lighting modes, dusk and dawn, the schedule and
its restoration, the fade steps, and the floodlight requests. -/

namespace Sys2Proof.Machine

open Sys2Proof

/-! ## Applying a scene (R152, R157) -/

/-- The level a scene holds for a circuit (R154). -/
def Scene.levelOf (x : Scene) (c : Nat) : Nat := (nth x.levels c).toNat

/-- The circuits a scene sets, in ascending number (R157). -/
def Scene.circuitsSet (x : Scene) : List Nat := (numbers 1 16).filter (fun c => !x.keep.getLsbD (c - 1))

/-- A scene is read as it stands and applied; the releases it starts are left due (R157). -/
def applyScene (scene fade : Nat) (s : State) : State :=
  let x := slot s.lights.scenes scene
  (Scene.circuitsSet x).foldl (fun s c => setCircuit c (Scene.levelOf x c) fade s) s

/-- What SCENE-APPLY's reply gives of the circuits it set (R157). -/
def grantedList (cs : List Nat) (s : State) : List Granted :=
  cs.map (fun c => { circuit := c, target := (s.circuit c).target, held := (s.circuit c).desired.isSome })

/-! ## Dusk, dawn and the schedule (R161, R163, R164) -/

/-- The value of a dusk or dawn column for day-of-year `d` (R161). -/
def columnValue (column : Nat → Nat) (d : Nat) : Nat :=
  let k := (d - 1) / 7
  let f := (d - 1) % 7
  if k ≥ 52 then column 52
  else ((column k : Int) + (2 * ((column (k + 1) : Int) - column k) * f + 7) / 14).toNat

/-- A minute moved by an offset and clamped to the day (R161). -/
def offsetMinute (minute : Nat) (offset : Int) : Nat := (clampInt 0 1439 ((minute : Int) + offset)).toNat

/-- The trigger minute of an entry on the date of now (R161). -/
def triggerMinute (s : State) (t : Trigger) : Nat :=
  let d := dayOfYear (dayOf s.time.instant)
  match t with
  | .fixed m => m
  | .dusk o => offsetMinute (columnValue (fun k => (slot s.lights.dusk k).1) d) o
  | .dawn o => offsetMinute (columnValue (fun k => (slot s.lights.dusk k).2) d) o

/-- An entry is enabled and its mask holds today's class (R163, R164). -/
def SchedEntry.actsToday (e : SchedEntry) (s : State) : Bool := e.enable && e.classes.getLsbD s.calendar.today

/-- The scene and fade of each entry that acts at minute `m`, in ascending entry number (R163). -/
def entriesAt (s : State) (m : Nat) : List SchedEntry :=
  s.lights.schedule.toList.filter (fun e => e.actsToday s && triggerMinute s e.trigger == m)

/-- The schedule evaluated for minute `m`: each entry is applied, and its releases worked through, before the
next (R157, R163). -/
def evaluateAt (m : Nat) (s : State) : State :=
  (entriesAt s m).foldl (fun s e => settleLoad (applyScene e.scene e.fade s)) s

/-- A list of minute and scene, in ascending minute, an equal minute keeping its order (R164). -/
def insertByMinute (x : Nat × Nat) : List (Nat × Nat) → List (Nat × Nat)
  | [] => [x]
  | y :: ys => if x.1 < y.1 then x :: y :: ys else y :: insertByMinute x ys

/-- The scenes restoration applies, in its order: trigger minute, then entry number (R164). -/
def restorationScenes (s : State) : List Nat :=
  let due := (s.lights.schedule.toList.filter (SchedEntry.actsToday · s)).map (fun e => (triggerMinute s e.trigger, e.scene))
  let past := due.filter (fun x => decide (x.1 ≤ minuteOfDay s.time.instant))
  (past.foldl (fun xs x => insertByMinute x xs) []).map (·.2)

/-- Restoration: the scenes with fade 0, and then the releases (R164). -/
def restoration (s : State) : State :=
  settleLoad ((restorationScenes s).foldl (fun s n => applyScene n 0 s) s)

/-- Restoration takes place with validity SET only (R164). -/
def restoreLights (s : State) : State := if s.time.validity == .isSet then restoration s else s

/-! ## Lighting modes (R158, R159) -/

/-- A circuit lies in the partial range, which wraps when its last circuit lies below its first (R158). -/
def inRange (first last c : Nat) : Bool :=
  if first ≤ last then within first last c else decide (first ≤ c ∨ c ≤ last)

/-- The mode forces a circuit dark (R158). -/
def forcesDark (mode : LightMode) (first last c : Nat) : Bool :=
  match mode with
  | .lit => false
  | .partialRange => !inRange first last c
  | .dark => true

/-- A circuit newly forced: its fade stops and its output is 0 (R159, step 1). -/
def forceCircuit (s : State) (c : Nat) : State :=
  watchLoad (fun s => s.withCircuit c { s.circuit c with forced := true, fade := none, output := 0 }) s

/-- A circuit no longer forced is granted afresh, at its desired level or else its target, and fades up over
5 s (R159, step 2). -/
def unforceCircuit (s : State) (c : Nat) : State :=
  let x := s.circuit c
  grant c (x.desired.getD x.target) Config.yieldFade (s.withCircuit c { x with forced := false })

/-- A lighting mode and range take effect (R159). -/
def setLightMode (mode : LightMode) (first last : Nat) (s : State) : State :=
  let s0 : State := { s with lights := { s.lights with mode := mode, first := first, last := last } }
  let newly := (numbers 1 16).filter (fun c => !(s.circuit c).forced && forcesDark mode first last c)
  let freed := (numbers 1 16).filter (fun c => (s.circuit c).forced && !forcesDark mode first last c)
  settleLoad (freed.foldl unforceCircuit (newly.foldl forceCircuit s0))

/-! ## Requests -/

/-- CIRCUIT-CONFIG (R150). -/
def circuitConfigAnswer (c maxDraw yieldFlag floor : Nat) (s : State) : Answer :=
  match flag? yieldFlag with
  | none => refuse s .badValue
  | some y =>
    if !within 1 16 c then refuse s .badValue
    else
      let x := s.circuit c
      let x' := { x with maxDraw := clamp 0 200 maxDraw, yields := y, floor := clamp 0 255 floor }
      if s.allowance.units < commitment s - x.share + x'.share then
        { state := s, status := .overAllowance, body := .overdrawn (commitment s) s.allowance.units }
      else
        accept (settleLoad (watchLoad (State.withCircuit · c x') s)) (.circuit c x'.maxDraw y x'.floor)

/-- The progress of a SCENE-WRITE: the palette, the next index, and the counts (R155). -/
structure Palette where
  scenes : Vector Scene 64
  index : Nat
  stored : Nat
  skipped : Nat

/-- One record of a SCENE-WRITE; index 0 is skipped (R155). -/
def Palette.put (p : Palette) (x : Scene) : Palette :=
  let next := (p.index + 1) % 64
  if p.index = 0 then { p with index := next, skipped := p.skipped + 1 }
  else { scenes := setSlot p.scenes p.index x, index := next, stored := p.stored + 1, skipped := p.skipped }

/-- SCENE-WRITE (R155). -/
def sceneWriteAnswer (start count : Nat) (scenes : List Scene) (s : State) : Answer :=
  if !within 0 63 start || !within 1 8 count then refuse s .badValue
  else if scenes.length ≠ count then refuse s .badLength
  else
    let p := scenes.foldl Palette.put { scenes := s.lights.scenes, index := start, stored := 0, skipped := 0 }
    accept { s with lights := { s.lights with scenes := p.scenes } } (.scenesWritten p.stored p.skipped p.index)

/-- SCENE-READ (R156). -/
def sceneReadAnswer (start count : Nat) (s : State) : Answer :=
  if !within 0 63 start then refuse s .badValue
  else
    accept s (.scenes start ((List.range (clamp 1 8 count)).map (fun k => slot s.lights.scenes ((start + k) % 64))))

/-- SCENE-APPLY (R157). -/
def sceneApplyAnswer (scene fade : Nat) (s : State) : Answer :=
  if !within 0 63 scene then refuse s .badValue
  else
    let s1 := settleLoad (applyScene scene (clamp 0 600 fade) s)
    accept s1 (.granted (grantedList (Scene.circuitsSet (slot s.lights.scenes scene)) s1))

/-- The mode in force, with its range for PARTIAL, is the one asked for (R159). -/
def sameLightMode (s : State) (mode : LightMode) (first last : Nat) : Bool :=
  s.lights.mode == mode && (mode != .partialRange || s.lights.first == first && s.lights.last == last)

/-- LIGHT-MODE (R159). -/
def lightModeAnswer (mode first last : Nat) (s : State) : Answer :=
  match lightMode? mode with
  | none => refuse s .badValue
  | some m =>
    if m == .partialRange && !(within 1 16 first && within 1 16 last) then refuse s .badValue
    else
      let a := if m = .partialRange then first else s.lights.first
      let z := if m = .partialRange then last else s.lights.last
      if sameLightMode s m first last then accept s (.lightMode m a z)
      else accept (setLightMode m a z s) (.lightMode m a z)

/-- DUSK-WRITE (R160). -/
def duskWriteAnswer (start : Nat) (entries : List (Nat × Nat)) (s : State) : Answer :=
  if within 0 52 start && within 1 16 entries.length && decide (start + entries.length ≤ 53) then
    let t := (entries.zipIdx start).foldl
      (fun t e => setSlot t e.2 (clamp 0 1439 e.1.1, clamp 0 1439 e.1.2)) s.lights.dusk
    accept { s with lights := { s.lights with dusk := t } } (.count entries.length)
  else refuse s .badValue

/-- DUSK-READ (R160). -/
def duskReadAnswer (start count : Nat) (s : State) : Answer :=
  if !within 0 52 start then refuse s .badValue
  else accept s (.dusks ((s.lights.dusk.toList.drop start).take (clamp 1 16 count)))

/-- A schedule entry's trigger from its kind and value, clamped (R162). -/
def trigger? (kind : Nat) (value : Int) : Option Trigger :=
  if kind = 0 then some (.fixed (clampInt 0 1439 value).toNat)
  else if kind = 1 then some (.dusk (clampInt (-240) 240 value))
  else if kind = 2 then some (.dawn (clampInt (-240) 240 value))
  else none

/-- SCHEDULE-WRITE (R162). -/
def scheduleWriteAnswer (entry enable classes trigger : Nat) (value : Int) (scene fade : Nat) (s : State) : Answer :=
  match flag? enable, classMask? classes, trigger? trigger value with
  | some on, some m, some t =>
    if within 0 47 entry && within 0 63 scene then
      let e : SchedEntry := { enable := on, classes := m, trigger := t, scene := scene, fade := clamp 0 600 fade }
      accept { s with lights := { s.lights with schedule := setSlot s.lights.schedule entry e } } (.schedEntry entry e)
    else refuse s .badValue
  | _, _, _ => refuse s .badValue

/-- SCHEDULE-READ (R162). -/
def scheduleReadAnswer (start count : Nat) (s : State) : Answer :=
  if !within 0 47 start then refuse s .badValue
  else
    accept s
      (.schedule start (((s.lights.schedule.toList.drop start).take (clamp 1 16 count)).map
        (fun e => (e, triggerMinute s e.trigger))))

/-- LIGHT-READ (R165). -/
def lightReadAnswer (s : State) : Answer :=
  accept s
    (.lights s.lights.mode s.lights.first s.lights.last (s.lights.circuits.toList.map (fun x => (x, x.share))))

def execCircuitConfig (h : Header) (c maxDraw yieldFlag floor : Nat) (s : State) : Result :=
  .next (takeRequest h 0x70 (circuitConfigAnswer c maxDraw yieldFlag floor) s)

def execSceneWrite (h : Header) (start count : Nat) (scenes : List Scene) (s : State) : Result :=
  .next (takeRequest h 0x71 (sceneWriteAnswer start count scenes) s)

def execSceneRead (h : Header) (start count : Nat) (s : State) : Result :=
  .next (takeRequest h 0x72 (sceneReadAnswer start count) s)

def execSceneApply (h : Header) (scene fade : Nat) (s : State) : Result :=
  .next (takeRequest h 0x73 (sceneApplyAnswer scene fade) s)

def execLightMode (h : Header) (mode first last : Nat) (s : State) : Result :=
  .next (takeRequest h 0x74 (lightModeAnswer mode first last) s)

def execDuskWrite (h : Header) (start : Nat) (entries : List (Nat × Nat)) (s : State) : Result :=
  .next (takeRequest h 0x75 (duskWriteAnswer start entries) s)

def execDuskRead (h : Header) (start count : Nat) (s : State) : Result :=
  .next (takeRequest h 0x76 (duskReadAnswer start count) s)

def execScheduleWrite (h : Header) (entry enable classes trigger : Nat) (value : Int) (scene fade : Nat) (s : State) :
    Result :=
  .next (takeRequest h 0x77 (scheduleWriteAnswer entry enable classes trigger value scene fade) s)

def execScheduleRead (h : Header) (start count : Nat) (s : State) : Result :=
  .next (takeRequest h 0x78 (scheduleReadAnswer start count) s)

def execLightRead (h : Header) (s : State) : Result := .next (takeRequest h 0x79 lightReadAnswer s)

/-! ## Events -/

/-- The next step of a circuit's fade has come (R153). -/
def fadeStepDue (s : State) (c : Nat) : Bool :=
  within 1 16 c && (s.circuit c).fade.any (fun f => decide (f.began + (f.done + 1) * 100 ≤ s.elapsed))

/-- One step of a circuit's fade; a fall of the commitment starts a release (R147, R153). -/
def stepFade (c : Nat) (s : State) : State :=
  match (s.circuit c).fade with
  | some f => settleLoad (watchLoad (fun s => s.withCircuit c ((s.circuit c).fadeStep f)) s)
  | none => s

/-- FADE-STEP (R153). -/
def execFadeStep (c : Nat) (s : State) : Result :=
  .next (whenOperating (fun s => if fadeStepDue s c then stepFade c s else s) s)

/-- The count has passed a minute boundary that has still to be dealt with, with validity SET (R163). -/
def scheduleDue (s : State) : Bool :=
  s.time.validity == .isSet && decide (s.time.minuteMark < s.time.instant / Config.minuteMs)

/-- The boundaries up to now are dealt with. -/
def markMinute (s : State) : State :=
  { s with time := { s.time with minuteMark := s.time.instant / Config.minuteMs } }

/-- The schedule is evaluated for the minute of now, with today's class renewed first (R16, R163). -/
def evaluateSchedule (s : State) : State :=
  evaluateAt (minuteOfDay s.time.instant) (markMinute (renewToday s))

/-- SCHEDULE-EVALUATION (R163). -/
def execScheduleEvaluation (s : State) : Result :=
  .next (whenOperating (fun s => if scheduleDue s then evaluateSchedule s else s) s)

end Sys2Proof.Machine
end

