-- ==== Sys2Proof/Machine/SwingRequests.lean ====
section
/-! DEFINITION. The requests and the events of the swing bells (07_swing_bells.md), the refusal of a raise
(08_tower_supply_allowance.md, R143), the answers of the hammers' handshake events (R95, R96), and
FAULT-CLEAR of a hammer and of a swing channel. -/

namespace Sys2Proof.Machine

open Sys2Proof

/-! ## Starting (R123, R132, R135) -/

/-- The stagger of a start pending has ended: silenced, it is dropped and reported; otherwise the channel
enters QUEUED and joins the raise queue (R123). The record's part is the whole, and the byte of it a free value (R189; DESIGN
CHOICE, log entry 5). -/
def staggerEnded (c : Nat) (s : State) : State :=
  let x := s.swing c
  match x.start with
  | none => s
  | some p =>
    if swingSilenced s then
      raise (.performanceOmitted 0 .swing .silence .whole none c p.program) (s.withSwing c { x with start := none })
    else joinRaise c (s.withSwing c { x with state := .queued, start := none, duration := p.duration })

/-- The status of one entry of an accepted start (R132). -/
def startStatus (s : State) (c : Nat) : Status :=
  let x := s.swing c
  if !x.cfg.fitted then .notFound else if x.state == .down && x.start.isNone then .ok else .busy

/-- A start pending is set on the channel of one entry, at its place in the list (R132). -/
def setStart (duration program request : Nat) (s : State) (e : (Nat × Nat) × Nat) : State :=
  let x := s.swing e.1.1
  let p : StartPending :=
    { ends := s.elapsed + clamp 0 120000 e.1.2, duration := duration, program := program, request := request,
      place := e.2 }
  s.withSwing e.1.1 { x with start := some p }

/-- The end of a stagger: its channel joins the raise queue and, where that makes it head, is tried at once (R123,
R141). -/
def endStagger (c : Nat) (s : State) : State := settleLoad (staggerEnded c s)

/-- A start pending with stagger 0 ends at acceptance (R132). -/
def startsNow (s : State) (e : (Nat × Nat) × Nat) : Bool := (s.swing e.1.1).start.any (fun p => decide (p.ends ≤ s.elapsed))

/-- An accepted start of a list of channels and staggers (R132, R135): the state, in which the staggers of 0 have ended
one after another, in the order of the list, and the status of each entry. -/
def startSwings (entries : List (Nat × Nat)) (duration program : Nat) (s : State) : State × List (Nat × Status) :=
  let statuses := entries.map (fun e => (e.1, startStatus s e.1))
  let taken := entries.zipIdx.filter (fun e => startStatus s e.1.1 == .ok)
  let s1 := taken.foldl (setStart (clamp 0 120 duration) program s.startRequests)
    { s with startRequests := s.startRequests + 1 }
  ((taken.filter (startsNow s1)).foldl (fun s e => endStagger e.1.1 s) s1, statuses)

/-- A list of starts fits: at most twelve entries, each channel 1..12, none twice (R132, R134). -/
def startsFit (entries : List (Nat × Nat)) : Bool :=
  decide (entries.length ≤ 12) && entries.all (fun e => within 1 12 e.1) && distinct (entries.map (·.1))

/-- SWING-START (R132). -/
def swingStartAnswer (h : Header) (entries : List (Nat × Nat)) (duration : Nat) (s : State) : Answer :=
  if keyedOut h s then refuse s .refusedLocal
  else if s.maintenance then refuse s .refusedMode
  else if entries.isEmpty || !startsFit entries then refuse s .badValue
  else if swingSilenced s then refuse s .refusedSilence
  else
    let x := startSwings entries duration 0 s
    accept x.1 (.statuses x.2)

/-- SWING-PROGRAM-START (R135). -/
def programStartAnswer (h : Header) (k : Nat) (s : State) : Answer :=
  if keyedOut h s then refuse s .refusedLocal
  else if s.maintenance then refuse s .refusedMode
  else if !within 1 4 k then refuse s .badValue
  else
    let p := nth s.programs k
    if p.entries.isEmpty then refuse s .notFound
    else if swingSilenced s then refuse s .refusedSilence
    else
      let x := startSwings p.entries p.duration k s
      accept x.1 (.statuses x.2)

/-- PERFORMANCE-OMITTED for a program whose timer start is not made (R135). The record's part is the whole, and the byte of
it a free value (R189; DESIGN CHOICE, log entry 5). -/
def omitProgram (reason : OmitReason) (k : Nat) (s : State) : State :=
  raise (.performanceOmitted 0 .swing reason .whole none 0 k) s

/-- A timer's start of program `k`, with its outcome (R19, R135). -/
def timerStartProgram (k : Nat) (s : State) : State × TimerOutcome :=
  let p := nth s.programs k
  if s.maintenance then (omitProgram .mode k s, .status .refusedMode [])
  else if p.entries.isEmpty then (s, .status .notFound [])
  else if swingSilenced s then (omitProgram .silence k s, .status .refusedSilence [])
  else
    let x := startSwings p.entries p.duration k s
    (x.1, .status .ok x.2)

/-! ## Stopping (R133, R136) -/

/-- An optional watch has run out. -/
def ranOut (s : State) (w : Option Nat) : Bool := w.any (fun e => decide (e ≤ s.elapsed))

/-- A channel is in a state and a watch of it has run out. -/
def watchDue (st : SwingState) (w : Swing → Option Nat) (s : State) (c : Nat) : Bool :=
  within 1 12 c && (s.swing c).state == st && ranOut s (w (s.swing c))

/-- A channel in LOWERING whose pass watch has run out goes to SETTLING, and what that frees is worked through (R127). -/
def settleLowered (s : State) (c : Nat) : State :=
  if watchDue .lowering Swing.passEnds s c then settleLoad (enterSettling c false s) else s

/-- A channel goes LOWERING, and where its pass watch has run out already, at once to SETTLING (R126, R127). The allowance
sees each of the two falls as it comes (R122, R140): the first is worked through before the channel moves on. -/
def lowerSwing (c : Nat) (cause : WayDown) (s : State) : State := settleLowered (settleLoad (enterLowering c cause s)) c

/-- One channel is stopped, with the cause its way down records (R133, R136). -/
def stopSwing (cause : WayDown) (s : State) (c : Nat) : State :=
  let x := s.swing c
  match x.state with
  | .down => s.withSwing c { x with start := none }
  | .queued => returnDown c cause s
  | .clearing => enterRestoring c cause s
  | .raising | .swinging => enterLowering c cause s
  | .lowering | .settling | .restoring | .fault => s

/-- The channel is on its way up, so a stop takes it to LOWERING (R133, R136). -/
def stopLowers (s : State) (c : Nat) : Bool := (s.swing c).state == .raising || (s.swing c).state == .swinging

/-- The channels are stopped in the order given, that of SWING-STOP's list or the channels' own (R133, R136; the order a
DESIGN CHOICE, log entry 14), and what this frees in the allowance is then worked through, as the one act of all of them
(DESIGN CHOICE, log entry 16). Those that have gone LOWERING with their pass watch run out then go on to SETTLING, one by
one, each with a release of its own (R122, R126). -/
def stopSwings (cause : WayDown) (channels : List Nat) (s : State) : State :=
  (channels.filter (stopLowers s)).foldl settleLowered (settleLoad (channels.foldl (stopSwing cause) s))

/-- SWING-STOP (R133); ALL names the twelve channels in ascending number. -/
def swingStopAnswer (channels : Option (List Nat)) (s : State) : Answer :=
  let cs := channels.getD (numbers 1 12)
  if cs.isEmpty || decide (12 < cs.length) || !cs.all (within 1 12) || !distinct cs then refuse s .badValue
  else
    let s1 := stopSwings .stop cs s
    accept s1 (.swingStates (cs.map (fun c => (c, (s1.swing c).state))))

/-! ## Configuration, programs and reading (R120, R134, R138) -/

/-- SWING-CONFIG (R120). The record is replaced at once, and whatever reads it before the next start, such as the settle
time and the fitted flag at a pass pulse in DOWN, reads the new record (R119, R131; DESIGN CHOICE, log entry 28). -/
def swingConfigAnswer (c bell drive raiseLoad holdLoad raiseLimit settle fitted : Nat) (s : State) : Answer :=
  match flag? fitted with
  | none => refuse s .badValue
  | some f =>
    let cfg : SwingConfig :=
      { bell := bell, drive := clamp 100 1500 drive, raiseLoad := clamp 1 100 raiseLoad, holdLoad := clamp 1 100 holdLoad,
        raiseLimit := clamp 10 180 raiseLimit, settle := clamp 5 60 settle, fitted := f }
    let tied := (numbers 1 12).any (fun k => k != c && (s.swing k).cfg.bell == bell)
    if !within 1 12 c || !within 1 24 bell || tied || decide (cfg.raiseLoad < cfg.holdLoad) then refuse s .badValue
    else
      let x := s.swing c
      if x.state != .down || x.start.isSome then refuse s .busy
      else accept (s.withSwing c { x with cfg := cfg }) (.swingConfig c cfg)

/-- SWING-PROGRAM-WRITE (R134). -/
def programWriteAnswer (k : Nat) (entries : List (Nat × Nat)) (duration : Nat) (s : State) : Answer :=
  if !within 1 4 k || !startsFit entries then refuse s .badValue
  else
    let p : Program :=
      { entries := entries.map (fun e => (e.1, clamp 0 120000 e.2)), duration := clamp 0 120 duration }
    accept { s with programs := setNth s.programs k p } (.program p)

/-- SWING-PROGRAM-READ (R134). -/
def programReadAnswer (k : Nat) (s : State) : Answer :=
  if !within 1 4 k then refuse s .badValue else accept s (.program (nth s.programs k))

/-- What SWING-READ returns of a channel (R138). The head's place in the raise queue is 0 (DESIGN CHOICE, log entry 10). -/
def swingView (s : State) (c : Nat) : SwingView :=
  let x := s.swing c
  let left (e : Nat) : Nat := e - s.elapsed
  { channel := c
    swing := x
    commitment := x.share
    startLeft := x.start.map (fun p => left p.ends)
    durationLeft := x.durationEnds.map left
    raiseElapsed := x.raiseEnds.map (fun e => x.cfg.raiseLimit * 1000 - left e)
    settleLeft := x.settleEnds.map left
    hammer := (s.hammer x.cfg.bell).state
    place := if x.state == .queued then s.allowance.queue.idxOf? c else none }

/-- SWING-READ (R138). -/
def swingReadAnswer (first count : Nat) (s : State) : Answer :=
  if !within 1 12 first then refuse s .badValue
  else accept s (.swings ((numbers first (min 12 (first + clamp 1 6 count - 1))).map (swingView s)))

/-! ## FAULT-CLEAR (R97, R130) -/

/-- FAULT-CLEAR naming a swing channel (R130, R186). -/
def faultClearSwingAnswer (c : Nat) (s : State) : Answer :=
  if !within 1 12 c then refuse s .badValue
  else
    let x := s.swing c
    if x.state == .fault then
      accept (settleLoad (enterSettling c true (s.withSwing c { x with cause := .none, wayDown := .faultClear })))
        (.wasSet true)
    else accept s (.wasSet false)

/-- The swing channel tied to a bell holds its hammer: it is neither DOWN nor QUEUED (R97). -/
def heldBySwing (s : State) (b : Nat) : Bool :=
  match tiedChannel s b with
  | some c => !((s.swing c).state == .down || (s.swing c).state == .queued)
  | none => false

/-- FAULT-CLEAR naming a hammer (R97, R186): a hammer whose confirm input is asserted is engaged, one whose
confirm is clear goes to rest at once. -/
def faultClearHammerAnswer (b : Nat) (s : State) : Answer :=
  if !within 1 24 b then refuse s .badValue
  else
    let h := s.hammer b
    let s1 := s.withHammer b { h with actuatorFault := false }
    match h.state with
    | .fault => if heldBySwing s b then refuse s .busy else accept (beginEngage b s1).1 (.wasSet true)
    | .withdrawing | .withdrawn | .engaging => accept s1 (.wasSet h.actuatorFault)
    | .ready | .striking | .recovering | .inhibited => accept s (.wasSet false)

/-! ## Meanings of the requests -/

def execSwingConfig (h : Header) (c bell drive raiseLoad holdLoad raiseLimit settle fitted : Nat) (s : State) : Result :=
  .next (takeRequest h 0x60 (swingConfigAnswer c bell drive raiseLoad holdLoad raiseLimit settle fitted) s)

def execSwingStart (h : Header) (entries : List (Nat × Nat)) (duration : Nat) (s : State) : Result :=
  .next (takeRequest h 0x61 (swingStartAnswer h entries duration) s)

def execSwingStop (h : Header) (channels : Option (List Nat)) (s : State) : Result :=
  .next (takeRequest h 0x62 (swingStopAnswer channels) s)

def execSwingProgramWrite (h : Header) (k : Nat) (entries : List (Nat × Nat)) (duration : Nat) (s : State) : Result :=
  .next (takeRequest h 0x63 (programWriteAnswer k entries duration) s)

def execSwingProgramRead (h : Header) (k : Nat) (s : State) : Result :=
  .next (takeRequest h 0x64 (programReadAnswer k) s)

def execSwingProgramStart (h : Header) (k : Nat) (s : State) : Result :=
  .next (takeRequest h 0x65 (programStartAnswer h k) s)

def execSwingRead (h : Header) (first count : Nat) (s : State) : Result :=
  .next (takeRequest h 0x66 (swingReadAnswer first count) s)

def execFaultClearHammer (h : Header) (b : Nat) (s : State) : Result :=
  .next (takeRequest h 0x08 (faultClearHammerAnswer b) s)

def execFaultClearSwing (h : Header) (c : Nat) (s : State) : Result :=
  .next (takeRequest h 0x08 (faultClearSwingAnswer c) s)

/-! ## Events of the hammers' handshake (R92, R95, R96) -/

/-- A hammer's event, with the answer it gives the swing channel, and the allowance settled. -/
def hammerEvent (b : Nat) (f : State → State × Option HammerAnswer) (s : State) : State := settleLoad (answering b f s)

/-- HAMMER-PULSE-END (R90, R92, R94). -/
def execHammerPulseEnd (b : Nat) (faultInput : Bool) (s : State) : Result :=
  .next (whenOperating (fun s => if pulseDone s b then hammerEvent b (hammerPulseEnded b faultInput) s else s) s)

/-- HAMMER-CONFIRM-ASSERTED (R95). Out of operation only the input's level is kept. -/
def execHammerConfirmAsserted (b : Nat) (s : State) : Result :=
  .next (if s.power.operating then hammerEvent b (confirmAsserted b) s
    else s.withHammer b { s.hammer b with confirm := true })

/-- HAMMER-CONFIRM-CLEARED (R95, R96). Out of operation only the input's level is kept. -/
def execHammerConfirmCleared (b : Nat) (s : State) : Result :=
  .next (if s.power.operating then hammerEvent b (confirmCleared b) s
    else s.withHammer b { s.hammer b with confirm := false })

/-- WITHDRAW-CONFIRM-TIMEOUT (R95). -/
def execWithdrawConfirmTimeout (b : Nat) (s : State) : Result :=
  .next (whenOperating (fun s => if confirmTimeoutDue s b then hammerEvent b (confirmTimeout b) s else s) s)

/-- ENGAGE-CLEAR-TIMEOUT (R96). -/
def execEngageClearTimeout (b : Nat) (s : State) : Result :=
  .next (whenOperating (fun s => if clearTimeoutDue s b then hammerEvent b (clearTimeout b) s else s) s)

/-! ## Events of the swing channels -/

/-- A start of the same request, earlier in its list, ends at the same instant and is still pending: it
goes first (R132). -/
def startsBehind (s : State) (p : StartPending) : Bool :=
  s.swings.toList.any (fun x =>
    x.start.any (fun q => q.request == p.request && q.ends == p.ends && decide (q.place < p.place)))

/-- A start pending's stagger has ended, and no start of its own request goes first (R123, R132). -/
def staggerDue (s : State) (c : Nat) : Bool :=
  within 1 12 c && (s.swing c).state == .down
    && (s.swing c).start.any (fun p => decide (p.ends ≤ s.elapsed) && !startsBehind s p)

/-- STAGGER-END (R123). -/
def execStaggerEnd (c : Nat) (s : State) : Result :=
  .next (whenOperating (fun s => if staggerDue s c then endStagger c s else s) s)

/-- The head has waited 120 s (R143). -/
def refusalDue (s : State) : Bool :=
  !s.allowance.queue.isEmpty && decide (s.allowance.headSince + Config.headWait ≤ s.elapsed)

/-- The head is refused: it returns to DOWN, and RAISE-REFUSED reports what was free and what had yielded
(R143). -/
def refuseHead (s : State) : State :=
  match s.allowance.queue.head? with
  | none => s
  | some c =>
    let cfg := (s.swing c).cfg
    settleLoad
      (raise (.raiseRefused c cfg.bell cfg.raiseLoad (s.allowance.units - commitment s) s.allowance.yieldSet)
        (returnDown c .refused s))

/-- RAISE-REFUSED (R143). -/
def execRaiseRefused (s : State) : Result :=
  .next (whenOperating (fun s => if refusalDue s then refuseHead s else s) s)

/-- A channel reads its sensors: it is one of the twelve and fitted (R119, R121). -/
def readsSensors (s : State) (c : Nat) : Bool := within 1 12 c && (s.swing c).cfg.fitted

/-- PASS-PULSE (R121). -/
def execPassPulse (c : Nat) (d : Direction) (s : State) : Result :=
  .next (whenOperating (fun s => if readsSensors s c then settleLoad (passPulse c d s) else s) s)

/-- ARC-PULSE (R121). -/
def execArcPulse (c : Nat) (s : State) : Result :=
  .next (whenOperating (fun s => if readsSensors s c then arcPulse c s else s) s)

/-- A drive pulse has run its length (R121). -/
def driveDone (s : State) (c : Nat) : Bool := within 1 12 c && ranOut s ((s.swing c).drive.map (·.ends))

/-- The motor output goes inactive; in RAISING the 4 s watch for a pass starts (R121, R125). -/
def endDrive (c : Nat) (s : State) : State :=
  let x := s.swing c
  match x.drive with
  | none => s
  | some d =>
    s.withSwing c
      { x with drive := none, passEnds := if x.state == .raising then some (d.ends + Config.passWatch) else x.passEnds }

/-- DRIVE-PULSE-END (R121). -/
def execDrivePulseEnd (c : Nat) (s : State) : Result :=
  .next (whenOperating (fun s => if driveDone s c then endDrive c s else s) s)

/-- RAISE-NO-PASS (R125): a further pulse FORWARD. -/
def execRaiseNoPass (c : Nat) (s : State) : Result :=
  .next (whenOperating
    (fun s => if watchDue .raising Swing.passEnds s c && (s.swing c).drive.isNone then givePulse c .forward s else s) s)

/-- RAISE-LIMIT-END (R125). -/
def execRaiseLimitEnd (c : Nat) (s : State) : Result :=
  .next (whenOperating
    (fun s => if watchDue .raising Swing.raiseEnds s c then lowerSwing c .raiseTimeout s else s) s)

/-- SWING-PASS-WATCH-END (R126). -/
def execSwingPassWatchEnd (c : Nat) (s : State) : Result :=
  .next (whenOperating
    (fun s => if watchDue .swinging Swing.passEnds s c then settleLoad (enterFault c .noPass s) else s) s)

/-- DURATION-END (R126). -/
def execDurationEnd (c : Nat) (s : State) : Result :=
  .next (whenOperating
    (fun s => if watchDue .swinging Swing.durationEnds s c then lowerSwing c .duration s else s) s)

/-- LOWERING-PASS-WATCH-END (R127). -/
def execLoweringPassWatchEnd (c : Nat) (s : State) : Result :=
  .next (whenOperating (fun s => settleLowered s c) s)

/-- SETTLE-WATCH-END (R128, R129). -/
def execSettleWatchEnd (c : Nat) (s : State) : Result :=
  .next (whenOperating
    (fun s => if watchDue .settling Swing.settleEnds s c then settleLoad (enterRestoring c (s.swing c).wayDown s) else s)
    s)

end Sys2Proof.Machine
end

