-- ==== Sys2Proof/Machine/Times.lean ====
section
/-! DEFINITION. Tower time at work (01_tower_time.md): the counting of a millisecond, steps and their record,
the end of the range, the reference, the calendar's requests and the service timers. -/

namespace Sys2Proof.Machine

open Sys2Proof

/-! ## Counting (R1, R9) -/

/-- One millisecond of the timebase that the tower instant counts, or not when it has stopped (R1, R3). A
new second has still to have its adjustment (R9). In operation a new date has its class before anything acts
in it (R16). -/
def countMs (s : State) : State :=
  let t := s.time
  if t.stopped then { s with elapsed := s.elapsed + 1 }
  else
    whenOperating renewIfDue
      { s with
        elapsed := s.elapsed + 1
        time :=
          { t with
            instant := t.instant + 1,
            secondServed := if (t.instant + 1) % 1000 = 0 then false else t.secondServed } }

/-! ## Steps (R12) -/

/-- A step is published once the instant, validity, slew remaining and marker hold their new values (R12):
today's class is renewed, TIME-STEPPED is raised, and the dials (R38), the arbiter (R79) and the
floodlights (R164) react. -/
def publishStep (cause : StepCause) (step : Int) (old : Nat) (before : Validity) (s0 : State) : State :=
  let s := markMinute (renewToday s0)
  restoreLights
    (settleLoad
      (arbiterAfterStep step
        (dialsAfterStep before
          (raise (.timeStepped step cause old s.time.instant before s.time.validity) s))))

/-- The last quarter instant at or before an instant, as a quarter number (R22). -/
def quarterAt (instant : Nat) : Nat := instant / Config.quarterMs

/-- What the end of the range does to tower time itself (R3). -/
def stopAtEnd (s : State) : State :=
  { s with
    time := { s.time with instant := Config.lastInstant, stopped := true, validity := .unset, slew := 0, marker := none } }

/-- The end of the range with its step record (R3). -/
def reachEnd (s : State) : State := publishStep .rangeEnd 0 s.time.instant s.time.validity (stopAtEnd s)

/-- The instant takes a new value by a step of a cause; beyond the range the step is the end of the range
(R3, R10). -/
def stepTo (cause : StepCause) (new : Nat) (s : State) : State :=
  if Config.lastInstant < new then reachEnd s
  else
    publishStep cause ((new : Int) - s.time.instant) s.time.instant s.time.validity
      { s with time := { s.time with instant := new } }

/-! ## Setting and reading the time (R4 to R6) -/

/-- The new time an accepted TIME-SET leaves (R4, steps 2 to 4; DEDUCED, log entry 11). -/
def setTime (new : Nat) (s : State) : State :=
  { s with
    time :=
      { s.time with
        instant := new, stopped := false, slew := 0, validity := .isSet,
        marker := some (s.time.marker.getD (quarterAt new)) } }

/-- TIME-SET (R4). -/
def timeSetAnswer (year month day ms : Nat) (s : State) : Answer :=
  let y := clamp 2000 2099 year
  let m := clamp 1 12 month
  if !dayExists y m day then refuse s .badValue
  else
    let old := s.time.instant
    let new := dayNumber y m day * Config.dayMs + clamp 0 86399999 ms
    if s.time.validity == .isSet && new == old then accept s (.timeSet 0 old new)
    else
      let step : Int := (new : Int) - old
      accept (publishStep .timeSet step old s.time.validity (setTime new s)) (.timeSet step old new)

/-- ZONE-SET (R5). -/
def zoneSetAnswer (minutes : Int) (s : State) : Answer :=
  if s.time.validity == .unset then refuse s .timeUnset
  else
    let z := clampInt (-120) 120 minutes
    let old := s.time.instant
    let offset := s.time.zone + z
    let moved : Int := (old : Int) + z * 60000
    if z = 0 then accept s (.zone 0 s.time.zone old old)
    else if offset < -720 ∨ 720 < offset ∨ moved < 0 ∨ (Config.lastInstant : Int) < moved then refuse s .badValue
    else
      accept
        (publishStep .zoneSet (z * 60000) old s.time.validity
          { s with time := { s.time with zone := offset, instant := moved.toNat } })
        (.zone z offset old moved.toNat)

/-- TIME-READ (R6). -/
def timeReadAnswer (s : State) : Answer :=
  let t := s.time
  let d := dayOf t.instant
  let date := dateOf d
  accept s
    (.time t.instant date.year date.month date.day (weekdayOf d) (msOfDay t.instant) (dayOfYear d) t.validity t.zone
      t.refEnabled t.refState t.slew t.lastError s.calendar.today s.calendar.source t.marker)

def execTimeSet (h : Header) (year month day ms : Nat) (s : State) : Result :=
  .next (takeRequest h 0x10 (timeSetAnswer year month day ms) s)

def execZoneSet (h : Header) (minutes : Int) (s : State) : Result :=
  .next (takeRequest h 0x11 (zoneSetAnswer minutes) s)

def execTimeRead (h : Header) (s : State) : Result := .next (takeRequest h 0x12 timeReadAnswer s)

/-! ## The reference (R7 to R11) -/

/-- REFERENCE-SET (R7). "Enable or disable" travels as a flag byte, 1 to enable and 0 to disable (DESIGN CHOICE, log
entry 4). -/
def referenceSetAnswer (enable : Nat) (s : State) : Answer :=
  match flag? enable with
  | none => refuse s .badValue
  | some on =>
    let state := if on = s.time.refEnabled then s.time.refState else if on then .seeking else .off
    accept { s with time := { s.time with refEnabled := on, refState := state } } (.reference state)

def execReferenceSet (h : Header) (enable : Nat) (s : State) : Result :=
  .next (takeRequest h 0x13 (referenceSetAnswer enable) s)

/-- The reference error at a ms-of-minute (R8). -/
def referenceError (m : Nat) : Int := if m < 30000 then (m : Int) else (m : Int) - 60000

/-- A measured error is stored, and slewed or stepped (R8 to R10). -/
def correct (e : Int) (s : State) : State :=
  if -Config.slewLimit ≤ e ∧ e ≤ Config.slewLimit then
    { s with time := { s.time with lastError := some e, slew := -e, secondServed := true } }
  else
    stepTo .reference ((s.time.instant : Int) - e).toNat { s with time := { s.time with lastError := some e, slew := 0 } }

/-- A pulse with the reference LOCKED (R8). -/
def lockedPulse (s : State) : State :=
  let s1 : State := { s with time := { s.time with lastPulse := s.elapsed } }
  if s.time.validity == .isSet then correct (referenceError (msOfMinute s.time.instant)) s1 else s1

/-- A pulse on the reference input (R8). -/
def referencePulse (s : State) : State :=
  match s.time.refState with
  | .off => s
  | .seeking =>
    lockedPulse (raise (.referenceState .seeking .locked false) { s with time := { s.time with refState := .locked } })
  | .locked => lockedPulse s

/-- REFERENCE-PULSE (R8). -/
def execReferencePulse (s : State) : Result := .next (whenOperating referencePulse s)

/-- The gap watch has run past 150 s (R11). -/
def referenceGapDue (s : State) : Bool :=
  s.time.refState == .locked && decide (s.time.lastPulse + Config.referenceGap < s.elapsed)

/-- Lock is lost (R11). -/
def loseReference (s : State) : State :=
  raise (.referenceState .locked .seeking true) { s with time := { s.time with refState := .seeking } }

/-- REFERENCE-GAP (R11). -/
def execReferenceGap (s : State) : Result :=
  .next (whenOperating (fun s => if referenceGapDue s then loseReference s else s) s)

/-! ## The adjusted second and the end of the range (R3, R9) -/

/-- The last millisecond of an adjusted second is at hand (R9). -/
def slewDue (s : State) : Bool :=
  let t := s.time
  !t.stopped && !t.secondServed
    && (decide (t.slew < 0) && t.instant % 1000 == 999 || decide (0 < t.slew) && t.instant % 1000 == 998)

/-- The millisecond of an adjustment (R9): ms 999 is held for one more, or ms 999 is skipped, perhaps into a
new date (R16); skipping the last value of the range is its end (R3). -/
def adjustSecond (s : State) : State :=
  let t := s.time
  let s1 : State := { s with elapsed := s.elapsed + 1 }
  if t.slew < 0 then { s1 with time := { t with slew := t.slew + 1, secondServed := true } }
  else if Config.lastInstant < t.instant + 2 then reachEnd s1
  else renewIfDue { s1 with time := { t with instant := t.instant + 2, slew := t.slew - 1, secondServed := false } }

/-- SLEW-SECOND-ADJUST (R9): it takes the place of that millisecond's count. -/
def execSlewSecondAdjust (s : State) : Result :=
  .next (whenOperating (fun s => if slewDue s then adjustSecond s else s) s)

/-- The count stands at the last instant and has not stopped (R3). -/
def rangeEndDue (s : State) : Bool := !s.time.stopped && s.time.instant == Config.lastInstant

/-- RANGE-END (R3): it takes the place of the millisecond's count. Out of operation the count stops in the
same way, with no block to publish to (R2; DEDUCED, log entry 12). -/
def execRangeEnd (s : State) : Result :=
  .next
    (if rangeEndDue s then
      let s1 : State := { s with elapsed := s.elapsed + 1 }
      if s.power.operating then reachEnd s1 else stopAtEnd s1
    else s)

/-- DAY-CLASS-RENEWAL (R16). A millisecond that passes midnight renews the class itself, so that nothing acts
in the new day before it. -/
def execDayClassRenewal (s : State) : Result := .next (whenOperating renewIfDue s)

/-! ## The calendar's requests (R13 to R17) -/

/-- CLASS-WRITE (R13). -/
def classWriteAnswer (record : Nat) (chimeSet : Option Nat) (strikeHours chimeQuarters : Nat) (s : State) : Answer :=
  match flag? strikeHours, flag? chimeQuarters with
  | some a, some b =>
    if within 0 7 record && chimeSet.all (within 0 7) then
      let r : DayClass := { chimeSet := chimeSet, strikeHours := a, chimeQuarters := b }
      accept { s with calendar := { s.calendar with classes := setSlot s.calendar.classes record r } } .none
    else refuse s .badValue
  | _, _ => refuse s .badValue

/-- WEEKDAY-WRITE (R14). -/
def weekdayWriteAnswer (classes : List Nat) (s : State) : Answer :=
  if h : classes.length = 7 then
    if classes.all (within 0 7) then
      let w : Vector Nat 7 := ⟨classes.toArray, by simp [h]⟩
      accept (renewToday { s with calendar := { s.calendar with weekdays := w } }) .none
    else refuse s .badValue
  else refuse s .badLength

/-- The key of an entry: month, day and year, ANY before any year (R15). -/
def CalEntry.key (e : CalEntry) : Nat × Nat × Nat := (e.month, e.day, e.year.getD 0)

/-- The order of keys (R15). -/
def keyBefore (a b : Nat × Nat × Nat) : Bool :=
  decide (a.1 < b.1) || a.1 == b.1 && (decide (a.2.1 < b.2.1) || a.2.1 == b.2.1 && decide (a.2.2 < b.2.2))

/-- A table with an entry written: in place of one with its key, else at its place in key order (R15). -/
def putEntry (e : CalEntry) : List CalEntry → List CalEntry
  | [] => [e]
  | x :: xs => if e.key = x.key then e :: xs else if keyBefore e.key x.key then e :: x :: xs else x :: putEntry e xs

/-- The day a key names can exist (R15); 29 February can with ANY. -/
def keyFits (month day : Nat) (year : Option Nat) : Bool :=
  within 1 12 month && year.all (within 2000 2099) && dayExists (year.getD 2000) month day

/-- An accepted calendar operation: the table is replaced and today's class renewed (R15, R16). -/
def acceptEntries (es : List CalEntry) (s : State) : Answer :=
  accept (renewToday { s with calendar := { s.calendar with entries := es } }) (.count es.length)

/-- An operation refused: its reply carries the status and the number of entries now in the table (R15;
DEDUCED of every refusal, log entry 15). -/
def refuseEntries (s : State) (st : Status) : Answer :=
  { state := s, status := st, body := .count s.calendar.entries.length }

/-- CALENDAR-WRITE with the operation WRITE (R15). -/
def calendarWriteAnswer (month day : Nat) (year : Option Nat) (cls : Nat) (s : State) : Answer :=
  let e : CalEntry := { month := month, day := day, year := year, cls := cls }
  let es := s.calendar.entries
  if !keyFits month day year || !within 0 7 cls then refuseEntries s .badValue
  else if es.any (fun x => x.key == e.key) || decide (es.length < Config.calendarPlaces) then acceptEntries (putEntry e es) s
  else refuseEntries s .full

/-- CALENDAR-WRITE with the operation DELETE (R15). -/
def calendarDeleteAnswer (month day : Nat) (year : Option Nat) (s : State) : Answer :=
  let key := CalEntry.key { month := month, day := day, year := year, cls := 0 }
  let es := s.calendar.entries
  if !keyFits month day year then refuseEntries s .badValue
  else if es.any (fun x => x.key == key) then acceptEntries (es.filter (fun x => x.key != key)) s
  else refuseEntries s .notFound

/-- CALENDAR-READ (R17). -/
def calendarReadAnswer (part start count : Nat) (s : State) : Answer :=
  let c := s.calendar
  if part = 0 then accept s (.classes c.classes.toList)
  else if part = 1 then accept s (.weekdays c.weekdays.toList)
  else if part = 2 then
    accept s (.calendar ((c.entries.drop (clamp 0 63 start)).take (clamp 1 16 count)) c.entries.length)
  else refuse s .badValue

def execClassWrite (h : Header) (record : Nat) (chimeSet : Option Nat) (strikeHours chimeQuarters : Nat) (s : State) :
    Result :=
  .next (takeRequest h 0x14 (classWriteAnswer record chimeSet strikeHours chimeQuarters) s)

def execWeekdayWrite (h : Header) (classes : List Nat) (s : State) : Result :=
  .next (takeRequest h 0x15 (weekdayWriteAnswer classes) s)

def execCalendarWrite (h : Header) (month day : Nat) (year : Option Nat) (cls : Nat) (s : State) : Result :=
  .next (takeRequest h 0x16 (calendarWriteAnswer month day year cls) s)

def execCalendarDelete (h : Header) (month day : Nat) (year : Option Nat) (s : State) : Result :=
  .next (takeRequest h 0x16 (calendarDeleteAnswer month day year) s)

def execCalendarRead (h : Header) (part start count : Nat) (s : State) : Result :=
  .next (takeRequest h 0x17 (calendarReadAnswer part start count) s)

/-! ## The service timers (R18 to R20) -/

/-- The remaining seconds of a timer, 0 when IDLE (R18, R19). -/
def Timer.remaining (t : Timer) (elapsed : Nat) : Nat :=
  match t.ends with
  | some e => ceilDiv (e - elapsed) 1000
  | none => 0

/-- A timer's action from its kind, argument and fade (R18). -/
def timerAction? (action arg fade : Nat) : Option TimerAction :=
  if action = 0 then some .none
  else if action = 1 then (if within 1 4 arg then some (.startProgram arg) else none)
  else if action = 2 then some .stopSwing
  else if action = 3 then (if within 0 63 arg then some (.applyScene arg (clamp 0 600 fade)) else none)
  else none

/-- TIMER-START (R18). -/
def timerStartAnswer (n duration mask action arg fade : Nat) (s : State) : Answer :=
  match silenceMask? mask, timerAction? action arg fade with
  | some m, some a =>
    if !within 1 2 n then refuse s .badValue
    else
      let d := clamp 1 172800 duration
      accept (s.withTimer n { ends := some (s.elapsed + d * 1000), mask := m, action := a }) (.seconds d)
  | _, _ => refuse s .badValue

/-- TIMER-STOP (R20). -/
def timerStopAnswer (n : Nat) (s : State) : Answer :=
  if !within 1 2 n then refuse s .badValue
  else
    let t := s.timer n
    accept (s.withTimer n { t with ends := none }) (.timerStop t.ends.isSome (t.remaining s.elapsed))

/-- TIMER-READ (R20). -/
def timerReadAnswer (s : State) : Answer :=
  accept s (.timers (s.timers.toList.map (fun t => (t.ends.isSome, t.remaining s.elapsed, t.mask, t.action))))

def execTimerStart (h : Header) (n duration mask action arg fade : Nat) (s : State) : Result :=
  .next (takeRequest h 0x18 (timerStartAnswer n duration mask action arg fade) s)

def execTimerStop (h : Header) (n : Nat) (s : State) : Result :=
  .next (takeRequest h 0x19 (timerStopAnswer n) s)

def execTimerRead (h : Header) (s : State) : Result := .next (takeRequest h 0x1A timerReadAnswer s)

/-- A RUNNING timer's remaining count has reached 0 (R19). -/
def timerDue (s : State) (n : Nat) : Bool := within 1 2 n && ranOut s (s.timer n).ends

/-- A timer's action is performed, with its outcome (R19). -/
def performAction (a : TimerAction) (s : State) : State × TimerOutcome :=
  match a with
  | .none => (s, .none)
  | .startProgram k => timerStartProgram k s
  | .stopSwing => (stopSwings .stop (numbers 1 12) s, .status .ok [])
  | .applyScene n fade => (settleLoad (applyScene n fade s), .status .ok [])

/-- A timer expires: it is IDLE, then its action is performed, then TIMER-EXPIRED is raised (R19). -/
def expireTimer (n : Nat) (s : State) : State :=
  let t := s.timer n
  let x := performAction t.action (s.withTimer n { t with ends := none })
  raise (.timerExpired n t.action x.2) x.1

/-- TIMER-EXPIRED (R19). -/
def execTimerExpired (n : Nat) (s : State) : Result :=
  .next (whenOperating (fun s => if timerDue s n then expireTimer n s else s) s)

end Sys2Proof.Machine
end

