-- ==== Sys2Proof/Machine/Requests.lean ====
section
/-! DEFINITION. The queueing requests (04_performances_and_the_hammer_arbiter.md, R63 to R65;
06_change_ringing.md, R108), and the requests of the clock strike configuration, the silence table and the
touch context (R67, R70, R118). -/

namespace Sys2Proof.Machine

open Sys2Proof

/-! ## Queueing (R63 to R65, R108) -/

/-- The first landing a start asks for: now + 2,000 ms, or the first instant from there on with the given
ms-of-day (R64). -/
def firstLanding (now : Nat) (start : Option Nat) : Nat :=
  let t := now + 2000
  match start with
  | none => t
  | some m =>
    let at_ := t / Config.dayMs * Config.dayMs + clamp 0 86399999 m
    if t ≤ at_ then at_ else at_ + Config.dayMs

/-- The tests common to the queueing requests, up to the field checks and the places (R63): key, mode,
validity, the request's own checks, a touch in the queue, a full queue. -/
def queueTest (h : Header) (fieldsFit touch : Bool) (s : State) : Option Status :=
  if keyedOut h s then some .refusedLocal
  else if s.maintenance then some .refusedMode
  else if s.time.validity == .unset then some .timeUnset
  else if !fieldsFit then some .badValue
  else if touch && s.arbiter.queue.any (fun p => p.cls == .touch) then some .busy
  else if Config.queuePlaces ≤ s.arbiter.queue.length then some .full
  else none

/-- The performance a queueing request makes (R59, R63). -/
def newPerf (s : State) (src : Source) (start : Option Nat) (waitMs : Nat) : Perf :=
  waitingPerf (newId s) src (firstLanding s.time.instant start) waitMs

/-- A performance joins the queue; one that is due now, with nothing ACTIVE, is tested at once (R63). -/
def queuePerf (p : Perf) (s : State) : State :=
  let s1 := joinQueue p s
  if decide (p.dueStart ≤ s.now) && (activePerf s).isNone then startTest p s1 else s1

/-- A wait limit in ms, clamped (R64, R65). -/
def waitMs (wait : Nat) : Nat := clamp 0 3600 wait * 1000

/-- PLAY-TUNE (R63, R64). -/
def playTuneAnswer (h : Header) (n : Nat) (shift : Option Int) (start : Option Nat) (wait : Nat) (s : State) : Answer :=
  let t := slot s.tunes n
  match queueTest h (within 0 31 n && t.valid) false s with
  | some st => refuse s st
  | none =>
    let snap := { t.snap with shift := (shift.map (clampInt (-11) 11)).getD t.snap.shift }
    let p := newPerf s (.tune n snap) start (waitMs wait)
    accept (queuePerf p s) (.queued p.id p.firstLanding p.dueStart p.deadline)

/-- TOLL (R63, R65). -/
def tollAnswer (h : Header) (bell strength interval count silenceClock : Nat) (start : Option Nat) (wait : Nat)
    (s : State) : Answer :=
  let flag := flag? silenceClock
  match queueTest h (within 1 24 bell && flag.isSome) false s with
  | some st => refuse s st
  | none =>
    let src : Source :=
      .toll bell (clamp 1 3 strength) (clamp 1000 60000 interval) (clamp 1 1000 count) (flag.getD false)
    let p := newPerf s src start (waitMs wait)
    accept (queuePerf p s) (.queued p.id p.firstLanding p.dueStart p.deadline)

/-- The entries of a call list, where every call byte has a value (R108, R185). -/
def callList : List (Nat × Nat) → Option (List Call)
  | [] => some []
  | (lead, k) :: rest =>
    match callKind? k, callList rest with
    | some kind, some cs => some ({ lead := lead, kind := kind } :: cs)
    | _, _ => none

/-- The lead numbers ascend strictly (R108). -/
def leadsAscend : List Call → Bool
  | a :: b :: rest => decide (a.lead < b.lead) && leadsAscend (b :: rest)
  | _ => true

/-- A call has its change in the method (R108). -/
def callFits (m : Method) (c : Call) : Bool :=
  within 1 9999 c.lead && (match c.kind with | .bob => m.bob | .single => m.single).isSome

/-- The field checks of TOUCH-START (R108). -/
def touchFits (s : State) (method : Nat) (calls : List (Nat × Nat)) : Bool :=
  let m := slot s.methods method
  within 0 7 method && m.valid && decide (calls.length ≤ 64)
    && (callList calls).any (fun cs => cs.all (callFits m) && leadsAscend cs)

/-- The opening count: clamped, then raised to an even number (R108). -/
def openingCount (n : Nat) : Nat := clamp 2 40 n + clamp 2 40 n % 2

/-- The context an accepted TOUCH-START sets (R108, R109). -/
def newTouch (id method strength beat opening closing maximum : Nat) (m : Method) (calls : List Call) : Touch :=
  { Touch.initial with
    status := .waiting, method := method, snap := m, strength := clamp 1 3 strength, beat := clamp 150 1000 beat,
    opening := openingCount opening, closing := clamp 0 40 closing, maximum := clamp 1 15000 maximum, calls := calls,
    id := id, row := rounds m.stage, marks := if m.stage ≤ 7 then some [] else none }

/-- TOUCH-START (R63, R108). -/
def touchStartAnswer (h : Header) (method strength beat opening closing maximum : Nat) (calls : List (Nat × Nat))
    (s : State) : Answer :=
  match queueTest h (touchFits s method calls) true s with
  | some st => refuse s st
  | none =>
    let p := newPerf s .touch none 600000
    let t := newTouch p.id method strength beat opening closing maximum (slot s.methods method)
      ((callList calls).getD [])
    accept (queuePerf p { s with touch := t })
      (.touchQueued p.id p.firstLanding p.dueStart p.deadline t.strength t.beat t.opening t.closing t.maximum)

/-- The next call of a touch, with its position in the call list (R107, R118). -/
def Touch.callAhead (t : Touch) : Option (Nat × Call) := (t.calls[t.nextCall]?).map (fun c => (t.nextCall, c))

/-- What TOUCH-READ gives of the touch context and of the touch in the queue (R118). -/
def touchView (s : State) : TouchView :=
  let t := s.touch
  let p := s.arbiter.queue.find? (fun p => p.cls == .touch)
  { id := t.id, method := t.method, stage := t.snap.stage, cover := t.snap.cover, strength := t.strength, beat := t.beat,
    opening := t.opening, closing := t.closing, maximum := t.maximum,
    phase := if t.status == .ringing then some t.phase else none,
    row := t.row, rowNumber := t.rowNumber, leadNumber := t.leadNumber, changeIndex := t.changeIndex,
    nextCall := t.callAhead, rowsRung := t.rowsRung, changedRows := t.changedRows, falseRows := t.falseRows,
    closingLeft := t.closingLeft, cameRound := t.cameRound, marksSet := t.marks.map List.length,
    due := if t.status == .waiting then p.map (fun p => (p.dueStart, p.deadline)) else none,
    plan := if t.status == .ringing then p.map (fun p => (p.origin, p.cursor)) else none }

/-- TOUCH-READ (R118): of an EMPTY context the status alone. -/
def touchReadAnswer (s : State) : Answer :=
  accept s (.touch s.touch.status (if s.touch.status == .empty then none else some (touchView s)))

/-! ## Clock strike configuration and silence (R67, R70) -/

/-- CLOCKSTRIKE-CONFIG (R67). -/
def clockStrikeConfigAnswer (bell strength interval gap : Nat) (s : State) : Answer :=
  if !within 1 24 bell then refuse s .badValue
  else
    let c : ClockStrike :=
      { bell := bell, strength := clamp 1 3 strength, interval := clamp 1000 6000 interval, gap := clamp 0 10000 gap }
    accept { s with arbiter := { s.arbiter with clockStrike := c } } (.clockStrike c)

/-- CLOCKSTRIKE-READ (R67). -/
def clockStrikeReadAnswer (s : State) : Answer := accept s (.clockStrike s.arbiter.clockStrike)

/-- SILENCE-WRITE (R70). -/
def silenceWriteAnswer (entry enable start stop classes silenced : Nat) (s : State) : Answer :=
  match flag? enable, classMask? classes, silenceMask? silenced with
  | some on, some cs, some ks =>
    if !within 0 15 entry then refuse s .badValue
    else
      let e : Silence :=
        { enable := on, start := clamp 0 1439 start, stop := clamp 0 1439 stop, classes := cs, silenced := ks }
      accept { s with arbiter := { s.arbiter with silence := setSlot s.arbiter.silence entry e } } .none
  | _, _, _ => refuse s .badValue

/-- SILENCE-READ (R70). -/
def silenceReadAnswer (s : State) : Answer := accept s (.silences s.arbiter.silence.toList)

def execPlayTune (h : Header) (n : Nat) (shift : Option Int) (start : Option Nat) (wait : Nat) (s : State) : Result :=
  .next (takeRequest h 0x40 (playTuneAnswer h n shift start wait) s)

def execToll (h : Header) (bell strength interval count silenceClock : Nat) (start : Option Nat) (wait : Nat) (s : State) :
    Result :=
  .next (takeRequest h 0x41 (tollAnswer h bell strength interval count silenceClock start wait) s)

def execClockstrikeConfig (h : Header) (bell strength interval gap : Nat) (s : State) : Result :=
  .next (takeRequest h 0x44 (clockStrikeConfigAnswer bell strength interval gap) s)

def execClockstrikeRead (h : Header) (s : State) : Result := .next (takeRequest h 0x45 clockStrikeReadAnswer s)

def execSilenceWrite (h : Header) (entry enable start stop classes silenced : Nat) (s : State) : Result :=
  .next (takeRequest h 0x46 (silenceWriteAnswer entry enable start stop classes silenced) s)

def execSilenceRead (h : Header) (s : State) : Result := .next (takeRequest h 0x47 silenceReadAnswer s)

def execTouchStart (h : Header) (method strength beat opening closing maximum : Nat) (calls : List (Nat × Nat))
    (s : State) : Result :=
  .next (takeRequest h 0x5B (touchStartAnswer h method strength beat opening closing maximum calls) s)

def execTouchRead (h : Header) (s : State) : Result := .next (takeRequest h 0x5C touchReadAnswer s)

end Sys2Proof.Machine
end

