-- ==== Sys2Proof/Machine/Links.lean ====
section
/-! DEFINITION. The links' own requests and the notice unit's (10_links_and_notices.md, R169 to R177), the
part mode (11_supply_failure_restart_and_modes.md, R183, R184), RESET (R181), the chamber key (R172), and
the sizes of notice entries (12_frame_and_record_layouts.md, R189). -/

namespace Sys2Proof.Machine

open Sys2Proof

/-! ## The dispatcher (R169) -/

/-- A frame whose request the dispatcher itself answers with a status and no further payload (R169). -/
def dispatcherAnswer (st : Status) (s : State) : Answer := refuse s st

/-- UNKNOWN-KIND (R169). -/
def execUnknownKind (h : Header) (kind : Nat) (s : State) : Result :=
  .next (if namesRequest kind then s else takeRequest h kind (dispatcherAnswer .unknownKind) s)

/-! ## IDENTIFY and LINK-STATS (R170, R171) -/

/-- The capacities IDENTIFY gives (R171). -/
def capacities : List Nat := [24, 12, 4, 16, 1024, 32, 8, 8, 64, 48, 53, 64, 16, 8, 48, 18]

/-- IDENTIFY (R171). -/
def identifyAnswer (h : Header) (s : State) : Answer := accept s (.identity 0x54 0x0412 1 capacities h.link s.key)

/-- LINK-STATS reads and clears the four counters of its own link (R170). -/
def linkStatsAnswer (h : Header) (s : State) : Answer :=
  let l := s.link h.link
  let c := l.counters
  accept (s.withLink h.link { l with counters := { badCrc := 0, badLength := 0, timeout := 0, overrun := 0 } })
    (.counters c.badCrc c.badLength c.timeout c.overrun)

def execIdentify (h : Header) (s : State) : Result := .next (takeRequest h 0x01 (identifyAnswer h) s)

def execLinkStats (h : Header) (s : State) : Result := .next (takeRequest h 0x02 (linkStatsAnswer h) s)

/-! ## Notices (R175 to R177) -/

/-- The size of a kind's detail (R189). -/
def detailSize (kind : Nat) : Nat :=
  [21, 3, 12, 12, 6, 4, 15, 11, 7, 20, 27, 6, 4, 7, 5, 16, 3, 2].getD (kind - 1) 0

/-- The size of a kind's entry in a NOTICE-READ reply: kind, count, instant and detail (R189). -/
def entrySize (kind : Nat) : Nat := 8 + detailSize kind

/-- The pending kinds of a link from a kind upward, with their counts (R176). -/
def LinkState.pendingFrom (l : LinkState) (start : Nat) : List (Nat × Nat) :=
  (numbers start 18).filterMap (fun k => if 0 < nth l.pending k then some (k, nth l.pending k) else none)

/-- How many of a list of pending kinds fit in the bytes left (R176, R189). -/
def entriesThatFit : Nat → List (Nat × Nat) → Nat
  | _, [] => 0
  | room, x :: xs => if entrySize x.1 ≤ room then entriesThatFit (room - entrySize x.1) xs + 1 else 0

/-- NOTICE-READ (R176): whole entries of at most 246 bytes, and the first pending kind not given or 0. -/
def noticeReadAnswer (h : Header) (start : Nat) (s : State) : Answer :=
  if !within 1 18 start then refuse s .badValue
  else
    let ps := (s.link h.link).pendingFrom start
    let n := entriesThatFit 246 ps
    let entries := (ps.take n).filterMap (fun x => (nth s.details x.1).map (fun d => (x.1, x.2, d)))
    accept s (.notices entries (((ps.drop n).head?.map (·.1)).getD 0))

/-- A kind is masked (R175). -/
def LinkState.mask (l : LinkState) (k : Nat) : LinkState :=
  if nth l.unmasked k then
    { l with
      unmasked := setNth l.unmasked k false, pending := setNth l.pending k 0,
      held := if latched k then setNth l.held k (nth l.pending k) else l.held }
  else l

/-- A kind is unmasked (R175). -/
def LinkState.unmask (l : LinkState) (k : Nat) : LinkState :=
  if nth l.unmasked k then l
  else
    { l with
      unmasked := setNth l.unmasked k true, pending := setNth l.pending k (nth l.held k), held := setNth l.held k 0 }

/-- The lists of a NOTICE-MASK fit (R175). -/
def maskListsFit (toMask toUnmask : List Nat) : Bool :=
  decide (toMask.length ≤ 18) && decide (toUnmask.length ≤ 18) && toMask.all (within 1 18) && toUnmask.all (within 1 18)
    && toMask.all (fun k => !toUnmask.contains k)

/-- What NOTICE-MASK's reply gives: the kinds unmasked, and the held kinds with their counts (R175). -/
def maskBody (l : LinkState) : Body :=
  .masks ((numbers 1 18).filter (fun k => nth l.unmasked k))
    ((numbers 1 18).filterMap (fun k => if 0 < nth l.held k then some (k, nth l.held k) else none))

/-- NOTICE-MASK (R175). -/
def noticeMaskAnswer (h : Header) (toMask toUnmask : List Nat) (s : State) : Answer :=
  if !maskListsFit toMask toUnmask then refuse s .badValue
  else
    let l := toUnmask.foldl LinkState.unmask (toMask.foldl LinkState.mask (s.link h.link))
    accept (s.withLink h.link l) (maskBody l)

/-- A kind is in one of a link's sets (R174). -/
def LinkState.holds (l : LinkState) (k : Nat) : Bool := decide (0 < nth l.pending k) || decide (0 < nth l.held k)

/-- A kind is removed from both sets (R177). -/
def LinkState.forget (l : LinkState) (k : Nat) : LinkState :=
  { l with pending := setNth l.pending k 0, held := setNth l.held k 0 }

/-- NOTICE-CLEAR (R177). -/
def noticeClearAnswer (h : Header) (kinds : Option (List Nat)) (s : State) : Answer :=
  let ks := kinds.getD (numbers 1 18)
  if ks.isEmpty || decide (18 < ks.length) || !ks.all (within 1 18) then refuse s .badValue
  else
    let l := s.link h.link
    accept (s.withLink h.link (ks.foldl LinkState.forget l))
      (.count ((numbers 1 18).filter (fun k => ks.contains k && l.holds k)).length)

def execNoticeRead (h : Header) (start : Nat) (s : State) : Result :=
  .next (takeRequest h 0x03 (noticeReadAnswer h start) s)

def execNoticeMask (h : Header) (toMask toUnmask : List Nat) (s : State) : Result :=
  .next (takeRequest h 0x04 (noticeMaskAnswer h toMask toUnmask) s)

def execNoticeClear (h : Header) (kinds : Option (List Nat)) (s : State) : Result :=
  .next (takeRequest h 0x05 (noticeClearAnswer h kinds) s)

/-! ## Modes, RESET and the key (R172, R181, R183, R184) -/

/-- A hammer at the entry to MAINTENANCE, and at leaving it (R98). -/
def Hammer.inhibit (h : Hammer) : Hammer := if h.state == .ready then { h with state := .inhibited } else h
def Hammer.enable (h : Hammer) : Hammer := if h.state == .inhibited then { h with state := .ready } else h

/-- Entry to MAINTENANCE (R183): the arbiter and the strike queue, the hammers, then the swing channels. -/
def enterMaintenance (s : State) : State :=
  let s1 := arbiterMaintenance { s with maintenance := true }
  stopSwings .maintenance (numbers 1 12) { s1 with hammers := s1.hammers.map Hammer.inhibit }

/-- MODE-SET MAINTENANCE (R183). -/
def modeMaintenanceAnswer (s : State) : Answer := accept (if s.maintenance then s else enterMaintenance s) .none

/-- MODE-SET RUN (R184). -/
def modeRunAnswer (s : State) : Answer :=
  accept (if s.maintenance then { s with maintenance := false, hammers := s.hammers.map Hammer.enable } else s) .none

/-- RESET replies OK; the part restarts when that reply has been sent (R181). -/
def resetAnswer (s : State) : Answer := accept s .none

def execModeSetMaintenance (h : Header) (s : State) : Result := .next (takeRequest h 0x06 modeMaintenanceAnswer s)

def execModeSetRun (h : Header) (s : State) : Result := .next (takeRequest h 0x06 modeRunAnswer s)

def execReset (h : Header) (s : State) : Result := .next (takeRequest h 0x07 resetAnswer s)

/-- CHAMBER-KEY-CHANGE (R172): the key is a level, read when a request is taken; turning it acts on nothing
else. -/
def execChamberKeyChange (position : Link) (s : State) : Result := .next { s with key := position }

end Sys2Proof.Machine
end

