-- ==== Sys2Proof/Machine/Layouts.lean ====
section
/-! DEFINITION. The bytes of what replies carry (12_frame_and_record_layouts.md): the codes of enumerations, the
details and entries of notices (R189), score cells (R187), the central records (R188), the other replies' fields by
R185, and the frame of a reply (R166, R169). -/

namespace Sys2Proof.Machine

open Sys2Proof

/-! ## Codes (R185) -/

def Validity.code : Validity → Nat
  | .unset => 0
  | .isSet => 1

def RefState.code : RefState → Nat
  | .off => 0
  | .seeking => 1
  | .locked => 2

def StepCause.code : StepCause → Nat
  | .timeSet => 0
  | .zoneSet => 1
  | .reference => 2
  | .rangeEnd => 3

def Polarity.code : Polarity → Nat
  | .pos => 0
  | .neg => 1

def OmitReason.code : OmitReason → Nat
  | .silence => 0
  | .withdrawn => 1
  | .busy => 2
  | .mode => 3
  | .late => 4
  | .step => 5

def How.code : How → Nat
  | .complete => 0
  | .hushed => 1
  | .cut => 2
  | .step => 3
  | .mode => 4

def TouchHow.code : TouchHow → Nat
  | .rounds => 0
  | .cut => 1
  | .hushed => 2
  | .mode => 3
  | .omitted => 4

def DropReason.code : DropReason → Nat
  | .outOfRange => 0
  | .notFitted => 1
  | .fault => 2
  | .withdrawn => 3
  | .late => 4

def ClockPart.code : ClockPart → Nat
  | .whole => 0
  | .chime => 1
  | .strike => 2

def HammerCause.code : HammerCause → Nat
  | .actuator => 0
  | .engage => 1

def SwingState.code : SwingState → Nat
  | .down => 0
  | .queued => 1
  | .clearing => 2
  | .raising => 3
  | .swinging => 4
  | .lowering => 5
  | .settling => 6
  | .restoring => 7
  | .fault => 8

def SwingCause.code : SwingCause → Nat
  | .none => 0
  | .withdrawFailed => 1
  | .confirmLost => 2
  | .engageFailed => 3
  | .noPass => 4

/-- The place of a way-down cause in the model's own type; its byte is open (`Config.wayDownCode`). -/
def WayDown.place : WayDown → Nat
  | .none => 0
  | .stop => 1
  | .duration => 2
  | .raiseTimeout => 3
  | .maintenance => 4
  | .refused => 5
  | .moved => 6
  | .restart => 7
  | .faultClear => 8

def TimerAction.code : TimerAction → Nat
  | .none => 0
  | .startProgram _ => 1
  | .stopSwing => 2
  | .applyScene _ _ => 3

/-- The program or scene of a timer's action, 0 for none (R189). -/
def TimerAction.number : TimerAction → Nat
  | .none | .stopSwing => 0
  | .startProgram k => k
  | .applyScene n _ => n

/-- The fade of a timer's scene, 0 where the action has none (R18; DEDUCED, log entry 10). -/
def TimerAction.fade : TimerAction → Nat
  | .none | .startProgram _ | .stopSwing => 0
  | .applyScene _ f => f

def RestartCause.code : RestartCause → Nat
  | .powerUp => 0
  | .resetLine => 1
  | .resetRequest => 2
  | .supplyRecovered => 3

def Counter.code : Counter → Nat
  | .badCrc => 0
  | .badLength => 1
  | .timeout => 2
  | .overrun => 3

def DialKind.code : DialKind → Nat
  | .minute => 0
  | .half => 1

/-- The states of a dial in the order of R27's table. -/
def DialState.code : DialState → Nat
  | .fault => 0
  | .held => 1
  | .unknown => 2
  | .idle => 3
  | .running => 4
  | .wait => 5
  | .catchUp => 6

/-- The states of a hammer channel in the order of R83's table. -/
def HammerState.code : HammerState → Nat
  | .ready => 0
  | .striking => 1
  | .recovering => 2
  | .withdrawing => 3
  | .withdrawn => 4
  | .engaging => 5
  | .inhibited => 6
  | .fault => 7

def ClassSource.code : ClassSource → Nat
  | .year => 0
  | .any => 1
  | .weekday => 2

def CallKind.code : CallKind → Nat
  | .bob => 0
  | .single => 1

def TouchStatus.code : TouchStatus → Nat
  | .empty => 0
  | .waiting => 1
  | .ringing => 2
  | .ended => 3

def TouchPhase.code : TouchPhase → Nat
  | .opening => 0
  | .changes => 1
  | .closing => 2

def LightMode.code : LightMode → Nat
  | .lit => 0
  | .partialRange => 1
  | .dark => 2

def Trigger.code : Trigger → Nat
  | .fixed _ => 0
  | .dusk _ => 1
  | .dawn _ => 2

/-- A trigger's minute or offset (R188). -/
def Trigger.value : Trigger → Int
  | .fixed m => m
  | .dusk o => o
  | .dawn o => o

/-- The states of a performance in the order of R59. -/
def PerfState.code : PerfState → Nat
  | .waiting => 0
  | .active => 1
  | .paused => 2

/-- A link, PANEL or CHAMBER (R171, R189). -/
def linkCode : Link → Nat
  | .panel => 0
  | .chamber => 1

/-- The chamber key's position, named by the link it selects: CHAMBER or PANEL, in the order of R172 (DEDUCED, log
entry 24). -/
def keyCode : Link → Nat
  | .chamber => 0
  | .panel => 1

/-! ## Fields -/

/-- An instant in six bytes (R185). -/
def instantBytes (n : Nat) : List Byte := bigEndian 6 n

/-- An event as year, month, day and quarter index (R189). -/
def eventBytes (event : Nat) : List Byte :=
  let d := dateOf (event / 96)
  wordBytes d.year ++ [byteOf d.month, byteOf d.day, byteOf (event % 96)]

/-- An event that may be absent. -/
def maybeEventBytes : Option Nat → List Byte
  | some e => eventBytes e
  | none => (List.range 5).map (fun k => byteOf (Config.absentEvent k))

/-- Twelve working bells by position, 0 beyond the stage (R189). -/
def rowBytes (row : List Nat) : List Byte := (List.range 12).map (fun k => byteOf (row.getD k 0))

/-- The yielded circuits as a mask of two bytes, circuit `c` in bit `c − 1` (R185, R189). -/
def circuitMask (cs : List Nat) : BitVec 16 := cs.foldl (fun m c => m ||| (1#16 <<< (c - 1))) 0

/-- The outcome status of a timer: 0xFF NONE, 0xFE NOT-PERFORMED (R189). -/
def TimerOutcome.byte : TimerOutcome → Byte
  | .none => 0xFF
  | .notPerformed => 0xFE
  | .status st _ => byteOf st.code

/-- The twelve per-channel statuses, channel 1 first, 0xFF where none (R189). -/
def TimerOutcome.channelBytes (o : TimerOutcome) : List Byte :=
  let statuses := match o with
    | .status _ cs => cs
    | _ => []
  (numbers 1 12).map (fun c => ((statuses.lookup c).map (fun st => byteOf st.code)).getD 0xFF)

/-! ## Notices (R189) -/

/-- The detail of a notice, its fields in order (R189). -/
def Detail.bytes : Detail → List Byte
  | .timeStepped step cause old new before after =>
    signedBytes 6 step ++ [byteOf cause.code] ++ instantBytes old ++ instantBytes new
      ++ [byteOf before.code, byteOf after.code]
  | .referenceState previous new gap => [byteOf previous.code, byteOf new.code, flagByte gap]
  | .clockEventsSkipped count first last => wordBytes count ++ eventBytes first ++ eventBytes last
  | .dialFault channel pos polarity target instant =>
    byteOf channel :: wordBytes pos ++ [byteOf polarity.code] ++ wordBytes target ++ instantBytes instant
  | .dialSlip channel missing error before =>
    [byteOf channel, flagByte missing] ++ signedBytes 2 error ++ wordBytes before
  | .hammerFault bell cause id dropped => [byteOf bell, byteOf cause.code, byteOf id, byteOf dropped]
  | .strokeDropped id cls row bell strength reason wanted slip =>
    [byteOf id, byteOf cls.code] ++ wordBytes row ++ signedBytes 1 bell ++ [byteOf strength, byteOf reason.code]
      ++ signedBytes 6 wanted ++ wordBytes slip
  | .performanceOmitted id cls reason part event channel program =>
    [byteOf id, byteOf cls.code, byteOf reason.code, byteOf (if cls = .clock then part.code else Config.noPart)]
      ++ maybeEventBytes event
      ++ [byteOf channel, byteOf program]
  | .performanceEnded id cls how booked dropped =>
    [byteOf id, byteOf cls.code, byteOf how.code] ++ wordBytes booked ++ wordBytes dropped
  | .falseRow id rowNumber row rank lead index =>
    byteOf id :: wordBytes rowNumber ++ rowBytes row ++ wordBytes rank ++ wordBytes lead ++ [byteOf index]
  | .touchEnded id method how reason cameRound rows changed falseRows lead used listed row =>
    [byteOf id, byteOf method, byteOf how.code, byteOf ((reason.map OmitReason.code).getD Config.absentReason),
      flagByte cameRound] ++ wordBytes rows ++ wordBytes changed ++ wordBytes falseRows ++ wordBytes lead
      ++ [byteOf used, byteOf listed] ++ rowBytes row
  | .swingState channel bell state driveCount wayDown =>
    [byteOf channel, byteOf bell, byteOf state.code] ++ wordBytes driveCount ++ [byteOf (Config.wayDownCode wayDown.place)]
  | .swingFault channel bell cause left => [byteOf channel, byteOf bell, byteOf cause.code, byteOf left.code]
  | .raiseRefused channel bell load free yielded =>
    [byteOf channel, byteOf bell, byteOf load] ++ wordBytes free ++ maskBytes (circuitMask yielded)
  | .loadHeld circuit desired granted free => [byteOf circuit, byteOf desired, byteOf granted] ++ wordBytes free
  | .timerExpired timer action outcome =>
    [byteOf timer, byteOf action.code, byteOf action.number, outcome.byte] ++ outcome.channelBytes
  | .restarted cause lost validity => [byteOf cause.code, flagByte lost, byteOf validity.code]
  | .linkErrors link counter => [byteOf (linkCode link), byteOf counter.code]

/-- One entry of a NOTICE-READ reply (R189). -/
def entryBytes (e : Nat × Nat × Note) : List Byte :=
  [byteOf e.1, byteOf e.2.1] ++ instantBytes e.2.2.instant ++ e.2.2.detail.bytes

/-! ## Records (R187, R188) -/

/-- A tune record behind the number of its tune (R188). -/
def tuneBytes (n : Nat) (t : TuneSnap) : List Byte :=
  byteOf n :: wordBytes t.start ++ [byteOf t.intro, byteOf t.body, byteOf t.coda, byteOf t.passes] ++ wordBytes t.beat
    ++ [BitVec.ofInt 8 t.shift, if t.whole then 0 else 1]

/-- A position of a chime set behind its set and position numbers (R188). -/
def chimeBytes (k position : Nat) (p : ChimePos) : List Byte :=
  [byteOf k, byteOf position, byteOf p.tunes.length] ++ p.tunes.map byteOf ++ [byteOf p.step, byteOf p.pointer]

/-- A method record behind the number of its method (R188). -/
def methodBytes (k : Nat) (m : Method) : List Byte :=
  [byteOf k, byteOf m.stage] ++ m.bells.map byteOf ++ [byteOf (m.cover.getD 0), byteOf m.lead.length]
    ++ (m.lead ++ [m.bob.getD 0xFFFF, m.single.getD 0xFFFF]).flatMap maskBytes

/-- A calendar entry behind the operation WRITE (R188). -/
def calendarBytes (e : CalEntry) : List Byte :=
  [0, byteOf e.month, byteOf e.day] ++ wordBytes (e.year.getD 0) ++ [byteOf e.cls]

/-- The payload of a SCORE-READ reply after the status (R187). -/
def scoreReadBytes (row col count : Nat) (cells : List (BitVec 2)) (protectFlags : List Bool) : List Byte :=
  wordBytes row ++ [byteOf col, byteOf count] ++ packCells cells ++ protectFlags.map flagByte

/-! ### Replies whose fields their rules give without a table

Their fields stand in the order in which the rule names them, each coded by R185 in the fewest of 1, 2, 3 or 6 bytes
that hold its range; a list whose length is not fixed stands behind a byte with the number of its entries; what the
rule gives in some states only is left out in the others (DEDUCED, log entry 10). -/

/-- A value that may be absent, in `w` bytes (R185; log entry 3). -/
def maybeBytes {α : Type} (f : Config.OptionalField) (w : Nat) (bytes : α → List Byte) : Option α → List Byte
  | some x => bytes x
  | none => bigEndian w (Config.absentCode f)

/-- A number that may be absent, in `w` bytes. -/
def maybeNumber (f : Config.OptionalField) (w : Nat) : Option Nat → List Byte := maybeBytes f w (bigEndian w)

/-- A list behind the number of its entries. -/
def listBytes {α : Type} (bytes : α → List Byte) (xs : List α) : List Byte := byteOf xs.length :: xs.flatMap bytes

/-- A set of items of a mask of `w` bytes, item `k` in bit `k − 1` (R185). -/
def itemMask (w : Nat) (ks : List Nat) : List Byte := bigEndian w (ks.foldl (fun m k => m ||| 2 ^ (k - 1)) 0)

/-- A dial channel's configuration (R23, R24). -/
def dialConfigBytes (c : DialConfig) : List Byte :=
  byteOf c.kind.code :: wordBytes c.impulse ++ wordBytes c.gap ++ wordBytes c.wait ++ [flagByte c.datum]

/-- A clock strike configuration (R67). -/
def clockStrikeBytes (c : ClockStrike) : List Byte :=
  [byteOf c.bell, byteOf c.strength] ++ wordBytes c.interval ++ wordBytes c.gap

/-- A silence table entry (R70). -/
def silenceBytes (e : Silence) : List Byte :=
  flagByte e.enable :: wordBytes e.start ++ wordBytes e.stop ++ [e.classes, byteOf e.silenced.toNat]

/-- A day-class record (R13). -/
def classBytes (r : DayClass) : List Byte :=
  maybeNumber .chimeSet 1 r.chimeSet ++ [flagByte r.strikeHours, flagByte r.chimeQuarters]

/-- A timer: state, remaining seconds, mask, action with its program or scene and its fade (R18, R20). -/
def timerBytes (t : Bool × Nat × BitVec 6 × TimerAction) : List Byte :=
  flagByte t.1 :: bigEndian 3 t.2.1 ++ [byteOf t.2.2.1.toNat, byteOf t.2.2.2.code, byteOf t.2.2.2.number]
    ++ wordBytes t.2.2.2.fade

/-- A hammer's constants behind its bell (R188). -/
def hammerBytes (b lead recovery width : Nat) (fitted : Bool) : List Byte :=
  byteOf b :: wordBytes lead ++ wordBytes recovery ++ [byteOf width, flagByte fitted]

/-- A swing channel's constants behind its number (R188). -/
def swingConfigBytes (c : Nat) (x : SwingConfig) : List Byte :=
  [byteOf c, byteOf x.bell] ++ wordBytes x.drive
    ++ [byteOf x.raiseLoad, byteOf x.holdLoad, byteOf x.raiseLimit, byteOf x.settle, flagByte x.fitted]

/-- A circuit's configuration behind its number (R188). -/
def circuitBytes (c maxDraw : Nat) (yields : Bool) (floor : Nat) : List Byte :=
  [byteOf c, byteOf maxDraw, flagByte yields, byteOf floor]

/-- A schedule entry behind its number (R188). -/
def schedBytes (n : Nat) (e : SchedEntry) : List Byte :=
  [byteOf n, flagByte e.enable, e.classes, byteOf e.trigger.code] ++ signedBytes 2 e.trigger.value ++ [byteOf e.scene]
    ++ wordBytes e.fade

/-- A swing program: its list of channels and staggers, and its duration (R134). -/
def programBytes (p : Program) : List Byte :=
  listBytes (fun e => byteOf e.1 :: bigEndian 3 e.2) p.entries ++ [byteOf p.duration]

/-- A strike queue entry: the fields of R85 (R100). -/
def strikeBytes (e : Entry) : List Byte :=
  byteOf e.bell :: signedBytes 6 e.actuation ++ signedBytes 6 e.strike ++ [byteOf e.pulse, byteOf e.id] ++ wordBytes e.row

/-- The summary of a performance's source (R66): the tune; the toll's bell and count; the touch's method; or the event,
with a flag for its chime part and one for its strike part (log entry 10). -/
def sourceBytes (method : Option Nat) : Source → List Byte
  | .tune n _ => [byteOf n]
  | .toll bell _ _ count _ => byteOf bell :: wordBytes count
  | .touch => [byteOf (method.getD 0)]
  | .clock event chime strike => eventBytes event ++ [flagByte chime.isSome, flagByte strike.isSome]

/-- The cursor of a performance (R59, R66): of a clock event the part, 0 the chime and 1 the strike, before the row or
stroke (log entry 10). -/
def cursorBytes (p : Perf) : List Byte :=
  (if p.isClock then [flagByte p.inStrike] else []) ++ wordBytes p.cursor

/-- What QUEUE-READ gives of a performance, with its slip limit and a touch's method (R66). -/
def perfBytes (x : Perf × Nat × Option Nat) : List Byte :=
  let p := x.1
  [byteOf p.id, byteOf p.cls.code, byteOf p.state.code] ++ signedBytes 6 p.firstLanding ++ signedBytes 6 p.dueStart
    ++ signedBytes 6 p.deadline ++ maybeBytes .origin 6 (signedBytes 6) p.origin ++ cursorBytes p ++ wordBytes x.2.1
    ++ sourceBytes x.2.2 p.source

/-- What TOUCH-READ gives after the status (R118). The current row stands in twelve bytes, 0 beyond the stage, as in R189's
notices (DESIGN CHOICE, log entry 10). -/
def TouchView.bytes (t : TouchView) : List Byte :=
  [byteOf t.id, byteOf t.method, byteOf t.stage, byteOf (t.cover.getD 0), byteOf t.strength] ++ wordBytes t.beat
    ++ [byteOf t.opening, byteOf t.closing] ++ wordBytes t.maximum ++ (t.phase.map (fun p => byteOf p.code)).toList
    ++ rowBytes t.row ++ maybeNumber .rowNumber 2 t.rowNumber ++ wordBytes t.leadNumber ++ [byteOf t.changeIndex]
    ++ maybeBytes .nextCall 4 (fun c => byteOf c.1 :: wordBytes c.2.lead ++ [byteOf c.2.kind.code]) t.nextCall
    ++ wordBytes t.rowsRung ++ wordBytes t.changedRows ++ wordBytes t.falseRows
    ++ [byteOf t.closingLeft, flagByte t.cameRound] ++ (t.marksSet.map wordBytes).getD []
    ++ (t.due.map (fun d => signedBytes 6 d.1 ++ signedBytes 6 d.2)).getD []
    ++ (t.plan.map (fun p => maybeBytes .origin 6 (signedBytes 6) p.1 ++ wordBytes p.2)).getD []

/-- What SWING-READ gives of a channel (R138). Of a start pending the bytes give the milliseconds left alone, and its
duration, which R122 keeps with it, stands in the body only (DESIGN CHOICE, log entry 10). -/
def SwingView.bytes (v : SwingView) : List Byte :=
  swingConfigBytes v.channel v.swing.cfg ++ [byteOf v.swing.state.code, byteOf v.commitment]
    ++ maybeNumber .startPending 3 v.startLeft ++ [byteOf v.swing.duration] ++ maybeNumber .durationLeft 3 v.durationLeft
    ++ maybeNumber .raiseElapsed 3 v.raiseElapsed ++ maybeNumber .settleLeft 2 v.settleLeft
    ++ byteOf v.swing.arcRun :: wordBytes v.swing.driveCount
    ++ [byteOf (Config.wayDownCode v.swing.wayDown.place), byteOf v.swing.cause.code, byteOf v.hammer.code]
    ++ maybeNumber .place 1 v.place

/-- What LIGHT-READ gives of circuit `c`, with its share (R165). -/
def lightBytes (c : Nat) (x : Circuit × Nat) : List Byte :=
  circuitBytes c x.1.maxDraw x.1.yields x.1.floor ++ [byteOf x.1.output, byteOf x.1.target, flagByte x.1.forced]
    ++ maybeBytes .fade 5 (fun f => byteOf f.start :: wordBytes f.done ++ wordBytes f.total) x.1.fade
    ++ maybeNumber .desired 1 x.1.desired ++ maybeNumber .preYield 1 x.1.preYield ++ [byteOf x.2]

/-- What follows the status in a reply's payload. -/
def Body.bytes : Body → List Byte
  | .queue performances nextId free => listBytes perfBytes performances ++ [byteOf nextId, byteOf free]
  | .none => []
  | .identity vendor part revision capacities link key =>
    byteOf vendor :: wordBytes part ++ [byteOf revision]
      ++ capacities.flatMap (fun n => if n < 256 then [byteOf n] else wordBytes n) ++ [byteOf (linkCode link), byteOf (keyCode key)]
  | .counters a b c d => wordBytes a ++ wordBytes b ++ wordBytes c ++ wordBytes d
  | .notices entries next => entries.flatMap entryBytes ++ [byteOf next]
  | .masks unmasked held => itemMask 3 unmasked ++ listBytes (fun x => [byteOf x.1, byteOf x.2]) held
  | .count n => [byteOf n]
  | .counts a b => wordBytes a ++ wordBytes b
  | .seconds n => bigEndian 3 n
  | .wasSet yes => [flagByte yes]
  | .timeSet step old new => signedBytes 6 step ++ instantBytes old ++ instantBytes new
  | .zone minutes offset old new =>
    signedBytes 1 minutes ++ signedBytes 2 offset ++ instantBytes old ++ instantBytes new
  | .time instant year month day weekday ms dayOfYear v z enable r slew e cls source m =>
    instantBytes instant ++ wordBytes year ++ [byteOf month, byteOf day, byteOf weekday] ++ bigEndian 6 ms
      ++ wordBytes dayOfYear ++ byteOf v.code :: signedBytes 2 z ++ [flagByte enable, byteOf r.code]
      ++ signedBytes 2 slew ++ maybeBytes .lastError 2 (signedBytes 2) e ++ [byteOf cls, byteOf source.code]
      ++ maybeBytes .marker 5 eventBytes m
  | .reference state => [byteOf state.code]
  | .classes records => records.flatMap classBytes
  | .weekdays cs => cs.map byteOf
  | .calendar entries size => listBytes calendarBytes entries ++ [byteOf size]
  | .timerStop running remaining => bigEndian 3 remaining ++ [flagByte running]
  | .timers records => records.flatMap timerBytes
  | .dialConfig cfg => dialConfigBytes cfg
  | .dialPosition pos polarity => wordBytes pos ++ [byteOf polarity.code]
  | .dial cfg pos polarity target state known hold holdPending impulse =>
    dialConfigBytes cfg ++ wordBytes pos ++ byteOf polarity.code :: wordBytes target
      ++ [byteOf state.code, flagByte known, flagByte hold, flagByte holdPending, flagByte impulse.isSome]
      ++ maybeBytes .impulse 3 (fun i => byteOf i.1.code :: wordBytes i.2) impulse
  | .window w => wordBytes w.firstRow ++ wordBytes w.lastRow ++ [byteOf w.firstCol, byteOf w.lastCol]
  | .stored n skipped row col => [byteOf n, byteOf skipped] ++ wordBytes row ++ [byteOf col]
  | .scoreCells row col n cells protectFlags => scoreReadBytes row col n cells protectFlags
  | .tune n t => flagByte t.valid :: tuneBytes n t.snap
  | .tuneStored n snap => tuneBytes n snap
  | .listedAt set position => [byteOf set, byteOf position]
  | .chime k position p => chimeBytes k position p
  | .chimes k ps => (ps.zipIdx 1).flatMap (fun x => chimeBytes k x.2 x.1)
  | .queued id first due deadline => byteOf id :: signedBytes 6 first ++ signedBytes 6 due ++ signedBytes 6 deadline
  | .touchQueued id first due deadline strength beat opening closing maximum =>
    byteOf id :: signedBytes 6 first ++ signedBytes 6 due ++ signedBytes 6 deadline ++ byteOf strength :: wordBytes beat
      ++ [byteOf opening, byteOf closing] ++ wordBytes maximum
  | .clockStrike c => clockStrikeBytes c
  | .silences entries => entries.flatMap silenceBytes
  | .hammerConfig b lead recovery width fitted => hammerBytes b lead recovery width fitted
  | .hammer b h bookedUntil pulseLeft watchLeft entries =>
    hammerBytes b h.lead h.recovery h.width h.fitted ++ [byteOf h.state.code, flagByte h.actuatorFault]
      ++ maybeNumber .hammerCause 1 (h.faultCause.map HammerCause.code) ++ maybeBytes .bookedUntil 6 (signedBytes 6) bookedUntil
      ++ maybeBytes .recoveryEnd 6 (signedBytes 6) h.recoveryEnd ++ maybeNumber .pulseLeft 1 pulseLeft
      ++ maybeNumber .watchLeft 2 watchLeft ++ [flagByte h.confirm, byteOf entries]
  | .strikes size entries => byteOf size :: listBytes strikeBytes entries
  | .testStroke pulse instant => byteOf pulse :: instantBytes instant
  | .changeIndex index => [byteOf index]
  | .method n m => flagByte m.valid :: methodBytes n m
  | .touch status context => byteOf status.code :: (context.map TouchView.bytes).getD []
  | .swingConfig c cfg => swingConfigBytes c cfg
  | .statuses channels => listBytes (fun x => [byteOf x.2.code]) channels
  | .swingStates channels => listBytes (fun x => [byteOf x.2.code]) channels
  | .program p => programBytes p
  | .swings channels => listBytes SwingView.bytes channels
  | .allowance units load => wordBytes units ++ wordBytes load
  | .commitment load => wordBytes load
  | .allowanceRead units load free perCircuit perSwing heads headWait ordered yieldSet yielded held =>
    wordBytes units ++ wordBytes load ++ wordBytes free ++ (perCircuit ++ perSwing).map byteOf
      ++ listBytes (fun c => [byteOf c]) heads ++ bigEndian 3 headWait ++ flagByte ordered :: itemMask 2 yieldSet
      ++ listBytes (fun x => [byteOf x.1, byteOf x.2]) yielded
      ++ listBytes (fun x => [byteOf x.1, byteOf x.2.1, byteOf x.2.2]) held
  | .circuit c maxDraw yields floor => circuitBytes c maxDraw yields floor
  | .overdrawn load units => wordBytes load ++ wordBytes units
  | .scenesWritten n skipped next => [byteOf n, byteOf skipped, byteOf next]
  | .scenes start xs => byteOf start :: listBytes sceneBytes xs
  | .granted circuits => listBytes (fun g => [byteOf g.target, flagByte g.held]) circuits
  | .lightMode mode first last => [byteOf mode.code, byteOf first, byteOf last]
  | .dusks entries => listBytes (fun e => wordBytes e.1 ++ wordBytes e.2) entries
  | .schedEntry n e => schedBytes n e
  | .schedule start entries =>
    listBytes (fun x : (SchedEntry × Nat) × Nat => schedBytes x.2 x.1.1 ++ wordBytes x.1.2) (entries.zipIdx start)
  | .lights mode first last circuits =>
    [byteOf mode.code, byteOf first, byteOf last]
      ++ (circuits.zipIdx 1).flatMap (fun x : (Circuit × Nat) × Nat => lightBytes x.2 x.1)

/-- The bytes of a reply's frame (R166, R169). `none` for a QUEUE-READ whose performances do not fit the 248 bytes of a
payload: how such a reply is sent is open (DESIGN CHOICE, log entry 10; nothing is claimed of its bytes). -/
def Reply.frame (r : Reply) : Option (List Byte) :=
  let payload := byteOf r.status.code :: r.body.bytes
  if payload.length ≤ 248 then some (frameBytes r.kind r.tag payload) else none

end Sys2Proof.Machine
end

