-- ==== Sys2Proof/Machine/Supply.lean ====
section
/-! DEFINITION. Putaway, supply loss, the reset line and the restart (11_supply_failure_restart_and_modes.md,
R178 to R182), with each block's start of operation, and the end of a reply (R168, R181). -/

namespace Sys2Proof.Machine

open Sys2Proof

/-! ## Going out of operation (R178, R179, R181) -/

/-- A link out of operation: its sets are emptied and its reply is cut (R178). -/
def LinkState.silent (l : LinkState) : LinkState :=
  { l with pending := Vector.replicate 18 0, held := Vector.replicate 18 0, reply := none }

/-- Every output goes inactive; pulses, impulses, drive pulses, fades and replies in progress are cut, and
no impulse that is cut is counted, with its hold pending cleared (R33, R39, R101, R137, R165, R178, R179). -/
def outputsOff (s : State) : State :=
  { s with
    dials := s.dials.map (fun d => { d with impulse := none, holdPending := false })
    hammers := s.hammers.map (fun h => { h with pulseEnds := none, withdrawOutput := false })
    swings := s.swings.map (fun x => { x with drive := none })
    lights := { s.lights with circuits := s.lights.circuits.map (fun c => { c with output := 0, fade := none }) }
    panel := s.panel.silent
    chamber := s.chamber.silent
    power := { s.power with operating := false } }

/-! ## Starting operation (R180, R182) -/

/-- The retained area initialised: every item at its default after retained loss (R180). What the battery
does not hold is kept: the timebase, the levels of the inputs, the supply, and the commands that wait. -/
def retainedLost (s : State) : State :=
  { State.reset with
    elapsed := s.elapsed
    dials := s.dials.map (fun d => { Dial.initial with datumInput := d.datumInput })
    hammers := s.hammers.map (fun h => { Hammer.initial with confirm := h.confirm, faultInput := h.faultInput })
    key := s.key
    power := s.power
    pending := s.pending }

/-- A dial channel at the start of operation (R39). -/
def Dial.atStart (d : Dial) (instant elapsed : Nat) : Dial :=
  { d with
    fault := false, holdPending := false, impulse := none, lastEnd := elapsed, phase := .running, due := false,
    target := dialTarget d.cfg.kind instant }

/-- A hammer channel at the start of operation (R101): one of a swing bell is withdrawn before anything
else happens. -/
def Hammer.atStart (h : Hammer) (tied : Bool) (elapsed : Nat) : Hammer :=
  let x := { h with
    state := .ready, recoveryEnd := none, actuatorFault := false, faultCause := none, pulseEnds := none, pulseId := 0,
    withdrawOutput := false, watch := none }
  if !tied then x
  else if !h.fitted then { x with state := .withdrawn }
  else if h.confirm then { x with state := .withdrawn, withdrawOutput := true }
  else { x with state := .withdrawing, withdrawOutput := true, watch := some (elapsed + Config.hammerWatch) }

/-- A swing channel at the start of operation (R122, R137). -/
def Swing.atStart (x : Swing) (elapsed : Nat) : Swing :=
  { Swing.initial 1 with cfg := x.cfg, settleEnds := some (elapsed + x.cfg.settle * 1000) }

/-- A circuit at the start of operation (R151). -/
def Circuit.atStart (x : Circuit) (forced : Bool) : Circuit :=
  { Circuit.initial with maxDraw := x.maxDraw, yields := x.yields, floor := x.floor, forced := forced }

/-- The floodlights at the start of operation: the mode kept, every circuit dark (R151, R158). -/
def Lights.atStart (l : Lights) : Lights :=
  { l with
    circuits := Vector.ofFn (fun i : Fin 16 => (l.circuits[i]).atStart (forcesDark l.mode l.first l.last (i.val + 1))) }

/-- Tower time at the start of operation (R7, R9). -/
def TowerTime.atStart (t : TowerTime) (elapsed : Nat) : TowerTime :=
  { t with
    refState := if t.refEnabled then .seeking else .off, lastPulse := elapsed, slew := 0, secondServed := false,
    lastError := none, minuteMark := t.instant / Config.minuteMs }

/-- Each block's volatile state at the start of operation (R182). -/
def volatileStart (s : State) : State :=
  renewToday
    { s with
      time := s.time.atStart s.elapsed
      dials := s.dials.map (fun d => d.atStart s.time.instant s.elapsed)
      arbiter := { s.arbiter with queue := [], nextId := 1 }
      hammers := Vector.ofFn (fun i : Fin 24 => (s.hammers[i]).atStart (tiedChannel s (i.val + 1)).isSome s.elapsed)
      strikes := []
      touch := Touch.initial
      swings := s.swings.map (fun x => x.atStart s.elapsed)
      startRequests := 0
      allowance :=
        { units := s.allowance.units, queue := [], headSince := 0, yieldOrdered := false, yieldSet := [],
          headDue := false, releaseDue := false }
      lights := s.lights.atStart
      details := Vector.replicate 18 none
      panel := LinkState.initial panelMask
      chamber := LinkState.initial chamberMask
      maintenance := false
      power := { s.power with operating := true, lost := false, markerGood := false } }

/-- A timer that ran out while the part was out of operation is IDLE, and its action is not performed
(R21). -/
def lapseTimer (s : State) (n : Nat) : State :=
  if timerDue s n then
    raise (.timerExpired n (s.timer n).action .notPerformed) (s.withTimer n { s.timer n with ends := none })
  else s

/-- The part restarts (R180, R182): RESTARTED is the first notice; then the timers that lapsed, the dials'
decisions, the clock events that passed and those to be built (R80), and the lighting (R164). When both timers lapsed,
timer 1 is dealt with before timer 2 (DESIGN CHOICE, log entry 14). -/
def restart (cause : RestartCause) (s : State) : State :=
  let lost := cause == .powerUp && !s.power.markerGood
  let s1 := volatileStart (if lost then retainedLost s else s)
  let s2 := raise (.restarted cause lost s1.time.validity) s1
  let s3 := (numbers 1 4).foldl (fun s c => settleDial c s) ((numbers 1 2).foldl lapseTimer s2)
  restoreLights (buildAhead (skipEvents [] s3))

/-- The restart that is waited for: it comes when supply is present and both the line and the input are
released, with cause POWER-UP where the supply was lost meanwhile, and else the cause of what was released
last (R181). -/
def restartIfFree (cause : RestartCause) (s : State) : State :=
  if !s.power.operating && s.power.supply && !s.power.failInput && !s.power.resetLine then
    restart (if s.power.lost then .powerUp else cause) s
  else s

/-! ## Events -/

/-- PUTAWAY (R179, R181): the supply-fail input asserts, in operation or while the part is held (DEDUCED,
log entry 19). -/
def execPutaway (s : State) : Result :=
  .next
    (if s.power.supply && !s.power.failInput then
      let s1 := outputsOff s
      { s1 with power := { s1.power with failInput := true, markerGood := true } }
    else s)

/-- SUPPLY-RECOVERED (R179, R181): the supply-fail input deasserts with supply present. -/
def execSupplyRecovered (s : State) : Result :=
  .next
    (if s.power.supply && s.power.failInput then
      restartIfFree .supplyRecovered { s with power := { s.power with failInput := false } }
    else s)

/-- SUPPLY-LOST (R179). -/
def execSupplyLost (s : State) : Result :=
  .next
    (if s.power.supply then
      let s1 := outputsOff s
      { s1 with power := { s1.power with supply := false, lost := true } }
    else s)

/-- POWER-UP (R180, R181): supply returns, with the supply-fail input released (DEDUCED, log entry 19). Whether the
battery held the retained area is a free value; one that has not held it has not held the marker either, which reads
CLEAR (DEDUCED, log entry 23). -/
def execPowerUp (s : State) : Result :=
  .next
    (if s.power.supply then s
    else
      let held := Config.batteryHeld s.power.powerUps
      restartIfFree .powerUp
        { s with
          power :=
            { s.power with
              supply := true, failInput := false, markerGood := s.power.markerGood && held
              powerUps := s.power.powerUps + 1 } })

/-- RESET-LINE-ASSERT (R181). -/
def execResetLineAssert (s : State) : Result :=
  .next
    (let s1 := if s.power.operating then outputsOff s else s
     { s1 with power := { s1.power with resetLine := true } })

/-- RESET-LINE-RELEASE (R181). -/
def execResetLineRelease (s : State) : Result :=
  .next
    (if s.power.resetLine then restartIfFree .resetLine { s with power := { s.power with resetLine := false } } else s)

/-- The reply is the OK reply of a RESET (R169, R181). -/
def Reply.restarts (r : Reply) : Bool := r.kind == replyKind 0x07 && r.status == .ok

/-- REPLY-SENT (R168, R181): the last byte of a link's reply has left the line; after a RESET's OK the part
restarts. -/
def execReplySent (l : Link) (s : State) : Result :=
  .next (whenOperating
    (fun s => match (s.link l).reply with
      | none => s
      | some r =>
        let s1 := s.withLink l { s.link l with reply := none }
        if r.restarts then restart .resetRequest s1 else s1) s)

end Sys2Proof.Machine
end

