-- ==== Sys2Proof/Machine/Frames.lean ====
section
/-! DEFINITION. The receivers of the links (10_links_and_notices.md, R166 to R169): the bytes of a frame,
the rescan of a frame discarded, the gap watch, and the dispatch of a complete frame. -/

namespace Sys2Proof.Machine

open Sys2Proof

/-! ## Dispatch (R168, R169) -/

/-- The state a meaning answers; a meaning that stopped would leave the state as it was. -/
def answered (s : State) : Result → State
  | .next t => t
  | .fault _ => s
  | .refused _ => s

/-- The request of a complete frame is taken by its owning block. A frame spells no event. -/
def runRequest (i : Instr) (s : State) : State :=
  answered s <|
    match i with
    | .identify h => execIdentify h s
    | .linkStats h => execLinkStats h s
    | .noticeRead h start => execNoticeRead h start s
    | .noticeMask h toMask toUnmask => execNoticeMask h toMask toUnmask s
    | .noticeClear h kinds => execNoticeClear h kinds s
    | .modeSetMaintenance h => execModeSetMaintenance h s
    | .modeSetRun h => execModeSetRun h s
    | .reset h => execReset h s
    | .faultClearDial h c => execFaultClearDial h c s
    | .faultClearHammer h b => execFaultClearHammer h b s
    | .faultClearSwing h c => execFaultClearSwing h c s
    | .unknownKind h k => execUnknownKind h k s
    | .timeSet h y m d t => execTimeSet h y m d t s
    | .zoneSet h z => execZoneSet h z s
    | .timeRead h => execTimeRead h s
    | .referenceSet h f => execReferenceSet h f s
    | .classWrite h r c a b => execClassWrite h r c a b s
    | .weekdayWrite h cs => execWeekdayWrite h cs s
    | .calendarWrite h m d y c => execCalendarWrite h m d y c s
    | .calendarDelete h m d y => execCalendarDelete h m d y s
    | .calendarRead h p a n => execCalendarRead h p a n s
    | .timerStart h n d m a x f => execTimerStart h n d m a x f s
    | .timerStop h n => execTimerStop h n s
    | .timerRead h => execTimerRead h s
    | .dialConfig h c k i g w f => execDialConfig h c k i g w f s
    | .dialHold h c => execDialHold h c s
    | .dialSetPosition h c p q => execDialSetPosition h c p q s
    | .dialRelease h c => execDialRelease h c s
    | .dialRead h c => execDialRead h c s
    | .scoreWindow h a b c d => execScoreWindow h a b c d s
    | .scoreWrite h f n p => execScoreWrite h f n p s
    | .scoreRead h r c n => execScoreRead h r c n s
    | .scoreProtect h a b c => execScoreProtect h a b c s
    | .tuneWrite h n a i b c p t x w => execTuneWrite h n a i b c p t x w s
    | .tuneClear h n => execTuneClear h n s
    | .tuneRead h n => execTuneRead h n s
    | .chimeWrite h k p n ts st q => execChimeWrite h k p n ts st q s
    | .chimeRead h k => execChimeRead h k s
    | .playTune h n x a w => execPlayTune h n x a w s
    | .toll h b v i n f a w => execToll h b v i n f a w s
    | .hush h f => execHush h f s
    | .queueRead h => execQueueRead h s
    | .clockstrikeConfig h b v i g => execClockstrikeConfig h b v i g s
    | .clockstrikeRead h => execClockstrikeRead h s
    | .silenceWrite h e on a b c k => execSilenceWrite h e on a b c k s
    | .silenceRead h => execSilenceRead h s
    | .hammerConfig h b l d w f => execHammerConfig h b l d w f s
    | .hammerRead h b => execHammerRead h b s
    | .strikeQueueRead h a n => execStrikeQueueRead h a n s
    | .testStroke h b v => execTestStroke h b v s
    | .methodWrite h k n bs c m l bob single => execMethodWrite h k n bs c m l bob single s
    | .methodClear h k => execMethodClear h k s
    | .methodRead h k => execMethodRead h k s
    | .touchStart h k v b o c m cs => execTouchStart h k v b o c m cs s
    | .touchRead h => execTouchRead h s
    | .swingConfig h c b d r k m t f => execSwingConfig h c b d r k m t f s
    | .swingStart h es d => execSwingStart h es d s
    | .swingStop h cs => execSwingStop h cs s
    | .swingProgramWrite h k es d => execSwingProgramWrite h k es d s
    | .swingProgramRead h k => execSwingProgramRead h k s
    | .swingProgramStart h k => execSwingProgramStart h k s
    | .swingRead h a n => execSwingRead h a n s
    | .allowanceSet h u => execAllowanceSet h u s
    | .allowanceRead h => execAllowanceRead h s
    | .circuitConfig h c d y f => execCircuitConfig h c d y f s
    | .sceneWrite h a n xs => execSceneWrite h a n xs s
    | .sceneRead h a n => execSceneRead h a n s
    | .sceneApply h n f => execSceneApply h n f s
    | .lightMode h m a b => execLightMode h m a b s
    | .duskWrite h a es => execDuskWrite h a es s
    | .duskRead h a n => execDuskRead h a n s
    | .scheduleWrite h e on m t v n f => execScheduleWrite h e on m t v n f s
    | .scheduleRead h a n => execScheduleRead h a n s
    | .lightRead h => execLightRead h s
    | _ => .next s

/-- A frame that spells no request is answered; a SCORE-WRITE refused so closes its link's stream too (R43,
R169). -/
def answerFrame (h : Header) (kind : Nat) (answer : State → Answer) (s : State) : State :=
  takeRequest h kind (fun s => answer (closeStream h.link s)) s

/-- The owning block refuses a payload whose enumerated byte or count has no meaning (R185, R186, R188): BAD-VALUE
alone, and of a CALENDAR-WRITE the number of entries with it (R15; log entries 4, 15). -/
def badValueAnswer (kind : Nat) (s : State) : Answer :=
  if kind = 0x16 then refuseEntries s .badValue else refuse s .badValue

/-- A complete frame with a good CRC (R168, R169). -/
def takeFrame (l : Link) (kind tag : Nat) (payload : List Byte) (s : State) : State :=
  let h : Header := { link := l, tag := tag }
  match decodeRequest h kind payload with
  | .unknown => answerFrame h kind (dispatcherAnswer .unknownKind) s
  | .badLength => answerFrame h kind (dispatcherAnswer .badLength) s
  | .badValue => answerFrame h kind (badValueAnswer kind) s
  | .request i => runRequest i s

/-! ## Receiving (R167) -/

/-- What one byte does to a receiver: it goes on, a frame is complete, or a frame is discarded. -/
inductive Received where
  | going (r : Receiver)
  | complete (body : List Byte)
  | discarded (why : Counter) (kept : List Byte)
  deriving DecidableEq, Repr, Inhabited

/-- A receiver in a state with the bytes it has kept. -/
def Receiver.enter (r : Receiver) (st : RxState) (kept : List Byte) : Receiver := { r with state := st, kept := kept }

/-- The CRC bytes have come: the frame is complete, or its CRC is bad (R167). -/
def judge (kept : List Byte) : Received :=
  let n := (kept.headD 0).toNat + 1
  if maskBytes (crc16 (kept.take n)) = kept.drop n then .complete ((kept.take n).drop 1) else .discarded .badCrc kept

/-- One byte at a receiver (R167). -/
def Receiver.take (r : Receiver) (b : Byte) : Received :=
  let kept := r.kept ++ [b]
  match r.state with
  | .hunt => .going (r.enter (if b = 0x7E then .length else .hunt) [])
  | .length => if within 2 250 b.toNat then .going (r.enter .body kept) else .discarded .badLength kept
  | .body => .going (r.enter (if kept.length = (kept.headD 0).toNat + 1 then .check else .body) kept)
  | .check => if kept.length = (kept.headD 0).toNat + 3 then judge kept else .going (r.enter .check kept)

/-- A link's receiver replaced. -/
def State.withReceiver (s : State) (l : Link) (r : Receiver) : State := s.withLink l { s.link l with receiver := r }

/-- The receiver of a link back in HUNT with nothing kept (R167). -/
def toHunt (l : Link) (s : State) : State := s.withReceiver l ((s.link l).receiver.enter .hunt [])

/-- Bytes taken one after another, those of a discarded frame once more before the rest (R167). Each discard
drops a start byte, so bytes that hold n start bytes are taken at most n + 1 times over. -/
def takeBytes (l : Link) : Nat → List Byte → State → State
  | 0, _, s => s
  | _, [], s => s
  | fuel + 1, b :: rest, s =>
    match (s.link l).receiver.take b with
    | .going r => takeBytes l fuel rest (s.withReceiver l r)
    | .complete body =>
      takeBytes l fuel rest
        (takeFrame l (body.headD 0).toNat ((body.drop 1).headD 0).toNat (body.drop 2) (toHunt l s))
    | .discarded why kept => takeBytes l fuel (kept ++ rest) (countError l why (toHunt l s))

/-- A byte received from the line (R167): the gap watch runs from it. -/
def receiveByte (l : Link) (b : Byte) (s : State) : State :=
  let r := (s.link l).receiver
  let n := r.kept.length + 2
  takeBytes l (n * n) [b] (s.withReceiver l { r with lastByte := s.elapsed })

/-- RECEIVE-BYTE (R167); out of operation nothing is received (R178). -/
def execReceiveByte (l : Link) (b : Byte) (s : State) : Result := .next (whenOperating (receiveByte l b) s)

/-- More than 50 ms have passed in LENGTH, BODY or CHECK with no byte (R167). -/
def receiveTimeoutDue (s : State) (l : Link) : Bool :=
  let r := (s.link l).receiver
  r.state != .hunt && decide (r.lastByte + Config.receiveGap < s.elapsed)

/-- RECEIVE-TIMEOUT (R167): the partial frame is abandoned and counted. -/
def execReceiveTimeout (l : Link) (s : State) : Result :=
  .next (whenOperating (fun s => if receiveTimeoutDue s l then countError l .timeout (toHunt l s) else s) s)

end Sys2Proof.Machine
end

