-- ==== Sys2Proof/Machine/Due.lean ====
section
/-! DEFINITION. Which of the part's own events is due at a moment: those that time brings, in the fixed
order the model takes them when several are due at one moment (the manual leaves that order open: DESIGN
CHOICE, log entry 2). -/

namespace Sys2Proof.Machine

open Sys2Proof

/-- The first of some numbers for which an event is due. -/
def firstOfUnits (units : List Nat) (due : Nat → Bool) (event : Nat → Instr) : Option Instr := (units.find? due).map event

/-- The event, when it is due. -/
def whenDue (due : Bool) (event : Instr) : Option Instr := if due then some event else none

/-- A hammer's recovery end has come (R90). -/
def recoveryDue (s : State) (b : Nat) : Bool := (s.hammer b).state == .recovering && (s.hammer b).recovered s.now

/-- The events of the day, the links and the timers (R11, R16, R19, R167). -/
def dueTime (s : State) : List (Option Instr) :=
  [ whenDue (renewalDue s) .dayClassRenewal,
    whenDue (receiveTimeoutDue s .panel) (.receiveTimeout .panel),
    whenDue (receiveTimeoutDue s .chamber) (.receiveTimeout .chamber),
    whenDue (referenceGapDue s) .referenceGap,
    firstOfUnits (numbers 1 2) (timerDue s) .timerExpired ]

/-- The events of the dials (R26, R29, R30); the datum input keeps its last level. -/
def dueDials (s : State) : List (Option Instr) :=
  [ firstOfUnits (numbers 1 4) (dialImpulseEndDue s) (fun c => .dialImpulseEnd c (s.dial c).datumInput),
    firstOfUnits (numbers 1 4) (dialTargetChangeDue s) .dialTargetChange,
    firstOfUnits (numbers 1 4) (dialImpulseStartDue s) .dialImpulseStart ]

/-- The events of the hammers and the performances (R68, R72, R76, R86, R90 to R96); a fault input keeps
its last level. -/
def duePerformances (s : State) : List (Option Instr) :=
  [ firstOfUnits (numbers 1 24) (pulseDone s) (fun b => .hammerPulseEnd b (s.hammer b).faultInput),
    firstOfUnits (numbers 1 24) (recoveryDue s) .hammerRecoveryEnd,
    whenDue (entryDue s) .strikeEntryTaken,
    firstOfUnits (numbers 1 24) (confirmTimeoutDue s) .withdrawConfirmTimeout,
    firstOfUnits (numbers 1 24) (clearTimeoutDue s) .engageClearTimeout,
    whenDue (nextBuild s).isSome .clockEventBuild,
    (s.arbiter.queue.find? (fun p => p.startDue s.now)).map (fun p => .dueStart p.id),
    (s.arbiter.queue.find? (fun p => p.deadlineDue s.now)).map (fun p => .performanceDeadline p.id),
    whenDue ((activePerf s).any (emissible s)) .rowEmission ]

/-- The events of the swing channels and of the raise queue (R121 to R128, R143). -/
def dueSwings (s : State) : List (Option Instr) :=
  let channels := numbers 1 12
  [ firstOfUnits channels (staggerDue s) .staggerEnd,
    firstOfUnits channels (driveDone s) .drivePulseEnd,
    firstOfUnits channels (fun c => watchDue .raising Swing.passEnds s c && (s.swing c).drive.isNone) .raiseNoPass,
    firstOfUnits channels (watchDue .raising Swing.raiseEnds s) .raiseLimitEnd,
    firstOfUnits channels (watchDue .swinging Swing.durationEnds s) .durationEnd,
    firstOfUnits channels (watchDue .swinging Swing.passEnds s) .swingPassWatchEnd,
    firstOfUnits channels (watchDue .lowering Swing.passEnds s) .loweringPassWatchEnd,
    firstOfUnits channels (watchDue .settling Swing.settleEnds s) .settleWatchEnd,
    whenDue (refusalDue s) .raiseRefused ]

/-- The events of the floodlights (R153, R163). -/
def dueLights (s : State) : List (Option Instr) :=
  [ firstOfUnits (numbers 1 16) (fadeStepDue s) .fadeStep, whenDue (scheduleDue s) .scheduleEvaluation ]

/-- The event that is due now and comes first. -/
def dueEvent (s : State) : Option Instr :=
  (dueTime s ++ dueDials s ++ duePerformances s ++ dueSwings s ++ dueLights s).findSome? id

/-- The command that the passing of time brings next: in operation an event that is due, or the adjustment
of this second's last millisecond (R9); in or out of operation the end of the range (R3). -/
def timeCommand (s : State) : Option Instr :=
  if s.power.operating then
    (dueEvent s).or ((whenDue (slewDue s) .slewSecondAdjust).or (whenDue (rangeEndDue s) .rangeEnd))
  else whenDue (rangeEndDue s) .rangeEnd

end Sys2Proof.Machine
end

