-- ==== Sys2Proof/Machine/Dispatch.lean ====
section
/-! DEFINITION. The dispatch of a command to its meaning, one arm per row of the table of operations. -/

namespace Sys2Proof.Machine

open Sys2Proof

def exec (i : Instr) (s : State) : Host.Outcome State Fault Refusal :=
  match i with
  | .identify h => Sys2Proof.Machine.execIdentify h s
  | .linkStats h => Sys2Proof.Machine.execLinkStats h s
  | .noticeRead h start => Sys2Proof.Machine.execNoticeRead h start s
  | .noticeMask h toMask toUnmask => Sys2Proof.Machine.execNoticeMask h toMask toUnmask s
  | .noticeClear h kinds => Sys2Proof.Machine.execNoticeClear h kinds s
  | .modeSetMaintenance h => Sys2Proof.Machine.execModeSetMaintenance h s
  | .modeSetRun h => Sys2Proof.Machine.execModeSetRun h s
  | .reset h => Sys2Proof.Machine.execReset h s
  | .faultClearDial h channel => Sys2Proof.Machine.execFaultClearDial h channel s
  | .faultClearHammer h bell => Sys2Proof.Machine.execFaultClearHammer h bell s
  | .faultClearSwing h channel => Sys2Proof.Machine.execFaultClearSwing h channel s
  | .unknownKind h kind => Sys2Proof.Machine.execUnknownKind h kind s
  | .timeSet h year month day msOfDay => Sys2Proof.Machine.execTimeSet h year month day msOfDay s
  | .zoneSet h minutes => Sys2Proof.Machine.execZoneSet h minutes s
  | .timeRead h => Sys2Proof.Machine.execTimeRead h s
  | .referenceSet h enable => Sys2Proof.Machine.execReferenceSet h enable s
  | .classWrite h record chimeSet strikeHours chimeQuarters => Sys2Proof.Machine.execClassWrite h record chimeSet strikeHours chimeQuarters s
  | .weekdayWrite h classes => Sys2Proof.Machine.execWeekdayWrite h classes s
  | .calendarWrite h month day year cls => Sys2Proof.Machine.execCalendarWrite h month day year cls s
  | .calendarDelete h month day year => Sys2Proof.Machine.execCalendarDelete h month day year s
  | .calendarRead h part start count => Sys2Proof.Machine.execCalendarRead h part start count s
  | .timerStart h timer duration mask action arg fade => Sys2Proof.Machine.execTimerStart h timer duration mask action arg fade s
  | .timerStop h timer => Sys2Proof.Machine.execTimerStop h timer s
  | .timerRead h => Sys2Proof.Machine.execTimerRead h s
  | .dialConfig h channel kind impulse gap wait datum => Sys2Proof.Machine.execDialConfig h channel kind impulse gap wait datum s
  | .dialHold h channel => Sys2Proof.Machine.execDialHold h channel s
  | .dialSetPosition h channel position polarity => Sys2Proof.Machine.execDialSetPosition h channel position polarity s
  | .dialRelease h channel => Sys2Proof.Machine.execDialRelease h channel s
  | .dialRead h channel => Sys2Proof.Machine.execDialRead h channel s
  | .scoreWindow h firstRow lastRow firstCol lastCol => Sys2Proof.Machine.execScoreWindow h firstRow lastRow firstCol lastCol s
  | .scoreWrite h continueFlag count packed => Sys2Proof.Machine.execScoreWrite h continueFlag count packed s
  | .scoreRead h row col count => Sys2Proof.Machine.execScoreRead h row col count s
  | .scoreProtect h firstRow lastRow action => Sys2Proof.Machine.execScoreProtect h firstRow lastRow action s
  | .tuneWrite h tune start intro body coda passes beat shift completeness => Sys2Proof.Machine.execTuneWrite h tune start intro body coda passes beat shift completeness s
  | .tuneClear h tune => Sys2Proof.Machine.execTuneClear h tune s
  | .tuneRead h tune => Sys2Proof.Machine.execTuneRead h tune s
  | .chimeWrite h chimeSet position count tunes step pointer => Sys2Proof.Machine.execChimeWrite h chimeSet position count tunes step pointer s
  | .chimeRead h chimeSet => Sys2Proof.Machine.execChimeRead h chimeSet s
  | .playTune h tune shift start wait => Sys2Proof.Machine.execPlayTune h tune shift start wait s
  | .toll h bell strength interval count silenceClock start wait => Sys2Proof.Machine.execToll h bell strength interval count silenceClock start wait s
  | .hush h clockFlag => Sys2Proof.Machine.execHush h clockFlag s
  | .queueRead h => Sys2Proof.Machine.execQueueRead h s
  | .clockstrikeConfig h bell strength interval gap => Sys2Proof.Machine.execClockstrikeConfig h bell strength interval gap s
  | .clockstrikeRead h => Sys2Proof.Machine.execClockstrikeRead h s
  | .silenceWrite h entry enable startMinute endMinute classes silenced => Sys2Proof.Machine.execSilenceWrite h entry enable startMinute endMinute classes silenced s
  | .silenceRead h => Sys2Proof.Machine.execSilenceRead h s
  | .hammerConfig h bell lead recovery width fitted => Sys2Proof.Machine.execHammerConfig h bell lead recovery width fitted s
  | .hammerRead h bell => Sys2Proof.Machine.execHammerRead h bell s
  | .strikeQueueRead h start count => Sys2Proof.Machine.execStrikeQueueRead h start count s
  | .testStroke h bell strength => Sys2Proof.Machine.execTestStroke h bell strength s
  | .methodWrite h method stage bells cover leadCount lead bob single => Sys2Proof.Machine.execMethodWrite h method stage bells cover leadCount lead bob single s
  | .methodClear h method => Sys2Proof.Machine.execMethodClear h method s
  | .methodRead h method => Sys2Proof.Machine.execMethodRead h method s
  | .touchStart h method strength beat opening closing maximum calls => Sys2Proof.Machine.execTouchStart h method strength beat opening closing maximum calls s
  | .touchRead h => Sys2Proof.Machine.execTouchRead h s
  | .swingConfig h channel bell drive raiseLoad holdLoad raiseLimit settle fitted => Sys2Proof.Machine.execSwingConfig h channel bell drive raiseLoad holdLoad raiseLimit settle fitted s
  | .swingStart h entries duration => Sys2Proof.Machine.execSwingStart h entries duration s
  | .swingStop h channels => Sys2Proof.Machine.execSwingStop h channels s
  | .swingProgramWrite h program entries duration => Sys2Proof.Machine.execSwingProgramWrite h program entries duration s
  | .swingProgramRead h program => Sys2Proof.Machine.execSwingProgramRead h program s
  | .swingProgramStart h program => Sys2Proof.Machine.execSwingProgramStart h program s
  | .swingRead h first count => Sys2Proof.Machine.execSwingRead h first count s
  | .allowanceSet h units => Sys2Proof.Machine.execAllowanceSet h units s
  | .allowanceRead h => Sys2Proof.Machine.execAllowanceRead h s
  | .circuitConfig h circuit maxDraw yieldFlag floor => Sys2Proof.Machine.execCircuitConfig h circuit maxDraw yieldFlag floor s
  | .sceneWrite h start count scenes => Sys2Proof.Machine.execSceneWrite h start count scenes s
  | .sceneRead h start count => Sys2Proof.Machine.execSceneRead h start count s
  | .sceneApply h scene fade => Sys2Proof.Machine.execSceneApply h scene fade s
  | .lightMode h mode first last => Sys2Proof.Machine.execLightMode h mode first last s
  | .duskWrite h start entries => Sys2Proof.Machine.execDuskWrite h start entries s
  | .duskRead h start count => Sys2Proof.Machine.execDuskRead h start count s
  | .scheduleWrite h entry enable classes trigger value scene fade => Sys2Proof.Machine.execScheduleWrite h entry enable classes trigger value scene fade s
  | .scheduleRead h start count => Sys2Proof.Machine.execScheduleRead h start count s
  | .lightRead h => Sys2Proof.Machine.execLightRead h s
  | .receiveByte link byte => Sys2Proof.Machine.execReceiveByte link byte s
  | .receiveTimeout link => Sys2Proof.Machine.execReceiveTimeout link s
  | .replySent link => Sys2Proof.Machine.execReplySent link s
  | .chamberKeyChange position => Sys2Proof.Machine.execChamberKeyChange position s
  | .slewSecondAdjust => Sys2Proof.Machine.execSlewSecondAdjust s
  | .rangeEnd => Sys2Proof.Machine.execRangeEnd s
  | .dayClassRenewal => Sys2Proof.Machine.execDayClassRenewal s
  | .referencePulse => Sys2Proof.Machine.execReferencePulse s
  | .referenceGap => Sys2Proof.Machine.execReferenceGap s
  | .timerExpired timer => Sys2Proof.Machine.execTimerExpired timer s
  | .dialTargetChange channel => Sys2Proof.Machine.execDialTargetChange channel s
  | .dialImpulseStart channel => Sys2Proof.Machine.execDialImpulseStart channel s
  | .dialImpulseEnd channel datum => Sys2Proof.Machine.execDialImpulseEnd channel datum s
  | .dialDriverFault channel => Sys2Proof.Machine.execDialDriverFault channel s
  | .clockEventBuild => Sys2Proof.Machine.execClockEventBuild s
  | .dueStart id => Sys2Proof.Machine.execDueStart id s
  | .performanceDeadline id => Sys2Proof.Machine.execPerformanceDeadline id s
  | .rowEmission => Sys2Proof.Machine.execRowEmission s
  | .strikeEntryTaken => Sys2Proof.Machine.execStrikeEntryTaken s
  | .hammerPulseEnd bell faultInput => Sys2Proof.Machine.execHammerPulseEnd bell faultInput s
  | .hammerRecoveryEnd bell => Sys2Proof.Machine.execHammerRecoveryEnd bell s
  | .hammerConfirmAsserted bell => Sys2Proof.Machine.execHammerConfirmAsserted bell s
  | .hammerConfirmCleared bell => Sys2Proof.Machine.execHammerConfirmCleared bell s
  | .withdrawConfirmTimeout bell => Sys2Proof.Machine.execWithdrawConfirmTimeout bell s
  | .engageClearTimeout bell => Sys2Proof.Machine.execEngageClearTimeout bell s
  | .staggerEnd channel => Sys2Proof.Machine.execStaggerEnd channel s
  | .raiseRefused => Sys2Proof.Machine.execRaiseRefused s
  | .passPulse channel direction => Sys2Proof.Machine.execPassPulse channel direction s
  | .arcPulse channel => Sys2Proof.Machine.execArcPulse channel s
  | .drivePulseEnd channel => Sys2Proof.Machine.execDrivePulseEnd channel s
  | .raiseNoPass channel => Sys2Proof.Machine.execRaiseNoPass channel s
  | .raiseLimitEnd channel => Sys2Proof.Machine.execRaiseLimitEnd channel s
  | .swingPassWatchEnd channel => Sys2Proof.Machine.execSwingPassWatchEnd channel s
  | .durationEnd channel => Sys2Proof.Machine.execDurationEnd channel s
  | .loweringPassWatchEnd channel => Sys2Proof.Machine.execLoweringPassWatchEnd channel s
  | .settleWatchEnd channel => Sys2Proof.Machine.execSettleWatchEnd channel s
  | .fadeStep circuit => Sys2Proof.Machine.execFadeStep circuit s
  | .scheduleEvaluation => Sys2Proof.Machine.execScheduleEvaluation s
  | .putaway => Sys2Proof.Machine.execPutaway s
  | .supplyRecovered => Sys2Proof.Machine.execSupplyRecovered s
  | .powerUp => Sys2Proof.Machine.execPowerUp s
  | .resetLineAssert => Sys2Proof.Machine.execResetLineAssert s
  | .resetLineRelease => Sys2Proof.Machine.execResetLineRelease s
  | .supplyLost => Sys2Proof.Machine.execSupplyLost s

end Sys2Proof.Machine
end

