-- ==== Sys2Proof/Machine/Step.lean ====
section
/-! DEFINITION. One step: the command at the front of the queue is run; on an empty queue time passes. -/

namespace Sys2Proof.Machine

open Sys2Proof

/-- One step. A waiting command is taken from the front of the queue and run with the queue's rest. On an
empty queue an event that is due is run, and when none is due one millisecond passes
(R1; DESIGN CHOICE, log entry 1). -/
def step (s : State) : Host.Outcome State Fault Refusal :=
  match s.pending with
  | c :: rest => exec c { s with pending := rest }
  | [] =>
    match timeCommand s with
    | some c => exec c s
    | none => .next (countMs s)

/-- The state with the command a table word spells put at the front of the queue. -/
def State.withFetchWord (s : State) (nbits w : Nat) : State :=
  match decodeTableWord nbits w with
  | some i => { s with pending := i :: s.pending }
  | none => s

end Sys2Proof.Machine
end

