-- ==== Sys2Proof/WellFormed.lean ====
section
/-! DEFINITION. The commands the outside can send: the numbers of a request fit the fields of its frame
(R166, R185 to R188), its lists fit their counts, and an event names a unit that exists. A request that
is well formed may still be refused by its rule. -/

namespace Sys2Proof

open Sys2Proof.Machine

/-- A whole number of one byte. -/
def fitsByte (n : Nat) : Bool := decide (n < 256)

/-- A whole number of two bytes. -/
def fitsWord (n : Nat) : Bool := decide (n < 65536)

/-- A number whose width the manual does not give: it fits the widest field there is (R185). -/
def fitsField (n : Nat) : Bool := decide (n < 2 ^ 48)

/-- A signed number that fits the widest field. -/
def fitsSignedField (n : Int) : Bool := decide (-(2 ^ 47) ≤ n ∧ n < 2 ^ 47)

/-- A signed number of `bits` bits. -/
def fitsSigned (bits : Nat) (n : Int) : Bool := decide (-(2 ^ (bits - 1) : Int) ≤ n ∧ n < (2 ^ (bits - 1) : Int))

/-- A list of numbers a frame can carry: at most 248 bytes of payload (R166). -/
def fitsList (ns : List Nat) : Bool := decide (ns.length ≤ 248) && ns.all fitsField

/-- A list of pairs a frame can carry. -/
def fitsPairs (es : List (Nat × Nat)) : Bool := decide (es.length ≤ 124) && es.all (fun e => fitsField e.1 && fitsField e.2)

/-- A change that a byte pair can carry as present (R188). -/
def presentChange (c : Option (BitVec 16)) : Bool := c != some 0xFFFF

/-- A request's header: the tag is one byte (R166). -/
def wfHeader (h : Header) : Bool := fitsByte h.tag

/-- CHIME-WRITE's lists and bytes fit (R188). -/
def wfChime (k p n : Nat) (tunes : List Nat) (step : Nat) (pointer : Option Nat) : Bool :=
  fitsByte k && fitsByte p && decide (n ≤ 4) && decide (tunes.length = n) && tunes.all fitsByte && fitsByte step
    && pointer.all (fun x => decide (x < 255))

/-- METHOD-WRITE's lists and bytes fit (R188). -/
def wfMethod (k n : Nat) (bells : List Nat) (cover m : Nat) (lead : List (BitVec 16)) (bob single : Option (BitVec 16)) :
    Bool :=
  fitsByte k && decide (bells.length = n) && bells.all fitsByte && fitsByte cover && decide (lead.length = m)
    && within 16 84 (8 + n + 2 * m) && presentChange bob && presentChange single

/-- A year field: absent, or a number of two bytes that is not the code for ANY (R188). -/
def wfYear (year : Option Nat) : Bool := year.all (fun y => decide (1 ≤ y ∧ y < 65536))

/-- The command can be sent. -/
def WellFormed (i : Instr) : Bool :=
  (headerOf i).all wfHeader &&
  match i with
  | .identify _ | .linkStats _ | .modeSetMaintenance _ | .modeSetRun _ | .reset _ | .timeRead _ | .timerRead _
  | .queueRead _ | .clockstrikeRead _ | .silenceRead _ | .touchRead _ | .allowanceRead _ | .lightRead _ => true
  | .noticeRead _ n | .faultClearDial _ n | .faultClearHammer _ n | .faultClearSwing _ n | .referenceSet _ n
  | .timerStop _ n | .dialHold _ n | .dialRelease _ n | .dialRead _ n | .tuneClear _ n | .tuneRead _ n | .chimeRead _ n
  | .hush _ n | .hammerRead _ n | .methodClear _ n | .methodRead _ n | .swingProgramRead _ n
  | .swingProgramStart _ n => fitsByte n
  | .noticeMask _ a b => fitsList a && fitsList b
  | .noticeClear _ ks => ks.all fitsList
  | .unknownKind _ k => fitsByte k && !namesRequest k
  | .timeSet _ y m d t => fitsField y && fitsField m && fitsField d && fitsField t
  | .zoneSet _ z => fitsSignedField z
  | .classWrite _ r c a b => fitsField r && c.all fitsField && fitsField a && fitsField b
  | .weekdayWrite _ cs => fitsList cs
  | .calendarWrite _ m d y c => fitsByte m && fitsByte d && wfYear y && fitsByte c
  | .calendarDelete _ m d y => fitsByte m && fitsByte d && wfYear y
  | .calendarRead _ p a n => fitsField p && fitsField a && fitsField n
  | .timerStart _ n d m a x f =>
    fitsField n && fitsField d && fitsField m && fitsField a && fitsField x && fitsField f
  | .dialConfig _ c k i g w f =>
    fitsField c && fitsField k && fitsField i && fitsField g && fitsField w && fitsField f
  | .dialSetPosition _ c p q => fitsField c && fitsField p && q.all fitsField
  | .scoreWindow _ a b c d => fitsField a && fitsField b && fitsField c && fitsField d
  | .scoreWrite _ f n p => fitsByte f && fitsByte n && decide (p.length ≤ 246)
  | .scoreRead _ r c n => fitsField r && fitsField c && fitsField n
  | .scoreProtect _ a b c => fitsField a && fitsField b && fitsField c
  | .tuneWrite _ n a i b c p t x w =>
    fitsByte n && fitsWord a && fitsByte i && fitsByte b && fitsByte c && fitsByte p && fitsWord t && fitsSigned 8 x
      && fitsByte w
  | .chimeWrite _ k p n ts st q => wfChime k p n ts st q
  | .playTune _ n x a w => fitsField n && x.all fitsSignedField && a.all fitsField && fitsField w
  | .toll _ b v i n f a w =>
    fitsField b && fitsField v && fitsField i && fitsField n && fitsField f && a.all fitsField && fitsField w
  | .clockstrikeConfig _ b v i g => fitsField b && fitsField v && fitsField i && fitsField g
  | .silenceWrite _ e on a b c k =>
    fitsField e && fitsField on && fitsField a && fitsField b && fitsField c && fitsField k
  | .hammerConfig _ b l d w f => fitsByte b && fitsWord l && fitsWord d && fitsByte w && fitsByte f
  | .strikeQueueRead _ a n => fitsField a && fitsField n
  | .testStroke _ b v => fitsField b && fitsField v
  | .methodWrite _ k n bs c m l bob single => wfMethod k n bs c m l bob single
  | .touchStart _ k v b o c m cs =>
    fitsField k && fitsField v && fitsField b && fitsField o && fitsField c && fitsField m && fitsPairs cs
  | .swingConfig _ c b d r k m t f =>
    fitsByte c && fitsByte b && fitsWord d && fitsByte r && fitsByte k && fitsByte m && fitsByte t && fitsByte f
  | .swingStart _ es d => fitsPairs es && fitsField d
  | .swingStop _ cs => cs.all fitsList
  | .swingProgramWrite _ k es d => fitsField k && fitsPairs es && fitsField d
  | .swingRead _ a n => fitsField a && fitsField n
  | .allowanceSet _ u => fitsField u
  | .circuitConfig _ c d y f => fitsByte c && fitsByte d && fitsByte y && fitsByte f
  | .sceneWrite _ a n xs => fitsByte a && fitsByte n && decide (xs.length ≤ 13)
  | .sceneRead _ a n => fitsField a && fitsField n
  | .sceneApply _ n f => fitsField n && fitsField f
  | .lightMode _ m a b => fitsField m && fitsField a && fitsField b
  | .duskWrite _ a es => fitsField a && fitsPairs es
  | .duskRead _ a n => fitsField a && fitsField n
  | .scheduleWrite _ e on m t v n f =>
    fitsByte e && fitsByte on && fitsByte m && fitsByte t && fitsSigned 16 v && fitsByte n && fitsWord f
  | .scheduleRead _ a n => fitsField a && fitsField n
  | .receiveByte _ _ | .receiveTimeout _ | .replySent _ | .chamberKeyChange _ | .slewSecondAdjust | .rangeEnd
  | .dayClassRenewal | .referencePulse | .referenceGap | .clockEventBuild | .rowEmission | .strikeEntryTaken
  | .raiseRefused | .scheduleEvaluation | .putaway | .supplyRecovered | .powerUp | .resetLineAssert
  | .resetLineRelease | .supplyLost => true
  | .timerExpired n => within 1 2 n
  | .dialTargetChange c | .dialImpulseStart c | .dialImpulseEnd c _ | .dialDriverFault c => within 1 4 c
  | .dueStart id | .performanceDeadline id => within 1 255 id
  | .hammerPulseEnd b _ | .hammerRecoveryEnd b | .hammerConfirmAsserted b | .hammerConfirmCleared b
  | .withdrawConfirmTimeout b | .engageClearTimeout b => within 1 24 b
  | .staggerEnd c | .passPulse c _ | .arcPulse c | .drivePulseEnd c | .raiseNoPass c | .raiseLimitEnd c
  | .swingPassWatchEnd c | .durationEnd c | .loweringPassWatchEnd c | .settleWatchEnd c => within 1 12 c
  | .fadeStep c => within 1 16 c

end Sys2Proof
end

