-- ==== Sys2Proof/Safety.lean ====
section
/-! DEFINITION. What counts as a safe run, and the words the statements are made in: when a request can be
taken, what a reply leaves, and the invariants the manual gives of the part's blocks. -/

namespace Sys2Proof.Machine

open Sys2Proof

/-! ## Requests -/

/-- A request on this link is taken: the part is in operation and the link's last reply has been sent in
full (R168, R179). -/
def Taken (h : Header) (s : State) : Prop := s.power.operating = true ∧ (s.link h.link).reply = none

/-- The state with a reply standing on the request's link: its kind the request's plus 0x80, its tag the
request's (R169). -/
def replied (h : Header) (kind : Nat) (st : Status) (b : Body) (s : State) : State :=
  s.withLink h.link
    { s.link h.link with reply := some { kind := replyKind kind, tag := h.tag, status := st, body := b } }

/-- The request's own link's score stream is closed (R43). -/
def closed (h : Header) (s : State) : State := closeStream h.link s

/-- The chamber key selects the request's link (R172). -/
def keySelects (h : Header) (s : State) : Prop := h.link = s.key

/-- A request as the manual uses the word: a command with a header whose kind, unless it is sent as an
unknown kind, names it. -/
def IsRequest (i : Instr) (h : Header) (kind : Nat) : Prop :=
  headerOf i = some h ∧ kindCode i = some kind ∧ (∀ h' k, i = .unknownKind h' k → namesRequest k = false)

/-- The command is answered on its link with this status and body, and otherwise leaves the state `t`. -/
def answers (i : Instr) (h : Header) (kind : Nat) (s : State) (st : Status) (b : Body) (t : State) : Prop :=
  exec i s = .next (replied h kind st b t)

/-- The state after some commands, one after another. -/
def after (cs : List Instr) (s : State) : State := cs.foldl (fun s c => answered s (exec c s)) s

/-- An event of a block: neither a request, nor a level of an input or of the supply. -/
def isBlockEvent : Instr → Bool
  | .hammerConfirmAsserted _ | .hammerConfirmCleared _ | .chamberKeyChange _ | .rangeEnd | .putaway | .supplyRecovered
  | .powerUp | .resetLineAssert | .resetLineRelease | .supplyLost => false
  | i => (headerOf i).isNone

/-! ## Links and notices (R174) -/

/-- A link's notice sets: no kind is both pending and held, no transient kind is held, no count exceeds
255 (R174). -/
def LinkState.noticesOk (l : LinkState) : Prop :=
  ∀ k : Fin 18,
    (l.pending[k] = 0 ∨ l.held[k] = 0) ∧ (latched (k.val + 1) = false → l.held[k] = 0) ∧ l.pending[k] ≤ 255
      ∧ l.held[k] ≤ 255

/-- Both links' notice sets are as R174 has them. -/
def noticesOk (s : State) : Prop := s.panel.noticesOk ∧ s.chamber.noticesOk

/-! ## Tower time (R12, R15) -/

/-- A step record has been published: the instant, validity and today's class have their new values, TIME-STEPPED
stands, and what no step touches is as it was in `s` (R12). -/
def Stepped (cause : StepCause) (step : Int) (new : Nat) (after : Validity) (s t : State) : Prop :=
  t.time.instant = new ∧ t.time.validity = after
    ∧ nth t.details 1
        = some { instant := new, detail := .timeStepped step cause s.time.instant new s.time.validity after }
    ∧ (t.calendar.today, t.calendar.source) = classOf t.calendar (dayOf new) ∧ t.calendar.todayDay = dayOf new
    ∧ t.calendar.entries = s.calendar.entries ∧ t.calendar.weekdays = s.calendar.weekdays
    ∧ t.calendar.classes = s.calendar.classes ∧ t.time.refEnabled = s.time.refEnabled ∧ t.timers = s.timers
    ∧ t.score = s.score ∧ t.tunes = s.tunes ∧ t.methods = s.methods ∧ t.programs = s.programs ∧ t.power = s.power
    ∧ t.maintenance = s.maintenance

/-- The calendar's entries stand in ascending key order, no two with one key (R15). -/
def calendarOk (es : List CalEntry) : Prop := es.Pairwise (fun a b => keyBefore a.key b.key = true)

/-! ## The score memory (R40 to R42) -/

/-- A window lies in the memory with its cursor inside it (R42). -/
def Window.inMemory (w : Window) : Prop :=
  w.lastRow < 1024 ∧ w.firstRow ≤ w.lastRow ∧ 1 ≤ w.firstCol ∧ w.firstCol ≤ w.lastCol ∧ w.lastCol ≤ 24
    ∧ w.firstRow ≤ w.row ∧ w.row ≤ w.lastRow ∧ w.firstCol ≤ w.col ∧ w.col ≤ w.lastCol

/-- The score memory has its form, and both links' windows lie in it (R40 to R42). -/
def scoreOk (s : State) : Prop := Memory.wf s.score = true ∧ ∀ l, (s.link l).window.inMemory

/-! ## The performance queue (R60, R61) -/

/-- The performance queue is as R61 has it: at most 8 performances in queue order, no two with one id, ids and the
next-id counter in 1..255, at most one ACTIVE and at most one touch; and no clock event is PAUSED (R73). -/
def queueOk (s : State) : Prop :=
  let q := s.arbiter.queue
  q.length ≤ 8 ∧ q.Pairwise (fun a b => a.before b = true) ∧ (q.map (·.id)).Nodup
    ∧ (∀ p ∈ q, 1 ≤ p.id ∧ p.id ≤ 255) ∧ 1 ≤ s.arbiter.nextId ∧ s.arbiter.nextId ≤ 255
    ∧ (q.filter (·.state == .active)).length ≤ 1 ∧ (q.filter (·.cls == .touch)).length ≤ 1
    ∧ ∀ p ∈ q, p.isClock = true → p.state ≠ .paused

/-! ## The truth of a touch (R114) -/

/-- Where a truth map is held, the marks are distinct, and from go on the marks set plus the false rows are one plus
the changed rows; before go no row has been changed. A touch that waits has not begun. -/
def truthOk (s : State) : Prop :=
  (∀ ms, s.touch.marks = some ms →
      if s.touch.phase = .opening then s.touch.changedRows = 0 ∧ s.touch.falseRows = 0
      else ms.Nodup ∧ ms.length + s.touch.falseRows = 1 + s.touch.changedRows)
    ∧ ∀ p ∈ s.arbiter.queue, p.cls = .touch → p.state = .waiting → s.touch.phase = .opening

/-! ## The tower supply (R139, R140) -/

/-- The commitment is within the allowance. -/
def withinAllowance (s : State) : Prop := commitment s ≤ s.allowance.units

/-- What the commitment rests on: no hold load above its raise load (R119, R120), every fade on the line of R153, and no
fade on a circuit that is forced (R153, R159). -/
def loadsOk (s : State) : Prop :=
  (∀ c ∈ numbers 1 12, (s.swing c).cfg.holdLoad ≤ (s.swing c).cfg.raiseLoad)
    ∧ ∀ c ∈ numbers 1 16, ∀ f, (s.circuit c).fade = some f →
        (s.circuit c).forced = false ∧ f.done < f.total
          ∧ ((s.circuit c).output : Int) = f.start + Int.tdiv ((((s.circuit c).target : Int) - f.start) * f.done) f.total

/-- Nothing is left over in the allowance from an earlier command: no head still to be tried, no release
still to be worked through (R141, R147). -/
def nothingDue (s : State) : Prop := s.allowance.headDue = false ∧ s.allowance.releaseDue = false

/-- The raise queue holds the channels in QUEUED, each once, and no other (R122, R141). -/
def raiseQueueOk (s : State) : Prop :=
  s.allowance.queue.Nodup
    ∧ ∀ c, c ∈ s.allowance.queue ↔ (c ∈ numbers 1 12 ∧ (s.swing c).state = .queued)

/-! ## Hammers and bells (R131) -/

/-- A hammer is clear of its bell: it is withdrawn or on its way, or faulted, or, while its swing channel is
RESTORING, on its way back (R131). -/
def Hammer.clearOf (h : Hammer) (x : SwingState) : Prop :=
  h.state = .withdrawing ∨ h.state = .withdrawn ∨ h.state = .fault ∨ x = .restoring ∧ h.state = .engaging

/-- The hammer of every swing bell that may be moving is clear of it (R131). -/
def hammersClear (s : State) : Prop :=
  ∀ c ∈ numbers 1 12, (s.swing c).state ≠ .down → (s.swing c).state ≠ .queued →
    (s.hammer (s.swing c).cfg.bell).clearOf (s.swing c).state

/-- Every swing channel is tied to one of the bells 1..24, no two to the same (R119). -/
def tiesOk (s : State) : Prop :=
  (∀ c ∈ numbers 1 12, within 1 24 (s.swing c).cfg.bell = true)
    ∧ ∀ c ∈ numbers 1 12, ∀ d ∈ numbers 1 12, c ≠ d → (s.swing c).cfg.bell ≠ (s.swing d).cfg.bell

/-! ## Out of operation, and the restart (R178 to R182) -/

/-- Every output is inactive, nothing is in progress and both links' sets are empty (R33, R178, R179). -/
def outputsInactive (s : State) : Prop :=
  (∀ c ∈ numbers 1 4, (s.dial c).impulse = none ∧ (s.dial c).holdPending = false)
    ∧ (∀ b ∈ numbers 1 24, (s.hammer b).pulseEnds = none ∧ (s.hammer b).withdrawOutput = false)
    ∧ (∀ c ∈ numbers 1 12, (s.swing c).drive = none)
    ∧ (∀ c ∈ numbers 1 16, (s.circuit c).output = 0 ∧ (s.circuit c).fade = none)
    ∧ ∀ l, (∀ k ∈ numbers 1 18, nth (s.link l).pending k = 0 ∧ nth (s.link l).held k = 0)
        ∧ (s.link l).attention = false ∧ (s.link l).reply = none

/-- The settings of the retained area are the same in both states (R180): all of it but the served marker, the
timers and the putaway marker. -/
def sameSettings (s t : State) : Prop :=
  t.time.instant = s.time.instant ∧ t.time.validity = s.time.validity ∧ t.time.zone = s.time.zone
    ∧ t.time.refEnabled = s.time.refEnabled ∧ t.calendar.classes = s.calendar.classes
    ∧ t.calendar.weekdays = s.calendar.weekdays ∧ t.calendar.entries = s.calendar.entries
    ∧ (∀ c ∈ numbers 1 4, (t.dial c).cfg = (s.dial c).cfg ∧ (t.dial c).pos = (s.dial c).pos
        ∧ (t.dial c).polarity = (s.dial c).polarity ∧ (t.dial c).known = (s.dial c).known
        ∧ (t.dial c).hold = (s.dial c).hold)
    ∧ t.score = s.score ∧ t.tunes = s.tunes ∧ t.chimes = s.chimes ∧ t.arbiter.clockStrike = s.arbiter.clockStrike
    ∧ t.arbiter.silence = s.arbiter.silence
    ∧ (∀ b ∈ numbers 1 24, (t.hammer b).lead = (s.hammer b).lead ∧ (t.hammer b).recovery = (s.hammer b).recovery
        ∧ (t.hammer b).width = (s.hammer b).width ∧ (t.hammer b).fitted = (s.hammer b).fitted)
    ∧ t.methods = s.methods ∧ (∀ c ∈ numbers 1 12, (t.swing c).cfg = (s.swing c).cfg) ∧ t.programs = s.programs
    ∧ t.allowance.units = s.allowance.units
    ∧ (∀ c ∈ numbers 1 16, (t.circuit c).maxDraw = (s.circuit c).maxDraw ∧ (t.circuit c).yields = (s.circuit c).yields
        ∧ (t.circuit c).floor = (s.circuit c).floor)
    ∧ t.lights.scenes = s.lights.scenes ∧ t.lights.mode = s.lights.mode ∧ t.lights.first = s.lights.first
    ∧ t.lights.last = s.lights.last ∧ t.lights.dusk = s.lights.dusk ∧ t.lights.schedule = s.lights.schedule

/-- The volatile state at the start of operation that does not depend on the settings (R182). -/
def freshStart (t : State) : Prop :=
  t.power.operating = true ∧ t.power.markerGood = false ∧ t.maintenance = false ∧ t.time.slew = 0
    ∧ t.time.lastError = none ∧ t.time.refState = (if t.time.refEnabled then .seeking else .off)
    ∧ t.calendar.todayDay = dayOf t.time.instant
    ∧ (t.calendar.today, t.calendar.source) = classOf t.calendar (dayOf t.time.instant)
    ∧ (∀ p ∈ t.arbiter.queue, p.isClock = true ∧ p.state = .waiting) ∧ t.strikes = [] ∧ t.touch = Touch.initial
    ∧ t.allowance.queue = []
    ∧ ∀ l, (t.link l).receiver.state = .hunt ∧ (t.link l).counters.clear = true
        ∧ (t.link l).unmasked = (match l with | .panel => panelMask | .chamber => chamberMask)
        ∧ (t.link l).reply = none ∧ (t.link l).window = Window.initial ∧ (t.link l).attention = true

/-- The channels at the start of operation (R39, R101, R137, R151, R182). -/
def freshChannels (s t : State) : Prop :=
  (∀ c ∈ numbers 1 4, (t.dial c).fault = false ∧ (t.dial c).holdPending = false
      ∧ (0 < (t.dial c).cfg.gap → (t.dial c).impulse = none))
    ∧ (∀ b ∈ numbers 1 24, (t.hammer b).recoveryEnd = none ∧ (t.hammer b).actuatorFault = false
        ∧ (t.hammer b).pulseEnds = none
        ∧ (t.hammer b).state =
            (if (tiedChannel t b).isNone then .ready
              else if (t.hammer b).fitted && !(s.hammer b).confirm then .withdrawing else .withdrawn))
    ∧ (∀ c ∈ numbers 1 12, (t.swing c).state = .settling ∧ (t.swing c).start = none
        ∧ (t.swing c).settleEnds = some (t.elapsed + (t.swing c).cfg.settle * 1000))
    ∧ ∀ c ∈ numbers 1 16, (t.circuit c).preYield = none

/-- The timers at the start of operation: one that ran out meanwhile is IDLE, with TIMER-EXPIRED (R21, R182). -/
def timersLapsed (s t : State) : Prop :=
  ∀ n ∈ numbers 1 2,
    t.timer n = (if ranOut s (s.timer n).ends then { s.timer n with ends := none } else s.timer n)
      ∧ (ranOut s (s.timer n).ends = true → (nth t.details 16).isSome = true)

/-- The part restarts from `s` with a cause, its retained area lost or kept, and starts operation in `t`
(R180, R182). -/
def Restarts (cause : RestartCause) (lost : Bool) (s t : State) : Prop :=
  sameSettings (if lost then State.reset else s) t ∧ freshStart t ∧ freshChannels s t
    ∧ timersLapsed { (if lost then State.reset else s) with elapsed := s.elapsed } t ∧ t.elapsed = s.elapsed
    ∧ nth t.details 17 = some { instant := t.time.instant, detail := .restarted cause lost t.time.validity }
    ∧ (∀ l, nth (t.link l).pending 17 = 1) ∧ t.key = s.key ∧ t.pending = s.pending

/-! ## The lights -/

/-- The level granted to a circuit that is to stand at `d`: what the load free beside its own share allows (R146). -/
def levelFor (s : State) (c d : Nat) : Nat :=
  let x := s.circuit c
  if x.maxDraw = 0 then d else min d (min 255 ((s.allowance.units - (commitment s - x.share)) * 255 / x.maxDraw))

/-- The circuit takes a target, and its output fades there over 5 s unless it is there already (R153). -/
def Circuit.towards (x : Circuit) (target elapsed : Nat) : Circuit :=
  { x with
    target := target
    fade := if x.output = target then none else some { start := x.output, done := 0, total := 50, began := elapsed } }

/-- The circuit is granted a level; it is held where the grant falls short and it is not yielded, with LOAD-HELD where
it was not held before (R146). -/
def grantedAt (s : State) (c d : Nat) : State :=
  let x := s.circuit c
  let g := levelFor s c d
  let held := g < d ∧ x.preYield = none
  let u :=
    if held ∧ x.desired = none then raise (.loadHeld c d g (s.allowance.units - (commitment s - x.share))) s else s
  u.withCircuit c { x.towards g s.elapsed with desired := if held then some d else none }

/-- A yielded circuit is restored at its pre-yield level, and a forced one takes it as its target (R145, R152). -/
def restoredAt (s : State) (c : Nat) : State :=
  let x := s.circuit c
  match x.preYield with
  | none => s
  | some d =>
    if x.forced then s.withCircuit c { x with target := d, desired := none, preYield := none }
    else grantedAt (s.withCircuit c { x with preYield := none }) c d

/-- A held circuit that is not forced takes a greater grant, and is held no more where that is what it desires (R147). -/
def retriedAt (s : State) (c : Nat) : State :=
  let x := s.circuit c
  match x.desired with
  | none => s
  | some d =>
    let g := levelFor s c d
    if x.forced = false ∧ x.target < g then
      s.withCircuit c { x.towards g s.elapsed with desired := if g = d then none else some d }
    else s

/-- No head can be admitted, and none has yield still to be ordered for it (R142, R144). -/
def headStays (s : State) : Prop :=
  ∀ c, s.allowance.queue.head? = some c →
    s.allowance.units < (s.swing c).cfg.raiseLoad + commitment s ∧ s.allowance.yieldOrdered = true

/-- What a release gives the circuits, each in ascending number: with no raise pending the yielded ones are restored, and
then the held ones are tried again (R145, R147). -/
def lightsReleased (s : State) : State :=
  (numbers 1 16).foldl retriedAt
    (if s.allowance.queue ≠ [] ∨ ∃ c ∈ numbers 1 12, (s.swing c).state = .clearing ∨ (s.swing c).state = .raising then s
      else (numbers 1 16).foldl restoredAt s)

/-! ## A safe run -/

/-- A safe state: the score memory in its form, the notice sets as R174 has them, the commitment within the
allowance, and every hammer clear of a bell that may be moving. -/
def Safe (s : State) : Prop :=
  Memory.wf s.score = true ∧ noticesOk s ∧ withinAllowance s ∧ tiesOk s ∧ hammersClear s

end Sys2Proof.Machine
end

