-- ==== Sys2Proof/Certificates/Slice0/Obligations.lean ====
section
/-! DEFINITION. The statements about the part, chapter by chapter. -/

section Statements

open Sys2Proof Sys2Proof.Machine

/-! ## Steps and requests (R168, R169, R178, R179) -/

/-- A step takes the command at the front of the queue and runs it with the queue's rest. -/
def Obligations.StepRunsFrontCommand : Prop :=
  ∀ (c : Instr) (rest : List Instr) (s : State),
    s.pending = c :: rest → step s = exec c { s with pending := rest }

/-- Every command in every state leads on to a next state, and none touches the commands that wait. The model's choice
(log entry 1): on an empty queue a step runs the event that is due, and when none is due the timebase counts one
millisecond, with the tower instant unless it has stopped. R16: a count that passes into a new day, in operation,
renews today's class with it. -/
def Obligations.StepsNeverStop : Prop :=
  (∀ (i : Instr) (s : State), ∃ t, exec i s = .next t ∧ t.pending = s.pending)
    ∧ (∀ s : State, s.pending = [] →
       (∀ c, timeCommand s = some c → step s = exec c s)
         ∧ (timeCommand s = none → s.time.stopped = true → step s = .next { s with elapsed := s.elapsed + 1 })
         ∧ (timeCommand s = none → s.time.stopped = false →
             let now := s.time.instant + 1
             let u : State :=
               { s with
                 elapsed := s.elapsed + 1
                 time :=
                   { s.time with instant := now, secondServed := if now % 1000 = 0 then false else s.time.secondServed } }
             let x := classOf s.calendar (now / 86400000)
             step s = .next
               (if s.power.operating = true ∧ now / 86400000 ≠ s.calendar.todayDay then
                 { u with calendar := { s.calendar with today := x.1, source := x.2, todayDay := now / 86400000 } }
               else u)))

/-- R169: a request that is taken is answered on its own link, with its kind plus 0x80 (0xFF where that does not fit) and
its tag; the other link's reply is not touched. R169: a request answered with a status other than OK changes no state
but its link's reply and its own link's score stream, which closes. -/
def Obligations.RequestsAreAnswered : Prop :=
  (∀ (i : Instr) (h : Header) (k : Nat) (s : State), IsRequest i h k → Taken h s →
     ∃ t st b, exec i s = .next t
       ∧ (t.link h.link).reply
           = some { kind := if k < 0x80 then k + 0x80 else 0xFF, tag := h.tag, status := st, body := b }
       ∧ ∀ l, l ≠ h.link → (t.link l).reply = (s.link l).reply)
    ∧ (∀ (i : Instr) (h : Header) (k : Nat) (s t : State) (r : Reply), IsRequest i h k → Taken h s → exec i s = .next t →
       (t.link h.link).reply = some r → r.status ≠ .ok → t = replied h k r.status r.body (closed h s))

/-- R168, R170: a request that comes before the reply to the last one has been sent in full is discarded: its link's
overrun counter rises by 1, stopping at 65,535, LINK-ERRORS is raised when all four counters stood at 0, and nothing
else changes. R178, R179, R181: out of operation no request is taken and no event of any block is acted on. -/
def Obligations.RequestsNotTaken : Prop :=
  (∀ (i : Instr) (h : Header) (k : Nat) (s : State), IsRequest i h k → s.power.operating = true →
     (s.link h.link).reply ≠ none →
     let c := (s.link h.link).counters
     let s1 := s.withLink h.link
       { s.link h.link with counters := { c with overrun := if c.overrun < 65535 then c.overrun + 1 else 65535 } }
     exec i s = .next
       (if c.badCrc = 0 ∧ c.badLength = 0 ∧ c.timeout = 0 ∧ c.overrun = 0 then raise (.linkErrors h.link .overrun) s1
         else s1))
    ∧ (∀ (i : Instr) (s : State), s.power.operating = false →
       ((∃ h k, IsRequest i h k) ∨ isBlockEvent i = true) → exec i s = .next s)


/-! ## Links and notices (R166 to R177) -/

/-- R171: IDENTIFY gives the vendor, part and revision, the sixteen capacities, the link on which the request arrived and
the position of the key, and changes no state; it and LINK-STATS are taken in every state in which a request is taken.
R170: LINK-STATS gives its own link's four counters and clears them. R169: a kind that names no request is answered
UNKNOWN-KIND with no further payload. -/
def Obligations.IdentifyAndLinkStats : Prop :=
  ∀ (h : Header) (s : State), Taken h s →
    answers (.identify h) h 0x01 s .ok
        (.identity 0x54 0x0412 1 [24, 12, 4, 16, 1024, 32, 8, 8, 64, 48, 53, 64, 16, 8, 48, 18] h.link s.key) (closed h s)
      ∧ (let l := (closed h s).link h.link
         let c := l.counters
         answers (.linkStats h) h 0x02 s .ok (.counters c.badCrc c.badLength c.timeout c.overrun)
          ((closed h s).withLink h.link
            { l with counters := { badCrc := 0, badLength := 0, timeout := 0, overrun := 0 } }))
      ∧ ∀ k, namesRequest k = false → answers (.unknownKind h k) h k s .unknownKind .none (closed h s)

/-- R174: a notice replaces its kind's detail record, and on each link the kind joins the pending set or counts up there
when it is unmasked, joins the held set or counts up there when it is masked and latched, and is dropped when it is
masked and transient. Counts stop at 255, and no other kind is touched. -/
def Obligations.NoticeRaised : Prop :=
  ∀ (d : Detail) (s : State), let k := d.kind; let t := raise d s
    nth t.details k = some { instant := s.time.instant, detail := d }
      ∧ (∀ l, (nth (s.link l).unmasked k = true →
            nth (t.link l).pending k = min 255 (nth (s.link l).pending k + 1)
              ∧ nth (t.link l).held k = nth (s.link l).held k ∧ (t.link l).attention = true)
          ∧ (nth (s.link l).unmasked k = false → latched k = true →
            nth (t.link l).held k = min 255 (nth (s.link l).held k + 1)
              ∧ (t.link l).pending = (s.link l).pending)
          ∧ (nth (s.link l).unmasked k = false → latched k = false → t.link l = s.link l))
      ∧ ∀ j ∈ numbers 1 18, j ≠ k → nth t.details j = nth s.details j
          ∧ ∀ l, nth (t.link l).pending j = nth (s.link l).pending j ∧ nth (t.link l).held j = nth (s.link l).held j

/-- R175, R177: what NOTICE-MASK and NOTICE-CLEAR do to each kind of their own link's mask and sets. R176, R189:
NOTICE-READ gives, from the start kind upward in kind order, as many whole entries of its own link's pending kinds as
fit in 246 bytes, and the first pending kind not given or 0; it changes nothing. -/
def Obligations.NoticeRequests : Prop :=
  (∀ (h : Header) (s : State), Taken h s →
     (∀ toMask toUnmask : List Nat, toMask.length ≤ 18 → toUnmask.length ≤ 18 → (∀ k ∈ toMask ++ toUnmask, 1 ≤ k ∧ k ≤ 18) →
       (∀ k ∈ toMask, k ∉ toUnmask) →
       ∃ l b, answers (.noticeMask h toMask toUnmask) h 0x04 s .ok b ((closed h s).withLink h.link l)
         ∧ l = { (closed h s).link h.link with unmasked := l.unmasked, pending := l.pending, held := l.held }
         ∧ b = .masks ((numbers 1 18).filter (fun k => nth l.unmasked k))
             ((numbers 1 18).filterMap (fun k => if 0 < nth l.held k then some (k, nth l.held k) else none))
         ∧ ∀ k ∈ numbers 1 18, let was := s.link h.link
             (k ∈ toUnmask → nth was.unmasked k = false →
               nth l.unmasked k = true ∧ nth l.pending k = nth was.held k ∧ nth l.held k = 0)
             ∧ (k ∈ toMask → nth was.unmasked k = true →
               nth l.unmasked k = false ∧ nth l.pending k = 0
                 ∧ nth l.held k = if latched k then nth was.pending k else nth was.held k)
             ∧ ((k ∈ toUnmask → nth was.unmasked k = true) → (k ∈ toMask → nth was.unmasked k = false) →
               nth l.unmasked k = nth was.unmasked k ∧ nth l.pending k = nth was.pending k
                 ∧ nth l.held k = nth was.held k))
       ∧ ∀ kinds : Option (List Nat), (∀ ks, kinds = some ks → ks ≠ [] ∧ ks.length ≤ 18 ∧ ∀ k ∈ ks, 1 ≤ k ∧ k ≤ 18) →
         let named := fun k => ∀ ks, kinds = some ks → k ∈ ks
         ∃ l n, answers (.noticeClear h kinds) h 0x05 s .ok (.count n) ((closed h s).withLink h.link l)
           ∧ l = { (closed h s).link h.link with pending := l.pending, held := l.held }
           ∧ (∀ k ∈ numbers 1 18,
               (named k → nth l.pending k = 0 ∧ nth l.held k = 0)
               ∧ (¬named k → nth l.pending k = nth (s.link h.link).pending k
                   ∧ nth l.held k = nth (s.link h.link).held k))
           ∧ ∃ gone : List Nat, gone.Nodup ∧ gone.length = n
               ∧ ∀ k, k ∈ gone ↔ (k ∈ numbers 1 18 ∧ named k
                   ∧ (0 < nth (s.link h.link).pending k ∨ 0 < nth (s.link h.link).held k)))
    ∧ (∀ (h : Header) (start : Nat) (s : State), Taken h s → 1 ≤ start → start ≤ 18 →
       let ps := (numbers start 18).filter (fun k => decide (0 < nth (s.link h.link).pending k))
       let size := fun ks : List Nat => (ks.map entrySize).sum
       ∃ n entries next, answers (.noticeRead h start) h 0x03 s .ok (.notices entries next) (closed h s)
         ∧ n ≤ ps.length ∧ size (ps.take n) ≤ 246
         ∧ entries = (ps.take n).filterMap
             (fun k => (nth s.details k).map (fun d => (k, nth (s.link h.link).pending k, d)))
         ∧ (n = ps.length → next = 0)
         ∧ ∀ k, ps[n]? = some k → next = k ∧ 246 < size (ps.take n) + entrySize k)

/-- R167: what a byte does to a link's receiver in HUNT, in LENGTH and in BODY, and the first of the two bytes in CHECK;
each byte received from the line starts the gap watch afresh. R167, R170: a bad length, a bad CRC and a gap of more
than 50 ms each discard the partial frame and are counted by 1, LINK-ERRORS being raised when all four counters stood
at 0. After a bad CRC the bytes kept after the start byte, the two CRC bytes among them, are taken once more in their
order by the receiver in HUNT, as though arriving now: it stays in HUNT when none of them is a start byte. -/
def Obligations.ReceiverBytesAndDiscards : Prop :=
  (∀ (l : Link) (b : Byte) (s : State), s.power.operating = true →
     let r := (s.link l).receiver
     let gets := fun st kept => exec (.receiveByte l b) s
       = .next (s.withLink l { s.link l with receiver := { state := st, kept := kept, lastByte := s.elapsed } })
     (r.state = .hunt → b = 0x7E → gets .length [])
       ∧ (r.state = .hunt → b ≠ 0x7E → gets .hunt [])
       ∧ (r.state = .length → r.kept = [] → 2 ≤ b.toNat → b.toNat ≤ 250 → gets .body [b])
       ∧ (∀ n body, r.state = .body → r.kept = n :: body → body.length + 1 < n.toNat → gets .body (r.kept ++ [b]))
       ∧ (∀ n body, r.state = .body → r.kept = n :: body → body.length + 1 = n.toNat → gets .check (r.kept ++ [b]))
       ∧ ∀ n body, r.state = .check → r.kept = n :: body → body.length = n.toNat → gets .check (r.kept ++ [b]))
    ∧ (∀ (l : Link) (s : State), s.power.operating = true →
       let r := (s.link l).receiver
       let discarded := fun (k : Counter) (last : Nat) =>
         let c := (s.link l).counters
         let s1 := s.withLink l
           { s.link l with
             receiver := { state := .hunt, kept := [], lastByte := last }
             counters := c.bump k }
         if c.badCrc = 0 ∧ c.badLength = 0 ∧ c.timeout = 0 ∧ c.overrun = 0 then raise (.linkErrors l k) s1 else s1
       (∀ b : Byte, r.state = .length → r.kept = [] → (b.toNat < 2 ∨ 250 < b.toNat) →
           exec (.receiveByte l b) s = .next (discarded .badLength s.elapsed))
         ∧ (∀ (b hi : Byte) (kept : List Byte), r.state = .check → r.kept = kept ++ [hi] →
             kept.length = (kept.headD 0).toNat + 1 → maskBytes (crc16 kept) ≠ [hi, b] → (0x7E : Byte) ∉ kept ++ [hi, b] →
             exec (.receiveByte l b) s = .next (discarded .badCrc s.elapsed))
         ∧ (∀ (b hi : Byte) (kept : List Byte), r.state = .check → r.kept = kept ++ [hi] →
             kept.length = (kept.headD 0).toNat + 1 → maskBytes (crc16 kept) ≠ [hi, b] →
             exec (.receiveByte l b) s
               = .next (after ((kept ++ [hi, b]).map (.receiveByte l)) (discarded .badCrc s.elapsed)))
         ∧ (r.state ≠ .hunt → r.lastByte + 50 < s.elapsed →
             exec (.receiveTimeout l) s = .next (discarded .timeout r.lastByte)))

/-- R166 to R169: the bytes of a frame, received one after another by a receiver in HUNT, are taken as that frame: nothing
else has happened to the part when its request is dispatched. R168, R169: a frame whose bytes spell a request is that
request; a kind that names none and a length that does not fit are each answered with their status alone, and no other
kind is unknown. The model's choice (log entries 4 and 15): an enumerated byte or a count that has no meaning is
answered BAD-VALUE, with the status alone, and in a CALENDAR-WRITE with the number of entries that R15's reply
carries; and a list that does not match its own count is answered BAD-LENGTH before its block's tests. -/
def Obligations.FrameIsTakenWhole : Prop :=
  (∀ (l : Link) (kind tag : Nat) (payload : List Byte) (s : State), s.power.operating = true →
     (s.link l).receiver.state = .hunt → kind < 256 → tag < 256 → payload.length ≤ 248 →
     after ((frameBytes kind tag payload).map (.receiveByte l)) s
       = takeFrame l kind tag payload
           (s.withLink l { s.link l with receiver := { state := .hunt, kept := [], lastByte := s.elapsed } }))
    ∧ (∀ (l : Link) (kind tag : Nat) (payload : List Byte) (s : State),
       let h : Header := { link := l, tag := tag }
       (∀ i, decodeRequest h kind payload = .request i →
           headerOf i = some h ∧ kindCode i = some kind ∧ exec i s = .next (takeFrame l kind tag payload s))
         ∧ (decodeRequest h kind payload = .unknown ↔ namesRequest kind = false)
         ∧ (Taken h s →
           (namesRequest kind = false → takeFrame l kind tag payload s = replied h kind .unknownKind .none (closed h s))
             ∧ (decodeRequest h kind payload = .badLength →
               takeFrame l kind tag payload s = replied h kind .badLength .none (closed h s))
             ∧ (decodeRequest h kind payload = .badValue →
               takeFrame l kind tag payload s
                 = replied h kind .badValue (if kind = 0x16 then .count s.calendar.entries.length else .none) (closed h s))))

/-- R169, R185 to R188: the payload of every request whose layout the manual gives spells that request. The payloads of
one number, of MODE-SET, and of SCENE-WRITE (start, count, records, in that order) rest on log entry 4. -/
def Obligations.DecodeOfEncode : Prop :=
  ∀ (i : Instr) (h : Header) (k : Nat) (payload : List Byte), WellFormed i = true → headerOf i = some h →
    kindCode i = some k → encodePayload i = some payload → decodeRequest h k payload = .request i


/-! ## Modes, the key, supply and restart (R172, R178 to R184) -/

/-- R172: turning the key acts on nothing else; R181: RESET is answered OK and has no further effect until its reply has
been sent in full; R168, R181: a reply that has been sent in full leaves the link free, and after the OK of a RESET
the part restarts with cause RESET-REQUEST and keeps its retained area. That the key is followed out of operation is
deduced (log entry 9), and the values of an EMPTY touch context after a restart are the model's (log entry 7). R183,
R184: a request for the mode in force changes nothing, and RUN makes every INHIBITED hammer READY. -/
def Obligations.KeyResetAndRun : Prop :=
  ((∀ (l : Link) (s : State), exec (.chamberKeyChange l) s = .next { s with key := l })
     ∧ (∀ (h : Header) (s : State), Taken h s → answers (.reset h) h 0x07 s .ok .none (closed h s))
     ∧ ∀ (l : Link) (s : State) (r : Reply), s.power.operating = true → (s.link l).reply = some r →
         (¬(r.kind = 0x87 ∧ r.status = .ok) →
           exec (.replySent l) s = .next (s.withLink l { s.link l with reply := none }))
         ∧ (r.kind = 0x87 → r.status = .ok → ∃ t, exec (.replySent l) s = .next t ∧ Restarts .resetRequest false s t))
    ∧ (∀ (h : Header) (s : State), Taken h s →
       (s.maintenance = true → answers (.modeSetMaintenance h) h 0x06 s .ok .none (closed h s))
         ∧ (s.maintenance = false → answers (.modeSetRun h) h 0x06 s .ok .none (closed h s))
         ∧ (s.maintenance = true → ∃ hs, answers (.modeSetRun h) h 0x06 s .ok .none
             { closed h s with maintenance := false, hammers := hs }
             ∧ ∀ b ∈ numbers 1 24, nth hs b
                 = if (s.hammer b).state = .inhibited then { s.hammer b with state := .ready } else s.hammer b))

/-- R80, R93, R98, R116, R136, R183: entry to MAINTENANCE. Every performance leaves the queue: one that is ACTIVE or
PAUSED, and every WAITING tune, toll and touch, with PERFORMANCE-ENDED, how MODE, and every WAITING clock event
omitted with reason MODE, the marker moving to it; a touch in the queue is ENDED. The strike queue is emptied. READY
hammers go INHIBITED, and no other moves but the one a CLEARING channel gives back. Starts pending are dropped; QUEUED
returns to DOWN, CLEARING goes to RESTORING (and on to DOWN where its hammer answers at once), RAISING and SWINGING to
LOWERING (and on to SETTLING where the pass watch has run out), each with way-down cause MAINTENANCE. Time, dials,
calendar, timers, tables and settings stay as they were. That the named channels all leave their states before what
this frees is worked through, and duration 0 from QUEUED, are log entry 16; the fault cause ACTUATOR of the hammer a
CLEARING channel gives back with its flag set is the model's choice (log entry 27). R33, R178, R179, R181: the
supply-fail input, the loss of the supply and the reset line each put every output out of action, cut what is in
progress with its hold pending, and empty both links' pending and held sets; the retained area stays, and only a
completed putaway makes its marker GOOD. That a putaway is complete at once is the model's choice (log entry 22), and
that a supply lost with the input never asserted does the same is deduced (log entry 19). -/
def Obligations.MaintenanceAndOutOfOperation : Prop :=
  (∀ (h : Header) (s : State), Taken h s → s.maintenance = false → tiesOk s → raiseQueueOk s → nothingDue s →
     let q := s.arbiter.queue
     let waits := fun p : Perf => p.isClock && p.state == .waiting
     let given := fun b => ∃ c ∈ numbers 1 12, (s.swing c).cfg.bell = b ∧ (s.swing c).state = .clearing
     ∃ t, answers (.modeSetMaintenance h) h 0x06 s .ok .none t
       ∧ t.maintenance = true ∧ sameSettings s t ∧ t.dials = s.dials ∧ t.calendar = s.calendar ∧ t.timers = s.timers
       ∧ t.time = { s.time with marker := t.time.marker } ∧ t.power = s.power
       ∧ t.arbiter = { s.arbiter with queue := [] } ∧ t.strikes = [] ∧ t.allowance.queue = []
       ∧ t.touch = (if q.any (fun p => p.cls == .touch) then { s.touch with status := .ended } else s.touch)
       ∧ ((∃ p ∈ q, waits p = false) → ∃ p ∈ q, waits p = false ∧ nth t.details 9
           = some { instant := s.time.instant, detail := .performanceEnded p.id p.cls .mode p.booked p.dropped })
       ∧ ((∃ p ∈ q, waits p = true) → ∃ p ∈ q, waits p = true ∧ nth t.details 8
           = some { instant := s.time.instant, detail := .performanceOmitted p.id .clock .mode .whole p.event 0 0 })
       ∧ (∀ p ∈ q, ∀ e, waits p = true → p.event = some e → ∃ m, t.time.marker = some m ∧ e ≤ m)
       ∧ (∀ m, s.time.marker = some m → ∃ n, t.time.marker = some n ∧ m ≤ n)
       ∧ (∀ m, t.time.marker = some m → s.time.marker = some m ∨ ∃ p ∈ q, waits p = true ∧ p.event = some m)
       ∧ (∀ b ∈ numbers 1 24,
           ((s.hammer b).state = .ready → t.hammer b = { s.hammer b with state := .inhibited })
           ∧ ((s.hammer b).state ≠ .ready → ¬given b → t.hammer b = s.hammer b))
       ∧ (∀ c ∈ numbers 1 12, let x := s.swing c; let y := t.swing c
           let hm := s.hammer x.cfg.bell
           (x.state = .down → y = { x with start := none })
           ∧ (x.state = .queued → y.state = .down ∧ y.wayDown = .maintenance ∧ y.duration = 0)
           ∧ (x.state = .clearing → hm.state ∈ [.withdrawing, .withdrawn] → hm.fitted = true → hm.confirm = true →
             y.state = .restoring ∧ y.wayDown = .maintenance
               ∧ t.hammer x.cfg.bell = { hm with
                   state := .engaging, withdrawOutput := false, faultCause := none, watch := some (s.elapsed + 2000) })
           ∧ (x.state = .clearing → hm.state ∈ [.withdrawing, .withdrawn] → (hm.fitted = false ∨ hm.confirm = false) →
             y.state = .down ∧ y.wayDown = .none ∧ y.duration = 0
               ∧ t.hammer x.cfg.bell = { hm with
                   state := if hm.actuatorFault then .fault else .inhibited, withdrawOutput := false
                   faultCause := if hm.actuatorFault then some .actuator else none, watch := none })
           ∧ (x.state ∈ [.raising, .swinging] →
             y.state ∈ [.lowering, .settling] ∧ y.wayDown = .maintenance ∧ y.drive = none ∧ y.raiseEnds = none
               ∧ y.durationEnds = none)
           ∧ (x.state ∈ [.lowering, .settling, .restoring, .fault] → y = x))
       ∧ ((∃ c ∈ numbers 1 12, (s.swing c).state ∈ [.queued, .clearing] ∧ (t.swing c).state = .down) →
         ∃ c ∈ numbers 1 12, (s.swing c).state ∈ [.queued, .clearing] ∧ (t.swing c).state = .down
           ∧ nth t.details 12 = some
             { instant := s.time.instant
               detail := .swingState c (s.swing c).cfg.bell .down (s.swing c).driveCount .maintenance }))
    ∧ (∀ s : State, s.power.operating = true →
       (s.power.supply = true → s.power.failInput = false → ∃ t, exec .putaway s = .next t ∧ outputsInactive t
           ∧ sameSettings s t ∧ t.time = s.time ∧ t.timers = s.timers
           ∧ t.power = { s.power with operating := false, failInput := true, markerGood := true })
         ∧ (s.power.supply = true → ∃ t, exec .supplyLost s = .next t ∧ outputsInactive t
           ∧ sameSettings s t ∧ t.time = s.time ∧ t.timers = s.timers
           ∧ t.power = { s.power with operating := false, supply := false, lost := true })
         ∧ ∃ t, exec .resetLineAssert s = .next t ∧ outputsInactive t ∧ sameSettings s t ∧ t.time = s.time
             ∧ t.timers = s.timers ∧ t.power = { s.power with operating := false, resetLine := true })

/-- R179 to R182: the part restarts when supply is present and both the line and the input are released, with the cause of
what was released last, or POWER-UP where the supply was lost meanwhile; only a POWER-UP that finds the marker CLEAR
loses the retained area. The model deduces (log entry 19) that a POWER-UP finds the supply-fail input released, and
(log entry 23) that a battery that has not held the area has not held the marker, which then reads CLEAR; whether it
held is a free value (log entry 23), and the values of an EMPTY touch context are its own (log entry 7). While one of
the two is still asserted the restart waits. -/
def Obligations.RestartWhenReleased : Prop :=
  ∀ s : State, s.power.operating = false →
    (s.power.supply = true → s.power.failInput = true → s.power.resetLine = false →
        ∃ t, exec .supplyRecovered s = .next t
          ∧ Restarts (if s.power.lost then .powerUp else .supplyRecovered) (s.power.lost && !s.power.markerGood) s t)
      ∧ (s.power.supply = true → s.power.failInput = false → s.power.resetLine = true →
        ∃ t, exec .resetLineRelease s = .next t
          ∧ Restarts (if s.power.lost then .powerUp else .resetLine) (s.power.lost && !s.power.markerGood) s t)
      ∧ (s.power.supply = false → s.power.resetLine = false →
        ∃ t, exec .powerUp s = .next t
          ∧ Restarts .powerUp (!(s.power.markerGood && Config.batteryHeld s.power.powerUps)) s t)
      ∧ (s.power.supply = false → s.power.resetLine = true →
        exec .powerUp s = .next
          { s with
            power :=
              { s.power with
                supply := true, failInput := false
                markerGood := s.power.markerGood && Config.batteryHeld s.power.powerUps
                powerUps := s.power.powerUps + 1 } })
      ∧ (s.power.supply = true → s.power.failInput = true → s.power.resetLine = true →
        exec .supplyRecovered s = .next { s with power := { s.power with failInput := false } }
          ∧ exec .resetLineRelease s = .next { s with power := { s.power with resetLine := false } })


/-! ## Tower time, the calendar and the timers (R1 to R22) -/

/-- R4: TIME-SET to a day that exists, with its fields clamped: the same instant with validity SET changes nothing;
otherwise the instant is set and the step is published; an empty served marker takes the last quarter at or before the
new instant (R22). The marker then stands there, or where it stood before, unless the step omits an event: it then
stands at a later event whose build time the new instant has reached, and no marker moves back. A day that does not
exist is refused. With validity UNSET the same instant is set like any other (log entry 11). R5: ZONE-SET with
validity UNSET is refused with TIME-UNSET; a clamped 0 changes nothing; a change that would leave the offset's range
or the instant's is refused; otherwise the offset and the instant move and the step is published, with slew remaining
as it was. -/
def Obligations.TimeAndZoneSet : Prop :=
  (∀ (h : Header) (year month day ms : Nat) (s : State), Taken h s →
     let y := max 2000 (min 2099 year)
     let m := max 1 (min 12 month)
     let new := dayNumber y m day * 86400000 + min 86399999 ms
     let set := s.time.marker.getD (new / 900000)
     let built := fun n : Nat => (firstOf (planChime s n) (planStrike s n)).map (· - 62000)
     (day = 0 ∨ monthLength y m < day →
         answers (.timeSet h year month day ms) h 0x10 s .badValue .none (closed h s))
       ∧ (1 ≤ day → day ≤ monthLength y m → s.time.validity = .isSet → new = s.time.instant →
         answers (.timeSet h year month day ms) h 0x10 s .ok (.timeSet 0 new new) (closed h s))
       ∧ (1 ≤ day → day ≤ monthLength y m → (s.time.validity = .unset ∨ new ≠ s.time.instant) →
         ∃ t, answers (.timeSet h year month day ms) h 0x10 s .ok
             (.timeSet ((new : Int) - s.time.instant) s.time.instant new) t
           ∧ Stepped .timeSet ((new : Int) - s.time.instant) new .isSet s t
           ∧ t.time.slew = 0 ∧ t.time.stopped = false ∧ t.time.zone = s.time.zone ∧ t.time.refState = s.time.refState
           ∧ ∃ e, t.time.marker = some e ∧ set ≤ e
             ∧ (queueOk s → e = set ∨ ∃ b, built e = some b ∧ b ≤ (new : Int))
             ∧ (queueOk s → (∀ n, set < n → ∀ b, built n = some b → (new : Int) < b) → e = set)))
    ∧ (∀ (h : Header) (minutes : Int) (s : State), Taken h s →
       let z := max (-120) (min 120 minutes)
       let new := (s.time.instant : Int) + z * 60000
       (s.time.validity = .unset → answers (.zoneSet h minutes) h 0x11 s .timeUnset .none (closed h s))
         ∧ (s.time.validity = .isSet → z = 0 →
           answers (.zoneSet h minutes) h 0x11 s .ok (.zone 0 s.time.zone s.time.instant s.time.instant) (closed h s))
         ∧ (s.time.validity = .isSet → z ≠ 0 →
           (s.time.zone + z < -720 ∨ 720 < s.time.zone + z ∨ new < 0 ∨ 3155759999999 < new) →
           answers (.zoneSet h minutes) h 0x11 s .badValue .none (closed h s))
         ∧ (s.time.validity = .isSet → z ≠ 0 → -720 ≤ s.time.zone + z → s.time.zone + z ≤ 720 → 0 ≤ new →
           new ≤ 3155759999999 →
           ∃ t, answers (.zoneSet h minutes) h 0x11 s .ok (.zone z (s.time.zone + z) s.time.instant new.toNat) t
             ∧ Stepped .zoneSet (z * 60000) new.toNat .isSet s t ∧ t.time.zone = s.time.zone + z
             ∧ t.time.slew = s.time.slew))

/-- R6, R7: TIME-READ gives the record of the time and changes no state; REFERENCE-SET sets the enable, and the state
becomes SEEKING or OFF where the enable changes. That the operand 1 enables and 0 disables is the model's choice (log
entry 4). R9, R11: more than 150 s without a pulse while LOCKED the state becomes SEEKING with REFERENCE-STATE, cause
GAP; an adjusted second holds ms 999 for one more millisecond, or skips it, and slew remaining moves by 1 towards 0;
R16: a skip into a new day renews today's class. R2, R3: the count that would pass the last instant stops there:
validity becomes UNSET, slew remaining 0, the served marker is emptied, and in operation a step record with cause
RANGE-END and step 0 is published. Out of operation the count stops in the same way, with no step record (log entry
12). -/
def Obligations.ReferenceSettingsAndRangeEnd : Prop :=
  (∀ (h : Header) (s : State), Taken h s →
     (let d := dateOf (s.time.instant / 86400000)
      answers (.timeRead h) h 0x12 s .ok
       (.time s.time.instant d.year d.month d.day ((s.time.instant / 86400000 + 5) % 7 + 1) (s.time.instant % 86400000)
         (dayOfYear (s.time.instant / 86400000)) s.time.validity s.time.zone s.time.refEnabled s.time.refState s.time.slew
         s.time.lastError s.calendar.today s.calendar.source s.time.marker)
       (closed h s))
       ∧ ∀ on : Bool, let r := if on = s.time.refEnabled then s.time.refState else if on then .seeking else .off
         answers (.referenceSet h on.toNat) h 0x13 s .ok (.reference r)
           { closed h s with time := { s.time with refEnabled := on, refState := r } })
    ∧ (∀ s : State, s.power.operating = true →
       (s.time.refState = .locked → s.time.lastPulse + 150000 < s.elapsed →
           exec .referenceGap s = .next
             (raise (.referenceState .locked .seeking true) { s with time := { s.time with refState := .seeking } }))
         ∧ (s.time.stopped = false → s.time.secondServed = false → s.time.slew < 0 → s.time.instant % 1000 = 999 →
           exec .slewSecondAdjust s = .next
             { s with elapsed := s.elapsed + 1, time := { s.time with slew := s.time.slew + 1, secondServed := true } })
         ∧ (s.time.stopped = false → s.time.secondServed = false → 0 < s.time.slew → s.time.instant % 1000 = 998 →
           s.time.instant + 2 ≤ 3155759999999 →
           let day := (s.time.instant + 2) / 86400000
           let x := classOf s.calendar day
           exec .slewSecondAdjust s = .next
             { s with
               elapsed := s.elapsed + 1
               time := { s.time with instant := s.time.instant + 2, slew := s.time.slew - 1, secondServed := false }
               calendar :=
                 if s.calendar.todayDay = day then s.calendar
                 else { s.calendar with today := x.1, source := x.2, todayDay := day } }))
    ∧ (∀ s : State, s.time.stopped = false → s.time.instant = 3155759999999 →
       (s.power.operating = false → exec .rangeEnd s = .next
           { s with
             elapsed := s.elapsed + 1
             time := { s.time with stopped := true, validity := .unset, slew := 0, marker := none } })
         ∧ (s.power.operating = true →
           ∃ t, exec .rangeEnd s = .next t ∧ Stepped .rangeEnd 0 3155759999999 .unset s t ∧ t.time.stopped = true
             ∧ t.time.slew = 0 ∧ t.time.marker = none ∧ t.elapsed = s.elapsed + 1))

/-- R8 to R10: a pulse is ignored in OFF; in SEEKING it locks the reference, with REFERENCE-STATE, and is then treated as
in LOCKED; in LOCKED it restarts the gap watch and, with validity SET, is measured: an error of at most 2,000 sets
slew remaining, a greater one steps the instant to the nearest whole minute, or to the end of the range. Past the end
of the range the one record is that of the end, cause RANGE-END and step 0 (R3, R12), with its old instant the instant
before (log entry 12). -/
def Obligations.ReferencePulse : Prop :=
  ∀ s : State, s.power.operating = true →
    let m := s.time.instant % 60000
    let e : Int := if m < 30000 then m else (m : Int) - 60000
    let new := ((s.time.instant : Int) - e).toNat
    let locked : State :=
      match s.time.refState with
      | .seeking => raise (.referenceState .seeking .locked false) { s with time := { s.time with refState := .locked } }
      | _ => s
    (s.time.refState = .off → exec .referencePulse s = .next s)
      ∧ (s.time.refState ≠ .off → s.time.validity = .unset →
        exec .referencePulse s = .next { locked with time := { locked.time with lastPulse := s.elapsed } })
      ∧ (s.time.refState ≠ .off → s.time.validity = .isSet → -2000 ≤ e → e ≤ 2000 →
        exec .referencePulse s = .next
          { locked with
            time := { locked.time with lastPulse := s.elapsed, lastError := some e, slew := -e, secondServed := true } })
      ∧ (s.time.refState ≠ .off → s.time.validity = .isSet → (e < -2000 ∨ 2000 < e) → new ≤ 3155759999999 →
        ∃ t, exec .referencePulse s = .next t ∧ Stepped .reference (-e) new .isSet s t ∧ t.time.slew = 0
          ∧ t.time.lastError = some e ∧ t.time.lastPulse = s.elapsed ∧ t.time.refState = .locked
          ∧ t.time.zone = s.time.zone)
      ∧ (s.time.refState ≠ .off → s.time.validity = .isSet → (e < -2000 ∨ 2000 < e) → 3155759999999 < new →
        ∃ t, exec .referencePulse s = .next t ∧ Stepped .rangeEnd 0 3155759999999 .unset s t ∧ t.time.slew = 0
          ∧ t.time.stopped = true ∧ t.time.marker = none)

/-- R16: the class of a date is that of the entry with its month, day and year, else of the entry for ANY year, else the
weekday default; DAY-CLASS-RENEWAL and WEEKDAY-WRITE renew today's class for the date of now. R13, R17: CLASS-WRITE
replaces one day-class record and nothing else; CALENDAR-READ gives the records, the weekday defaults, or entries from
a position with the size of the table, and changes no state. -/
def Obligations.DayClasses : Prop :=
  ((∀ (c : Calendar) (d : Nat), calendarOk c.entries →
       let on := fun (e : CalEntry) => e.month = (dateOf d).month ∧ e.day = (dateOf d).day
       (∀ e ∈ c.entries, on e → e.year = some (dateOf d).year → classOf c d = (e.cls, .year))
         ∧ (∀ e ∈ c.entries, on e → e.year = none → (∀ f ∈ c.entries, on f → f.year ≠ some (dateOf d).year) →
           classOf c d = (e.cls, .any))
         ∧ ((∀ f ∈ c.entries, on f → f.year ≠ some (dateOf d).year ∧ f.year ≠ none) →
           classOf c d = (nth c.weekdays ((d + 5) % 7 + 1), .weekday)))
     ∧ (∀ s : State, s.power.operating = true → s.calendar.todayDay ≠ s.time.instant / 86400000 →
         let d := s.time.instant / 86400000
         exec .dayClassRenewal s = .next
           { s with
             calendar :=
               { s.calendar with today := (classOf s.calendar d).1, source := (classOf s.calendar d).2, todayDay := d } })
     ∧ ∀ (h : Header) (cs : List Nat) (s : State), Taken h s → cs.length = 7 → (∀ k ∈ cs, k ≤ 7) →
         ∃ c, answers (.weekdayWrite h cs) h 0x15 s .ok .none { closed h s with calendar := c }
           ∧ c = { s.calendar with weekdays := c.weekdays, today := c.today, source := c.source, todayDay := c.todayDay }
           ∧ c.weekdays.toList = cs ∧ (c.today, c.source) = classOf c c.todayDay
           ∧ c.todayDay = s.time.instant / 86400000)
    ∧ (∀ (h : Header) (s : State), Taken h s →
       (∀ (record : Nat) (set : Option Nat) (hours quarters : Bool), record ≤ 7 → (∀ k, set = some k → k ≤ 7) →
           ∃ c, answers (.classWrite h record set hours.toNat quarters.toNat) h 0x14 s .ok .none { closed h s with calendar := c }
             ∧ c = { s.calendar with classes := c.classes }
             ∧ slot c.classes record = { chimeSet := set, strikeHours := hours, chimeQuarters := quarters }
             ∧ ∀ r, r ≠ record → slot c.classes r = slot s.calendar.classes r)
         ∧ (∀ start count, answers (.calendarRead h 0 start count) h 0x17 s .ok (.classes s.calendar.classes.toList) (closed h s)
             ∧ answers (.calendarRead h 1 start count) h 0x17 s .ok (.weekdays s.calendar.weekdays.toList) (closed h s)
             ∧ answers (.calendarRead h 2 start count) h 0x17 s .ok
                 (.calendar ((s.calendar.entries.drop (min 63 start)).take (max 1 (min 16 count))) s.calendar.entries.length)
                 (closed h s)))

/-- R15: a WRITE puts its entry in the table in place of one with its key, or at its place in key order while the table
holds fewer than 64, and is refused with FULL at 64; a DELETE removes the entry of its key, or is refused with
NOT-FOUND. Both keep the key order, renew today's class and give the number of entries. R15: CALENDAR-WRITE is refused
with BAD-VALUE, and nothing changes, when the month, the year or the day does not fit or a WRITE carries a class
outside 0..7; a DELETE needs no class. The reply to a refusal carries the number of entries too (log entry 15). -/
def Obligations.CalendarKeepsKeyOrder : Prop :=
  (∀ (h : Header) (month day : Nat) (year : Option Nat) (cls : Nat) (s : State), Taken h s → calendarOk s.calendar.entries →
     1 ≤ month → month ≤ 12 → (∀ y, year = some y → 2000 ≤ y ∧ y ≤ 2099) → 1 ≤ day →
     day ≤ monthLength (year.getD 2000) month → cls ≤ 7 →
     let e : CalEntry := { month := month, day := day, year := year, cls := cls }
     let es := s.calendar.entries
     let leaves := fun (es' : List CalEntry) (t : State) =>
       t = { closed h s with calendar := t.calendar }
         ∧ t.calendar = { s.calendar with
             entries := es', today := t.calendar.today, source := t.calendar.source, todayDay := t.calendar.todayDay }
         ∧ (t.calendar.today, t.calendar.source) = classOf t.calendar (s.time.instant / 86400000)
         ∧ t.calendar.todayDay = s.time.instant / 86400000 ∧ calendarOk es'
     ((es.length < 64 ∨ ∃ x ∈ es, x.key = e.key) →
         ∃ es' t, answers (.calendarWrite h month day year cls) h 0x16 s .ok (.count es'.length) t ∧ leaves es' t
           ∧ ∀ x, x ∈ es' ↔ x = e ∨ (x ∈ es ∧ x.key ≠ e.key))
       ∧ (64 ≤ es.length → (∀ x ∈ es, x.key ≠ e.key) →
         answers (.calendarWrite h month day year cls) h 0x16 s .full (.count es.length) (closed h s))
       ∧ ((∃ x ∈ es, x.key = e.key) →
         ∃ es' t, answers (.calendarDelete h month day year) h 0x16 s .ok (.count es'.length) t ∧ leaves es' t
           ∧ ∀ x, x ∈ es' ↔ (x ∈ es ∧ x.key ≠ e.key))
       ∧ ((∀ x ∈ es, x.key ≠ e.key) →
         answers (.calendarDelete h month day year) h 0x16 s .notFound (.count es.length) (closed h s)))
    ∧ (∀ (h : Header) (month day : Nat) (year : Option Nat) (cls : Nat) (s : State), Taken h s →
       let fits := 1 ≤ month ∧ month ≤ 12 ∧ (∀ y, year = some y → 2000 ≤ y ∧ y ≤ 2099) ∧ 1 ≤ day
         ∧ day ≤ monthLength (year.getD 2000) month
       let n := s.calendar.entries.length
       (¬(fits ∧ cls ≤ 7) → answers (.calendarWrite h month day year cls) h 0x16 s .badValue (.count n) (closed h s))
         ∧ (¬fits → answers (.calendarDelete h month day year) h 0x16 s .badValue (.count n) (closed h s)))

/-- R18: TIMER-START makes a timer RUNNING with its clamped duration, mask and action, replacing what it held. An IDLE
timer keeps the mask and action it last had, which are not in force (log entry 17). R19, R135: a timer that runs out
is IDLE, its action is performed, and TIMER-EXPIRED gives the timer, the action and the status the action received; a
program is refused in MAINTENANCE, when it is empty and when SWING is silenced once the timer's own mask has lifted. -/
def Obligations.TimerStartAndExpiry : Prop :=
  (∀ (h : Header) (n duration mask action arg fade : Nat) (a : TimerAction) (s : State), Taken h s → (n = 1 ∨ n = 2) → mask < 64 →
     (action = 0 ∧ a = .none ∨ action = 1 ∧ 1 ≤ arg ∧ arg ≤ 4 ∧ a = .startProgram arg ∨ action = 2 ∧ a = .stopSwing
       ∨ action = 3 ∧ arg ≤ 63 ∧ a = .applyScene arg (min 600 fade)) →
     let d := max 1 (min 172800 duration)
     answers (.timerStart h n duration mask action arg fade) h 0x18 s .ok (.seconds d)
       ((closed h s).withTimer n { ends := some (s.elapsed + d * 1000), mask := BitVec.ofNat 6 mask, action := a }))
    ∧ (∀ (n : Nat) (e : Nat) (s : State), s.power.operating = true → (n = 1 ∨ n = 2) → (s.timer n).ends = some e → e ≤ s.elapsed →
       let idle := s.withTimer n { s.timer n with ends := none }
       let a := (s.timer n).action
       (a = .none → exec (.timerExpired n) s = .next (raise (.timerExpired n .none .none) idle))
         ∧ (a = .stopSwing → exec (.timerExpired n) s = .next
             (raise (.timerExpired n a (.status .ok [])) (stopSwings .stop (numbers 1 12) idle)))
         ∧ (∀ k f, a = .applyScene k f → exec (.timerExpired n) s = .next
             (raise (.timerExpired n a (.status .ok [])) (settleLoad (applyScene k f idle))))
         ∧ ∀ k, a = .startProgram k → let p := nth s.programs k
             let dropped := fun r => raise (.performanceOmitted 0 .swing r .whole none 0 k) idle
             (s.maintenance = true → exec (.timerExpired n) s = .next
                 (raise (.timerExpired n a (.status .refusedMode [])) (dropped .mode)))
               ∧ (s.maintenance = false → p.entries = [] → exec (.timerExpired n) s = .next
                 (raise (.timerExpired n a (.status .notFound [])) idle))
               ∧ (s.maintenance = false → p.entries ≠ [] → swingSilenced idle = true → exec (.timerExpired n) s = .next
                 (raise (.timerExpired n a (.status .refusedSilence [])) (dropped .silence)))
               ∧ (s.maintenance = false → p.entries ≠ [] → swingSilenced idle = false → exec (.timerExpired n) s = .next
                 (raise (.timerExpired n a (.status .ok (p.entries.map (fun e => (e.1, startStatus idle e.1)))))
                   (startSwings p.entries p.duration k idle).1)))

/-- R20: TIMER-STOP with a number other than 1 or 2 is refused with BAD-VALUE. Otherwise the timer becomes IDLE and
nothing else changes: no action, no notice, and its mask silences nothing any more. The reply says whether it was
running and gives the seconds that were left. TIMER-READ gives both timers, with 0 for an IDLE one, and changes no
state. An IDLE timer keeps its mask and action, which TIMER-READ shows (log entry 17). -/
def Obligations.TimerStopAndRead : Prop :=
  ∀ (h : Header) (s : State), Taken h s →
    let left := fun (n : Nat) => match (s.timer n).ends with | none => 0 | some e => (e - s.elapsed + 999) / 1000
    (∀ n : Nat, (n = 1 ∨ n = 2) →
        answers (.timerStop h n) h 0x19 s .ok (.timerStop (s.timer n).ends.isSome (left n))
            ((closed h s).withTimer n { s.timer n with ends := none })
          ∧ ∀ m ∈ numbers 1 2, ∀ k d e, m ≠ n → (s.timer m).ends = none → (∀ j, (slot s.arbiter.silence j).enable = false) →
            silenced ((closed h s).withTimer n { s.timer n with ends := none }) k d e = false)
      ∧ (∀ n : Nat, n ≠ 1 → n ≠ 2 → answers (.timerStop h n) h 0x19 s .badValue .none (closed h s))
      ∧ answers (.timerRead h) h 0x1A s .ok
          (.timers ((numbers 1 2).map (fun n => ((s.timer n).ends.isSome, left n, (s.timer n).mask, (s.timer n).action))))
          (closed h s)


/-! ## The clock dials (R23 to R39) -/

/-- R27 to R29: what a channel with no impulse in progress does when it takes the state its flags give. In FAULT, HELD,
UNKNOWN and IDLE no impulse is due. Otherwise the decision is taken at the present target: on time, or ahead by at
most W, no impulse; behind by one step RUNNING with one impulse; behind by more CATCH-UP; an impulse begins at once,
in the next polarity, when the gap after the last one has run, and is else due. While an impulse is in progress no
decision is taken. R26: the target is the minute of the day mod 720 for MINUTE, and the ms of the day divided by
30,000, mod 1440, for HALF. R27: the state is FAULT with the fault set; while an impulse is in progress the deciding
state in which it began; and else HELD, UNKNOWN, IDLE or the state the last decision gave, in this order. R26, R29 to
R31: a change of T is taken, and the decision retaken unless an impulse is in progress; an impulse that is due begins
once the gap has run, in the next polarity; a driver fault while an impulse is driven cuts it, uncounted, with FAULT
and DIAL-FAULT, and has no effect outside one. R30, R32: at an impulse's end H advances by one step modulo S and the
polarity flips; then the datum, where it is enabled, corrects H or is missing at 0, with DIAL-SLIP; then the channel
takes the state its flags give. -/
def Obligations.DialDecisionsAndImpulses : Prop :=
  ((∀ (d : Dial) (v : Validity) (instant elapsed : Nat), d.impulse = none →
      let n := dialSteps d.cfg.kind
      let t := dialTarget d.cfg.kind instant
      let x := d.settle v instant elapsed
      ((d.fault = true ∨ d.hold = true ∨ d.known = false ∨ v = .unset) → x = { d with due := false })
        ∧ (d.fault = false → d.hold = false → d.known = true → v = .isSet → d.pos < n →
          let ahead := (d.pos + n - t) % n
          let behind := (t + n - d.pos) % n
          let goes := fun (p : DialPhase) =>
            if d.lastEnd + d.cfg.gap ≤ elapsed then
              { d with phase := p, due := false, target := t,
                       impulse := some { polarity := d.polarity, ends := elapsed + d.cfg.impulse } }
            else { d with phase := p, due := true, target := t }
          (ahead = 0 → x = { d with phase := .running, due := false, target := t })
            ∧ (1 ≤ ahead → ahead ≤ d.cfg.wait → x = { d with phase := .wait, due := false, target := t })
            ∧ (d.cfg.wait < ahead → behind = 1 → x = goes .running)
            ∧ (d.cfg.wait < ahead → 1 < behind → x = goes .catchUp)))
     ∧ (∀ (d : Dial) (v : Validity) (instant elapsed : Nat), d.impulse ≠ none → d.settle v instant elapsed = d)
     ∧ (∀ instant : Nat, dialTarget .minute instant = instant % 86400000 / 60000 % 720
         ∧ dialTarget .half instant = instant % 86400000 / 30000 % 1440)
     ∧ (∀ (d : Dial) (v : Validity),
         let x := d.stateIn v
         let last : DialState := if d.phase = .running then .running else if d.phase = .wait then .wait else .catchUp
         (d.fault = true → x = .fault)
           ∧ (d.fault = false → d.impulse ≠ none → x = last)
           ∧ (d.fault = false → d.impulse = none →
             (d.hold = true → x = .held)
               ∧ (d.hold = false → d.known = false → x = .unknown)
               ∧ (d.hold = false → d.known = true → v = .unset → x = .idle)
               ∧ (d.hold = false → d.known = true → v = .isSet → x = last))))
    ∧ (∀ (c : Nat) (s : State), s.power.operating = true → 1 ≤ c → c ≤ 4 →
       let d := s.dial c
       let t := dialTarget d.cfg.kind s.time.instant
       (t ≠ d.target → exec (.dialTargetChange c) s = .next
           (s.withDial c (Dial.settle { d with target := t } s.time.validity s.time.instant s.elapsed)))
         ∧ (d.due = true → d.impulse = none → d.fault = false → d.hold = false → d.known = true → s.time.validity = .isSet →
           d.lastEnd + d.cfg.gap ≤ s.elapsed →
           exec (.dialImpulseStart c) s = .next
             (s.withDial c { d with due := false, impulse := some { polarity := d.polarity, ends := s.elapsed + d.cfg.impulse } }))
         ∧ (d.impulse ≠ none → exec (.dialDriverFault c) s = .next
             (raise (.dialFault c d.pos d.polarity t s.time.instant)
               (s.withDial c
                 { d with impulse := none, lastEnd := s.elapsed, fault := true, holdPending := false, due := false })))
         ∧ (d.impulse = none → exec (.dialDriverFault c) s = .next s))
    ∧ (∀ (c : Nat) (datum : Bool) (s : State) (i : Impulse), s.power.operating = true → 1 ≤ c → c ≤ 4 →
       (s.dial c).impulse = some i → i.ends ≤ s.elapsed →
       let d := s.dial c
       let n : Nat := if d.cfg.kind = .minute then 720 else 1440
       let pos := (d.pos + 1) % n
       let d1 : Dial :=
         { d with
           pos := pos, polarity := if d.polarity = .pos then .neg else .pos, impulse := none, holdPending := false
           lastEnd := s.elapsed, datumInput := datum }
       let rests := fun (x : Dial) => s.withDial c (x.settle s.time.validity s.time.instant s.elapsed)
       let error : Int := ((pos + n / 2) % n : Nat) - (n / 2 : Nat)
       ((d.cfg.datum = false ∨ (datum = true ↔ pos = 0)) → exec (.dialImpulseEnd c datum) s = .next (rests d1))
         ∧ (d.cfg.datum = true → datum = true → pos ≠ 0 →
           exec (.dialImpulseEnd c datum) s = .next (raise (.dialSlip c false error pos) (rests { d1 with pos := 0 })))
         ∧ (d.cfg.datum = true → datum = false → pos = 0 →
           exec (.dialImpulseEnd c datum) s = .next (raise (.dialSlip c true 0 0) (rests d1))))

/-- R24: DIAL-CONFIG is refused with BUSY in RUNNING, WAIT and CATCH-UP; otherwise its clamped fields are stored, and a
change of kind sets the position to 0 and unknown. Nothing else changes, and no decision is taken. That the datum byte
1 enables and 0 disables is the model's choice (log entry 4). R33 to R35, R37: DIAL-HOLD sets the hold, with hold
pending behind an impulse in progress; DIAL-SET-POSITION is taken in HELD, UNKNOWN and FAULT; DIAL-RELEASE clears the
hold and hold pending; the channel then takes the state its flags give. DIAL-READ changes nothing. -/
def Obligations.DialConfigAndRequests : Prop :=
  (∀ (h : Header) (c impulse gap wait : Nat) (half datum : Bool) (s : State), Taken h s → 1 ≤ c → c ≤ 4 →
     let k : DialKind := if half then .half else .minute
     let d := s.dial c
     let cfg : Machine.DialConfig :=
       { kind := k, impulse := max 100 (min 2000 impulse), gap := max 100 (min 2000 gap)
         wait := min (if half then 720 else 360) wait, datum := datum }
     let i : Instr := .dialConfig h c half.toNat impulse gap wait datum.toNat
     (d.stateIn s.time.validity ∈ [.running, .wait, .catchUp] → answers i h 0x20 s .busy .none (closed h s))
       ∧ (d.stateIn s.time.validity ∈ [.held, .unknown, .idle, .fault] → d.cfg.kind = k →
         answers i h 0x20 s .ok (.dialConfig cfg) ((closed h s).withDial c { d with cfg := cfg }))
       ∧ (d.stateIn s.time.validity ∈ [.held, .unknown, .idle, .fault] → d.cfg.kind ≠ k →
         answers i h 0x20 s .ok (.dialConfig cfg)
           ((closed h s).withDial c
             { d with cfg := cfg, pos := 0, known := false, target := dialTarget k s.time.instant })))
    ∧ (∀ (h : Header) (c : Nat) (s : State), Taken h s → 1 ≤ c → c ≤ 4 →
       let d := s.dial c
       let sets := fun (x : Dial) => (closed h s).withDial c x
       let settled := fun (x : Dial) => sets (x.settle s.time.validity s.time.instant s.elapsed)
       (d.impulse = none → answers (.dialHold h c) h 0x21 s .ok .none (sets { d with hold := true, due := false }))
         ∧ (d.impulse ≠ none → answers (.dialHold h c) h 0x21 s .ok .none (sets { d with hold := true, holdPending := true }))
         ∧ (∀ (position : Nat) (p : Option Bool),
           let q : Polarity := match p with | none => d.polarity | some b => if b then .neg else .pos
           let i : Instr := .dialSetPosition h c position (p.map Bool.toNat)
           let n := if d.cfg.kind = .minute then 720 else 1440
           (d.stateIn s.time.validity ∈ [.running, .wait, .catchUp, .idle] → answers i h 0x22 s .busy .none (closed h s))
             ∧ (d.stateIn s.time.validity ∈ [.held, .unknown, .fault] →
               answers i h 0x22 s .ok (.dialPosition (min (n - 1) position) q)
                 (settled { d with pos := min (n - 1) position, polarity := q, known := true })))
         ∧ (d.hold = true → answers (.dialRelease h c) h 0x23 s .ok .none (settled { d with hold := false, holdPending := false }))
         ∧ (d.hold = false → answers (.dialRelease h c) h 0x23 s .ok .none (closed h s))
         ∧ answers (.dialRead h c) h 0x24 s .ok
             (.dial d.cfg d.pos d.polarity (dialTarget d.cfg.kind s.time.instant) (d.stateIn s.time.validity) d.known d.hold
               d.holdPending (d.impulse.map (fun i => (i.polarity, i.ends - s.elapsed))))
             (closed h s))


/-! ## Score memory, tunes and chime sets (R40 to R58) -/

/-- R42, R44: SCORE-WINDOW sets its link's window and puts the cursor at its first row and column, or is refused with
BAD-VALUE. R47: SCORE-READ gives a run of cells in sequence, column 24 followed by the next row and row 1023 by row 0,
with the protect flag of each row reached; it changes no state. R41: SCORE-PROTECT sets or clears the flag of every
row from the first to the last and of no other, and gives the number of flags changed and of rows now protected; no
cell changes. -/
def Obligations.ScoreWindowReadAndProtect : Prop :=
  (∀ (h : Header) (s : State), Taken h s →
     (∀ r0 r1 c0 c1 : Nat, (r0 ≤ r1 ∧ r1 ≤ 1023 ∧ 1 ≤ c0 ∧ c0 ≤ c1 ∧ c1 ≤ 24 →
         let w : Window := { firstRow := r0, lastRow := r1, firstCol := c0, lastCol := c1, row := r0, col := c0, stream := false }
         answers (.scoreWindow h r0 r1 c0 c1) h 0x30 s .ok (.window w)
           ((closed h s).withLink h.link { (closed h s).link h.link with window := w }))
         ∧ (¬(r0 ≤ r1 ∧ r1 ≤ 1023 ∧ 1 ≤ c0 ∧ c0 ≤ c1 ∧ c1 ≤ 24) →
           answers (.scoreWindow h r0 r1 c0 c1) h 0x30 s .badValue .none (closed h s)))
       ∧ ∀ row col count : Nat, row ≤ 1023 → 1 ≤ col → col ≤ 24 →
         let n := max 1 (min 200 count)
         answers (.scoreRead h row col count) h 0x32 s .ok
           (.scoreCells row col n ((List.range n).map (fun k => cellAt s.score.cells ((24 * row + (col - 1) + k) % 24576)))
             ((List.range ((col - 1 + n + 23) / 24)).map (fun k => s.score.protectedRows.contains ((row + k) % 1024))))
           (closed h s))
    ∧ (∀ (h : Header) (r0 r1 : Nat) (on : Bool) (s : State), Taken h s → scoreOk s → r0 ≤ r1 → r1 ≤ 1023 →
       ∃ rows, answers (.scoreProtect h r0 r1 (if on then 0 else 1)) h 0x33 s .ok
           (.counts ((numbers r0 r1).filter (fun r => s.score.protectedRows.contains r != on)).length
             ((numbers 0 1023).filter (fun r => rows.contains r)).length)
           { closed h s with score := { s.score with protectedRows := rows } }
         ∧ ∀ r, rows.contains r = if r0 ≤ r ∧ r ≤ r1 then on else s.score.protectedRows.contains r)

/-- R43 to R45, R187: an accepted SCORE-WRITE takes its cells in turn, four to a byte with the first in the most
significant pair: each is stored at the cursor, or skipped on a protected row, and the cursor advances inside the
window; continue 0 begins at the window's first row and column, continue 1 where the cursor stands. Every cell that is
not stored to reads as before, and the stream is open. The refusals close the stream and store nothing. -/
def Obligations.ScoreWriteStores : Prop :=
  ∀ (h : Header) (goOn : Bool) (count : Nat) (packed : List Byte) (s : State), Taken h s →
    let i : Instr := .scoreWrite h goOn.toNat count packed
    let w := (s.link h.link).window
    let at_ := fun (k : Nat) => Window.advance^[k] (if goOn then w else { w with row := w.firstRow, col := w.firstCol })
    let cell := fun (k : Nat) => (packed.getD (k / 4) 0).extractLsb' (6 - 2 * (k % 4)) 2
    let kept := fun (r : Nat) => s.score.protectedRows.contains r
    (200 < count → answers i h 0x31 s .badValue .none (closed h s))
      ∧ (count ≤ 200 → packed.length ≠ (count + 3) / 4 → answers i h 0x31 s .badLength .none (closed h s))
      ∧ (count ≤ 200 → packed.length = (count + 3) / 4 → goOn = true → w.stream = false →
        answers i h 0x31 s .noStream .none (closed h s))
      ∧ (count ≤ 200 → packed.length = (count + 3) / 4 → (goOn = true → w.stream = true) → scoreOk s →
        ∃ m stored skipped,
          answers i h 0x31 s .ok (.stored stored skipped (at_ count).row (at_ count).col)
            ({ s with score := m }.withLink h.link { s.link h.link with window := { at_ count with stream := true } })
          ∧ m.protectedRows = s.score.protectedRows ∧ stored + skipped = count
          ∧ stored = ((List.range count).filter (fun k => !kept (at_ k).row)).length
          ∧ (∀ r c, r ≤ 1023 → 1 ≤ c → c ≤ 24 →
            (kept r = true ∨ ∀ k, k < count → ¬((at_ k).row = r ∧ (at_ k).col = c)) → m.read r c = s.score.read r c)
          ∧ ∀ k, k < count → kept (at_ k).row = false →
            (∀ j, j < count → k < j → ¬((at_ j).row = (at_ k).row ∧ (at_ j).col = (at_ k).col)) →
            m.read (at_ k).row (at_ k).col = cell k)

/-- R49, R50: TUNE-WRITE stores its record, clamped and valid; TUNE-CLEAR clears only the valid flag of a tune that no
chime position lists, and is refused with the first position that lists it, sets and then positions in order;
TUNE-READ gives the record and changes no state. That the record in TUNE-WRITE's OK reply carries no valid flag is the
model's choice (log entry 10). R56: CHIME-WRITE replaces one position with its tunes, its clamped step and its
pointer, 0 where it is absent, and is refused when a listed tune is not valid or the pointer is not below the count;
CHIME-READ gives the four positions of a set and changes no state. -/
def Obligations.TunesAndChimes : Prop :=
  (∀ (h : Header) (n : Nat) (s : State), Taken h s → n ≤ 31 →
     let lists := fun (k p : Nat) => n ∈ (nth (slot s.chimes k) p).tunes
     let stores := fun (ts : Vector Tune 32) (x : Tune) =>
       slot ts n = x ∧ ∀ m, m ≠ n → slot ts m = slot s.tunes m
     (∀ (start intro body coda passes beat : Nat) (shift : Int) (thin : Bool), start ≤ 1023 →
         let t : Tune :=
           { valid := true
             snap :=
               { start := start, intro := min 255 intro, body := max 1 (min 255 body), coda := min 255 coda
                 passes := max 1 (min 16 passes), beat := max 150 (min 3000 beat), shift := max (-11) (min 11 shift)
                 whole := !thin } }
         ∃ ts, answers (.tuneWrite h n start intro body coda passes beat shift thin.toNat) h 0x34 s .ok (.tuneStored n t.snap)
             { closed h s with tunes := ts } ∧ stores ts t)
       ∧ ((∀ k p, k ≤ 7 → 1 ≤ p → p ≤ 4 → ¬lists k p) →
         ∃ ts, answers (.tuneClear h n) h 0x35 s .ok .none { closed h s with tunes := ts }
           ∧ stores ts { slot s.tunes n with valid := false })
       ∧ (∀ k p, k ≤ 7 → 1 ≤ p → p ≤ 4 → lists k p →
         (∀ j q, j ≤ 7 → 1 ≤ q → q ≤ 4 → (j < k ∨ j = k ∧ q < p) → ¬lists j q) →
         answers (.tuneClear h n) h 0x35 s .badValue (.listedAt k p) (closed h s))
       ∧ answers (.tuneRead h n) h 0x36 s .ok (.tune n (slot s.tunes n)) (closed h s))
    ∧ (∀ (h : Header) (k : Nat) (s : State), Taken h s → k ≤ 7 →
       (∀ (p : Nat) (tunes : List Nat) (step : Nat) (pointer : Option Nat), 1 ≤ p → p ≤ 4 → tunes.length ≤ 4 →
           let i : Instr := .chimeWrite h k p tunes.length tunes step pointer
           let x : ChimePos := { tunes := tunes, pointer := pointer.getD 0, step := max 1 (min 3 step) }
           let fits := (∀ n ∈ tunes, n ≤ 31 ∧ (slot s.tunes n).valid = true)
             ∧ ∀ q, pointer = some q → q < tunes.length ∨ tunes = [] ∧ q = 0
           (fits → ∃ cs, answers i h 0x37 s .ok (.chime k p x) { closed h s with chimes := cs }
               ∧ nth (slot cs k) p = x
               ∧ ∀ j q, (j ≠ k ∨ q ≠ p) → nth (slot cs j) q = nth (slot s.chimes j) q)
             ∧ (¬fits → answers i h 0x37 s .badValue .none (closed h s)))
         ∧ answers (.chimeRead h k) h 0x38 s .ok (.chimes k ((numbers 1 4).map (nth (slot s.chimes k)))) (closed h s))

/-- R40 to R42, R45: every step keeps the score memory in its form (the model's own way to write it down, log entry 21:
cells rising, none 0, inside the 1024 rows of 24; protected rows rising and inside 0..1023) and both links' windows
and cursors inside it. -/
def Obligations.ScoreMemoryStaysInForm : Prop :=
  ∀ s t : State, scoreOk s → step s = .next t → scoreOk t


/-! ## Performances (R59 to R80) -/

/-- R60, R61: every step keeps the performance queue in its order, within its 8 places, with distinct ids, at most one
ACTIVE performance and at most one touch. -/
def Obligations.PerformanceQueueStaysInOrder : Prop :=
  ∀ s t : State, queueOk s → step s = .next t → queueOk t

/-- R59, R60, R62 to R65: what the queueing requests give and leave. The tests run in their order: key, mode, validity,
fields, room. A tune number outside 0..31 or of no valid tune, and a bell outside 1..24, are refused BAD-VALUE, and so
is a silence-clock flag that is neither 0 nor 1 (the model's choice, log entry 4). An accepted PLAY-TUNE or TOLL takes
a free id, the counter's value where no performance holds it, and joins the queue with its first landing, due start
and deadline; when its due start is now and no performance is ACTIVE it is tested, and unless it is omitted it starts
with S at now + 2,000. -/
def Obligations.QueueingRequests : Prop :=
  (∀ (h : Header) (src : Source) (i : Instr) (kind : Nat) (start : Option Nat) (wait : Nat) (s : State), Taken h s → queueOk s →
     ((∃ n shift, i = .playTune h n shift start wait ∧ kind = 0x40 ∧ n ≤ 31 ∧ (slot s.tunes n).valid = true
         ∧ src = .tune n { (slot s.tunes n).snap with
             shift := match shift with
               | none => (slot s.tunes n).snap.shift
               | some x => max (-11) (min 11 x) })
       ∨ ∃ bell strength interval count flag, i = .toll h bell strength interval count (Bool.toNat flag) start wait ∧ kind = 0x41
         ∧ 1 ≤ bell ∧ bell ≤ 24
         ∧ src = .toll bell (max 1 (min 3 strength)) (max 1000 (min 60000 interval)) (max 1 (min 1000 count)) flag) →
     let from_ := s.time.instant + 2000
     let free := h.link = s.key ∧ s.maintenance = false ∧ s.time.validity = .isSet
     (free → s.arbiter.queue.length = 8 → answers i h kind s .full .none (closed h s))
       ∧ (free → s.arbiter.queue.length < 8 →
         ∃ (id first : Nat) (t : State),
           let p : Perf :=
             { id := id, source := src, firstLanding := first, dueStart := (first : Int) - 2000
               deadline := (first : Int) - 2000 + (min 3600 wait * 1000 : Nat), state := .waiting, tested := false
               origin := none, cursor := 0, inStrike := false, stopped := none, booked := 0, dropped := 0
               lastTaken := none }
           answers i h kind s .ok (.queued id first p.dueStart p.deadline) t
             ∧ id ∉ s.arbiter.queue.map (·.id) ∧ 1 ≤ id ∧ id ≤ 255
             ∧ (s.arbiter.nextId ∉ s.arbiter.queue.map (·.id) → id = s.arbiter.nextId)
             ∧ t.arbiter.nextId = (if id < 255 then id + 1 else 1)
             ∧ (start = none → first = from_)
             ∧ (∀ m, start = some m → from_ ≤ first ∧ first < from_ + 86400000 ∧ first % 86400000 = min 86399999 m)
             ∧ ((activePerf s).isSome = true ∨ from_ < first → t =
               { closed h s with
                 arbiter :=
                   { s.arbiter with queue := enqueue p s.arbiter.queue, nextId := if id < 255 then id + 1 else 1 } })
             ∧ (activePerf s = none → first = from_ → nowSilenced s (if kind = 0x40 then .tune else .toll) = false →
               (match src with
                 | .tune _ snap => tuneLacks s snap = false
                 | .toll bell _ _ _ _ => (s.hammer bell).usable = true
                 | _ => False) →
               t =
               { closed h s with
                 arbiter :=
                   { s.arbiter with
                     queue := enqueue { p with state := .active, tested := true, origin := some (first : Int) } s.arbiter.queue
                     nextId := if id < 255 then id + 1 else 1 } })))
    ∧ ∀ (h : Header) (i : Instr) (kind : Nat) (fits : Prop) (start : Option Nat) (wait : Nat) (s : State), Taken h s →
      ((∃ n shift, i = .playTune h n shift start wait ∧ kind = 0x40
          ∧ (fits ↔ n ≤ 31 ∧ (slot s.tunes n).valid = true))
        ∨ ∃ bell strength interval count flag, i = .toll h bell strength interval count flag start wait ∧ kind = 0x41
          ∧ (fits ↔ 1 ≤ bell ∧ bell ≤ 24 ∧ flag ≤ 1)) →
      (h.link ≠ s.key → answers i h kind s .refusedLocal .none (closed h s))
        ∧ (h.link = s.key → s.maintenance = true → answers i h kind s .refusedMode .none (closed h s))
        ∧ (h.link = s.key → s.maintenance = false → s.time.validity = .unset →
          answers i h kind s .timeUnset .none (closed h s))
        ∧ (h.link = s.key → s.maintenance = false → s.time.validity = .isSet → ¬fits →
          answers i h kind s .badValue .none (closed h s))

/-- R77, R78, R116: HUSH stops the ACTIVE tune, toll or touch, and with its flag a clock event, at its cursor: with
entries in the strike queue it stays ACTIVE until they have been taken, and with none it ends at once. Every WAITING
and PAUSED tune, toll and touch leaves; WAITING clock events, and what an earlier HUSH has stopped, stay. Each one
that ends raises PERFORMANCE-ENDED, how HUSHED, those that leave in queue order before the one that was ACTIVE (the
order is the model's, log entry 14), and a touch is ENDED; the reply gives the number stopped and removed. What is
booked plays out. A performance that has offered its last row is stopped like any other, and a touch that its cut has
stopped is not stopped again (log entry 25). R68, R69: the parts a clock event has are those of the class record of
its date: a strike part at every hour of a class that strikes the hours, with as many strokes as the hour on the
twelve-hour dial from the hour on; a chime part where the class chimes the quarters, has a chime set, and the set's
position lists a tune at its pointer, the first row of a quarter's chime landing at the quarter and the last row of an
hour's chime at the gap before the hour. The event built is the first after the marker that is not in the queue,
builds something and has reached its build time; when none is built, every event after the marker is in the queue,
builds nothing or has its build time to come. It is built WAITING with its first landing the earlier of its parts; a
part too close is omitted LATE, and an event with no part left is omitted and served; with a full queue it is omitted
BUSY, found before a part is found late, and an event never built carries id 0 (log entry 13). That a late chime part
is reported before a late strike part is the model's choice (log entry 14). R76: a WAITING tune, toll or touch that
has been tested and has reached its deadline leaves the queue, with PERFORMANCE-OMITTED, reason LATE; a touch's
context becomes ENDED. -/
def Obligations.ClockEventsHushAndDeadline : Prop :=
  (∀ (h : Header) (clock : Bool) (s : State), Taken h s → queueOk s →
     let q := s.arbiter.queue
     let stops := fun p : Perf => p.state == .active && p.stopped.isNone && (clock || !p.isClock)
     let leaves := fun p : Perf => p.state != .active && p.stopped.isNone && !p.isClock
     let booked := fun p : Perf => s.strikes.any (fun e => e.id == p.id)
     let ends := fun p : Perf => leaves p || stops p && !booked p
     let ended := fun p : Perf =>
       some ({ instant := s.time.instant, detail := .performanceEnded p.id p.cls .hushed p.booked p.dropped } : Note)
     ∃ t, answers (.hush h clock.toNat) h 0x42 s .ok (.count (q.filter (fun p => stops p || leaves p)).length) t
       ∧ (((∀ p ∈ q, stops p = true → booked p = true)
             ∨ ∀ p ∈ q, leaves p = false → p.state = .waiting → (s.time.instant : Int) < p.dueStart) →
         t.arbiter = { s.arbiter with
             queue := (q.filter (fun p => !ends p)).map (fun p => if stops p then { p with stopped := some .hushed } else p) }
           ∧ t.touch = (if (q.filter ends).any (fun p => p.cls == .touch) then { s.touch with status := .ended } else s.touch)
           ∧ t.time = s.time ∧ t.chimes = s.chimes)
       ∧ (∀ p ∈ t.arbiter.queue, p.isClock = true ∨ p.state = .active ∧ p.stopped.isSome = true
           ∨ p.stopped.isSome = true ∧ ∃ q ∈ s.arbiter.queue, q.id = p.id ∧ q.stopped.isSome = true)
       ∧ (∀ p ∈ q, stops p = true → booked p = false → nth t.details 9 = ended p)
       ∧ ((∀ p ∈ q, stops p = true → booked p = true) → ∀ p, (q.filter leaves).getLast? = some p → nth t.details 9 = ended p)
       ∧ (∀ l, nth (s.link l).unmasked 9 = true → (q.filter ends) ≠ [] →
         nth (t.link l).pending 9 = min 255 (nth (s.link l).pending 9 + (q.filter ends).length))
       ∧ t.strikes = s.strikes ∧ t.time.instant = s.time.instant ∧ t.score = s.score ∧ t.tunes = s.tunes
       ∧ t.methods = s.methods ∧ t.hammers = s.hammers ∧ t.swings = s.swings ∧ t.lights = s.lights)
    ∧ (∀ (s : State) (e : Nat),
       let chime := planChime s e
       let strike := planStrike s e
       let cls := slot s.calendar.classes (classOf s.calendar (e / 96)).1
       let at_ : Int := (e * 900000 : Nat)
       let due := fun n : Nat => (firstOf (planChime s n) (planStrike s n)).map (· - 62000)
       let intime := fun (f : Int) => (s.time.instant : Int) + 2000 ≤ f
       let build := fun (c : Option ChimePart) (k : Option StrikePart) (f : Int) (x : State) =>
         { x with
           arbiter :=
             { x.arbiter with
               queue := enqueue
                 { id := newId s, source := .clock e c k, firstLanding := f, dueStart := f - 2000, deadline := f - 2000
                   state := .waiting, tested := false, origin := none, cursor := 0, inStrike := c.isNone, stopped := none
                   booked := 0, dropped := 0, lastTaken := none } x.arbiter.queue
               nextId := if newId s < 255 then newId s + 1 else 1 } }
       let late := fun (id : Nat) (part : ClockPart) => raise (.performanceOmitted id .clock .late part (some e) 0 0)
       let served := fun (x : State) => { x with time := { x.time with marker := some e } }
       (strike = if e % 4 = 0 ∧ cls.strikeHours = true then
             some { bell := s.arbiter.clockStrike.bell, strength := s.arbiter.clockStrike.strength
                    count := if e % 96 / 4 % 12 = 0 then 12 else e % 96 / 4 % 12, interval := s.arbiter.clockStrike.interval
                    first := at_ }
           else none)
         ∧ ((cls.chimeQuarters = false ∨ cls.chimeSet = none) → chime = none)
         ∧ (∀ k, cls.chimeQuarters = true → cls.chimeSet = some k →
           let position := if e % 4 = 0 then 4 else e % 4
           let p := nth (slot s.chimes k) position
           (p.tunes[p.pointer]? = none → chime = none)
             ∧ ∀ n, p.tunes[p.pointer]? = some n → ∃ c, chime = some c ∧ c.tune = n ∧ c.snap = (slot s.tunes n).snap
               ∧ c.chimeSet = k ∧ c.position = position ∧ c.entry = p.pointer ∧ (e % 4 ≠ 0 → c.first = at_)
               ∧ (e % 4 = 0 → c.first + ((c.snap.length - 1) * c.snap.beat : Nat) = at_ - (s.arbiter.clockStrike.gap : Int)))
         ∧ (s.power.operating = true → nextBuild s = none → exec .clockEventBuild s = .next s)
         ∧ (nextBuild s = none → s.time.validity = .isSet → s.arbiter.clockStrike.gap ≤ 10000 →
           (∀ k ∈ numbers 0 31, let t := (slot s.tunes k).snap
             t.intro ≤ 255 ∧ t.body ≤ 255 ∧ t.coda ≤ 255 ∧ t.passes ≤ 16 ∧ t.beat ≤ 3000) →
           ∀ m n, s.time.marker = some m → m < n → n * 900000 ≤ 3155759999999 →
             (∃ p ∈ s.arbiter.queue, p.event = some n) ∨ ∀ d, due n = some d → (s.time.instant : Int) < d)
         ∧ (s.power.operating = true → nextBuild s = some e →
           (∃ m, s.time.validity = .isSet ∧ s.time.marker = some m ∧ m < e ∧ (∀ p ∈ s.arbiter.queue, p.event ≠ some e)
               ∧ (∃ d, due e = some d ∧ d ≤ (s.time.instant : Int))
               ∧ ∀ n, m < n → n < e →
                 (∃ p ∈ s.arbiter.queue, p.event = some n) ∨ ∀ d, due n = some d → (s.time.instant : Int) < d)
           ∧ (8 ≤ s.arbiter.queue.length → exec .clockEventBuild s
               = .next (served (raise (.performanceOmitted 0 .clock .busy .whole (some e) 0 0) s)))
           ∧ (s.arbiter.queue.length < 8 → (∀ c, chime = some c → intime c.first) → (∀ k, strike = some k → intime k.first) →
             ∀ f, firstOf chime strike = some f → exec .clockEventBuild s = .next (build chime strike f s))
           ∧ (s.arbiter.queue.length < 8 → ∀ c k, chime = some c → strike = some k → ¬intime c.first → intime k.first →
             exec .clockEventBuild s = .next (build none strike k.first (late (newId s) .chime s)))
           ∧ (s.arbiter.queue.length < 8 → (∀ c, chime = some c → ¬intime c.first) → (∀ k, strike = some k → ¬intime k.first) →
             let s1 := if chime.isSome then late 0 .chime s else s
             exec .clockEventBuild s = .next (served (if strike.isSome then late 0 .strike s1 else s1)))))
    ∧ (∀ (s : State) (p : Perf), s.power.operating = true → queueOk s → p ∈ s.arbiter.queue → p.isClock = false →
       p.state = .waiting → p.tested = true → p.deadline ≤ s.time.instant →
       ∃ t, exec (.performanceDeadline p.id) s = .next t
         ∧ t.arbiter = { s.arbiter with queue := s.arbiter.queue.filter (fun x => x.id != p.id) }
         ∧ nth t.details 8
             = some { instant := s.time.instant, detail := .performanceOmitted p.id p.cls .late .whole none 0 0 }
         ∧ t.touch = (if p.cls = .touch then { s.touch with status := .ended } else s.touch)
         ∧ t.time = s.time ∧ t.strikes = s.strikes ∧ t.hammers = s.hammers ∧ t.swings = s.swings ∧ t.lights = s.lights)

/-- R66, R67, R70: QUEUE-READ gives the queue in its order, each performance with its slip limit and a touch with the
number of its method, the next-id counter and the free places; CLOCKSTRIKE-CONFIG and SILENCE-WRITE store their
clamped fields and change nothing else; CLOCKSTRIKE-READ and SILENCE-READ give what is stored. R70, R71: a class is
silenced at a minute of a day of a class when an enabled entry whose mask holds the class of the day, whose window
holds the minute and whose silenced classes hold the class exists, or a RUNNING timer holds the class in its mask. A
window that begins before it ends runs from its start to before its end, one that ends before it begins runs over
midnight, and one of equal ends is the whole day. -/
def Obligations.SettingsAndSilence : Prop :=
  (∀ (h : Header) (s : State), Taken h s →
     answers (.queueRead h) h 0x43 s .ok
         (.queue
           (s.arbiter.queue.map (fun p => (p, slipLimit s p, if p.cls = .touch then some s.touch.method else none)))
           s.arbiter.nextId (8 - s.arbiter.queue.length))
         (closed h s)
       ∧ (∀ bell strength interval gap, 1 ≤ bell → bell ≤ 24 →
         let c : ClockStrike :=
           { bell := bell, strength := max 1 (min 3 strength), interval := max 1000 (min 6000 interval), gap := min 10000 gap }
         answers (.clockstrikeConfig h bell strength interval gap) h 0x44 s .ok (.clockStrike c)
           { closed h s with arbiter := { s.arbiter with clockStrike := c } })
       ∧ answers (.clockstrikeRead h) h 0x45 s .ok (.clockStrike s.arbiter.clockStrike) (closed h s)
       ∧ (∀ (entry : Nat) (on : Bool) (start stop classes silenced : Nat), entry ≤ 15 → classes < 256 → silenced < 64 →
         ∃ es, answers (.silenceWrite h entry on.toNat start stop classes silenced) h 0x46 s .ok .none
             { closed h s with arbiter := { s.arbiter with silence := es } }
           ∧ slot es entry =
             { enable := on, start := min 1439 start, stop := min 1439 stop, classes := BitVec.ofNat 8 classes
               silenced := BitVec.ofNat 6 silenced }
           ∧ ∀ e, e ≠ entry → slot es e = slot s.arbiter.silence e)
       ∧ (∀ (entry : Nat) (on : Bool) (start stop classes silenced : Nat), (15 < entry ∨ 63 < silenced) →
         answers (.silenceWrite h entry on.toNat start stop classes silenced) h 0x46 s .badValue .none (closed h s))
       ∧ answers (.silenceRead h) h 0x47 s .ok (.silences ((List.range 16).map (slot s.arbiter.silence))) (closed h s))
    ∧ (∀ (s : State) (k : SilenceClass) (m d : Nat), silenced s k m d = true ↔
       (∃ n, n ≤ 15 ∧ let e := slot s.arbiter.silence n
           e.enable = true ∧ e.classes.getLsbD d = true ∧ e.silenced.getLsbD k.bit = true
             ∧ (e.start < e.stop ∧ e.start ≤ m ∧ m < e.stop ∨ e.stop < e.start ∧ (e.start ≤ m ∨ m < e.stop)
               ∨ e.start = e.stop))
         ∨ ∃ n, (n = 1 ∨ n = 2) ∧ (s.timer n).ends.isSome = true ∧ (s.timer n).mask.getLsbD k.bit = true)

/-- R58, R62, R72, R73: the test of a performance at its due start in RUN. A silenced tune, toll or touch is omitted; with
no ACTIVE performance it starts with S at now + 2,000; behind one it waits, tested. A clock event none of whose parts
is silenced or lacks its hammers starts at its own instants when nothing is ACTIVE or after a tune or a toll that
gives way, which is PAUSED at its cursor; the marker moves to it, and its chime advances its position's pointer.
Behind anything else it is omitted BUSY. R71, R72, R73, R80, R116: what the test at a due start omits. In MAINTENANCE
every performance is omitted, reason MODE; a clock event at or before the marker is omitted BUSY with the marker left;
a silenced tune, toll or touch is omitted SILENCE, and a WHOLE tune or a toll that lacks a hammer WITHDRAWN, with a
touch's context ENDED. A part of a clock event is omitted by itself, SILENCE before WITHDRAWN, and the other part
starts, or is omitted BUSY behind a performance that does not give way (its notice then naming that part, log entry
13); with no part left the event is omitted and served, its chime's pointer left as it was. That a part omitted is
then gone from the event's source, and that the chime's notice comes before the strike's, are the model's choices (log
entries 13, 14). -/
def Obligations.DueStartArbitration : Prop :=
  (∀ (s : State) (p : Perf), s.power.operating = true → s.maintenance = false → queueOk s → p ∈ s.arbiter.queue →
     p.state = .waiting → p.tested = false → p.dueStart ≤ s.time.instant →
     let becomes := fun (id : Nat) (f : Perf → Perf) (q : List Perf) => q.map (fun x => if x.id = id then f x else x)
     let omission := fun (r : OmitReason) (e : Option Nat) =>
       some ({ instant := s.time.instant, detail := .performanceOmitted p.id p.cls r .whole e 0 0 } : Note)
     (∀ k, (∃ n x, p.source = .tune n x ∧ k = .tune ∧ tuneLacks s x = false)
           ∨ (∃ b v x n f, p.source = .toll b v x n f ∧ k = .toll ∧ (s.hammer b).usable = true)
           ∨ (p.source = .touch ∧ k = SilenceClass.touch) →
         (nowSilenced s k = true → ∃ t, exec (.dueStart p.id) s = .next t
             ∧ t.arbiter.queue = s.arbiter.queue.filter (fun x => x.id != p.id) ∧ nth t.details 8 = omission .silence none)
           ∧ (nowSilenced s k = false → activePerf s = none → exec (.dueStart p.id) s = .next
             { s with
               arbiter :=
                 { s.arbiter with
                   queue := becomes p.id
                     (fun x => { x with state := .active, tested := true, origin := some ((s.time.instant : Int) + 2000) })
                     s.arbiter.queue }
               touch := if p.source = .touch then { s.touch with status := .ringing, phase := .opening } else s.touch })
           ∧ (nowSilenced s k = false → (activePerf s).isSome = true → exec (.dueStart p.id) s = .next
             { s with
               arbiter :=
                 { s.arbiter with queue := becomes p.id (fun x => { x with tested := true }) s.arbiter.queue } }))
       ∧ ∀ e c k, p.source = .clock e c k → (c ≠ none ∨ k ≠ none) → (∃ m, s.time.marker = some m ∧ m < e) →
         (∀ x, c = some x → eventSilenced s e .quarters = false ∧ tuneLacks s x.snap = false ∧ x.chimeSet ≤ 7
           ∧ 1 ≤ x.position ∧ x.position ≤ 4) →
         (∀ x, k = some x → eventSilenced s e .hour = false ∧ (s.hammer x.bell).usable = true) →
         (∀ a, activePerf s = some a → a.yieldsToClock = false →
             ∃ t, exec (.dueStart p.id) s = .next t ∧ t.arbiter.queue = s.arbiter.queue.filter (fun x => x.id != p.id)
               ∧ t.time = { s.time with marker := some e } ∧ nth t.details 8 = omission .busy (some e) ∧ t.chimes = s.chimes)
           ∧ ((∀ a, activePerf s = some a → a.yieldsToClock = true) →
             ∃ cs, exec (.dueStart p.id) s = .next
               { s with
                 arbiter :=
                   { s.arbiter with
                     queue := becomes p.id
                       (fun x => { x with state := .active, tested := true, inStrike := c.isNone })
                       (match activePerf s with
                         | none => s.arbiter.queue
                         | some a => becomes a.id (fun x => { x with state := .paused }) s.arbiter.queue) }
                 time := { s.time with marker := some e }
                 chimes := cs }
               ∧ (c = none → cs = s.chimes)
               ∧ ∀ x, c = some x → let was := nth (slot s.chimes x.chimeSet) x.position
                   nth (slot cs x.chimeSet) x.position
                       = (if was.tunes = [] then was else { was with pointer := (was.pointer + was.step) % was.tunes.length })
                     ∧ ∀ j q, (j ≠ x.chimeSet ∨ q ≠ x.position) → nth (slot cs j) q = nth (slot s.chimes j) q))
    ∧ (∀ (s : State) (p : Perf), s.power.operating = true → queueOk s → p ∈ s.arbiter.queue → p.state = .waiting →
       p.tested = false → p.dueStart ≤ s.time.instant →
       let u := s.touch
       let queue := s.arbiter.queue.filter (fun x => x.id != p.id)
       let tells := fun (t : State) (r : OmitReason) (part : ClockPart) (e : Option Nat) =>
         nth t.details 8 = some { instant := s.time.instant, detail := .performanceOmitted p.id p.cls r part e 0 0 }
       let still := fun (t : State) => t.strikes = s.strikes ∧ t.hammers = s.hammers ∧ t.chimes = s.chimes
       (p.isClock = false →
           let out := fun (r : OmitReason) => ∃ t, exec (.dueStart p.id) s = .next t ∧ t.arbiter = { s.arbiter with queue := queue }
             ∧ tells t r .whole none ∧ t.time = s.time ∧ still t
             ∧ (p.cls ≠ .touch → t.touch = u)
             ∧ (p.cls = .touch → t.touch = { u with status := .ended }
               ∧ nth t.details 11 = some
                 { instant := s.time.instant
                   detail := .touchEnded p.id u.method .omitted (some r) u.cameRound u.rowsRung u.changedRows u.falseRows
                     u.leadNumber u.nextCall u.calls.length u.row })
           let silent := fun k => nowSilenced s k = true
           (s.maintenance = true → out .mode)
             ∧ (s.maintenance = false → (p.cls = .tune → silent .tune) → (p.cls = .toll → silent .toll) →
               (p.cls = .touch → silent .touch) → out .silence)
             ∧ (s.maintenance = false → ∀ n x, p.source = .tune n x → ¬silent .tune → tuneLacks s x = true → out .withdrawn)
             ∧ (s.maintenance = false → ∀ b v x n f, p.source = .toll b v x n f → ¬silent .toll → (s.hammer b).usable = false →
               out .withdrawn))
         ∧ ∀ e c k m, p.source = .clock e c k → s.time.marker = some m → (∀ a ∈ s.arbiter.queue, heldBack s a = false) →
           let serves := fun (n : Nat) (t : State) => t.time = { s.time with marker := some n }
           let gone := fun (t : State) => exec (.dueStart p.id) s = .next t ∧ t.arbiter = { s.arbiter with queue := queue }
             ∧ t.touch = s.touch ∧ still t
           let lostC := fun x : ChimePart => eventSilenced s e .quarters || tuneLacks s x.snap
           let lostK := fun x : StrikePart => eventSilenced s e .hour || !(s.hammer x.bell).usable
           let whyC := if eventSilenced s e .quarters then OmitReason.silence else .withdrawn
           let whyK := if eventSilenced s e .hour then OmitReason.silence else .withdrawn
           let told := fun (r : OmitReason) (part : ClockPart) => raise (.performanceOmitted p.id .clock r part (some e) 0 0) s
           let becomes := fun (id : Nat) (f : Perf → Perf) (q : List Perf) => q.map (fun x => if x.id = id then f x else x)
           let paused := match activePerf s with
             | none => s.arbiter.queue
             | some a => becomes a.id (fun x => { x with state := .paused }) s.arbiter.queue
           let starts := fun (c : Option ChimePart) (k : Option StrikePart) => becomes p.id
             (fun x => { x with state := .active, tested := true, source := .clock e c k, inStrike := c.isNone }) paused
           (s.maintenance = true → ∃ t, gone t ∧ tells t .mode .whole (some e) ∧ serves (max m e) t)
             ∧ (s.maintenance = false → e ≤ m → ∃ t, gone t ∧ tells t .busy .whole (some e) ∧ t.time = s.time)
             ∧ (s.maintenance = false → m < e → (c ≠ none ∨ k ≠ none) → (∀ x, c = some x → lostC x = true) →
               (∀ x, k = some x → lostK x = true) →
               ∃ t, gone t ∧ serves e t
                 ∧ (c = none → tells t whyK .strike (some e))
                 ∧ (k = none → tells t whyC .chime (some e))
                 ∧ (c ≠ none → k ≠ none → (whyK = .withdrawn ∨ whyC = .silence) → tells t whyK .strike (some e))
                 ∧ (c ≠ none → k ≠ none → whyK = .silence → whyC = .withdrawn → tells t .withdrawn .chime (some e)))
             ∧ (s.maintenance = false → m < e → ∀ x y, c = some x → k = some y → lostC x = true → lostK y = false →
               ((∀ a, activePerf s = some a → a.yieldsToClock = true) → exec (.dueStart p.id) s = .next
                 { told whyC .chime with
                   arbiter := { s.arbiter with queue := starts none (some y) }, time := { s.time with marker := some e } })
               ∧ (∀ a, activePerf s = some a → a.yieldsToClock = false →
                 ∃ t, gone t ∧ serves e t ∧ tells t .busy .strike (some e)))
             ∧ (s.maintenance = false → m < e → ∀ x y, c = some x → k = some y → lostC x = false → lostK y = true →
               ((∀ a, activePerf s = some a → a.yieldsToClock = true) → x.chimeSet ≤ 7 → 1 ≤ x.position → x.position ≤ 4 →
                 ∃ cs, exec (.dueStart p.id) s = .next
                   { told whyK .strike with
                     arbiter := { s.arbiter with queue := starts (some x) none }, time := { s.time with marker := some e }
                     chimes := cs }
                   ∧ (let was := nth (slot s.chimes x.chimeSet) x.position
                      nth (slot cs x.chimeSet) x.position
                       = if was.tunes = [] then was else { was with pointer := (was.pointer + was.step) % was.tunes.length }))
               ∧ (∀ a, activePerf s = some a → a.yieldsToClock = false →
                 ∃ t, gone t ∧ serves e t ∧ tells t .busy .chime (some e))))

/-- R65, R86 to R89: ROW-EMISSION of a toll's stroke. A usable hammer whose actuation slips by no more than a quarter of
the interval is booked at the latest of the wanted actuation, now and its booked-until; a stroke that slips more is
dropped LATE, and a stroke on a hammer that is not usable is dropped with its reason; that its slip is then given as 0
is the model's choice (log entry 26). The cursor moves on. -/
def Obligations.TollStrokeEmitted : Prop :=
  ∀ (s : State) (p : Perf) (bell strength interval count : Nat) (flag : Bool) (origin : Int), s.power.operating = true →
    queueOk s → p ∈ s.arbiter.queue → p.state = .active → p.source = .toll bell strength interval count flag →
    p.origin = some origin → p.cursor + 1 < count → p.stopped = none → heldBack s p = false → 1 ≤ bell → bell ≤ 24 →
    s.strikes.length < 48 →
    let hm := s.hammer bell
    let wanted := origin + ((p.cursor * interval : Nat) : Int)
    let floor := max (wanted - (hm.lead : Int)) (s.time.instant : Int)
    let a := match bookedUntil s bell with
      | none => floor
      | some b => max floor b
    let slip := a - (wanted - (hm.lead : Int))
    let moves := fun (f : Perf → Perf) (x : State) =>
      { x with arbiter := { x.arbiter with queue := x.arbiter.queue.map (fun y => if y.id = p.id then f y else y) } }
    let dropped := fun (r : DropReason) (n : Nat) =>
      raise (.strokeDropped p.id .toll p.cursor bell strength r wanted n)
        (moves (fun y => { y with dropped := min 65535 (y.dropped + 1), cursor := y.cursor + 1 }) s)
    wanted - (hm.lead : Int) ≤ (s.time.instant : Int) + 1500 →
    (hm.usable = true → slip ≤ ((interval / 4 : Nat) : Int) → exec .rowEmission s = .next
        (moves (fun y => { y with booked := min 65535 (y.booked + 1), cursor := y.cursor + 1 })
          { s with
            strikes := insertEntry
              { bell := bell, actuation := a, strike := a + (hm.lead : Int), pulse := (hm.width * (strength + 1) + 2) / 4
                id := p.id, row := p.cursor, cls := .toll, strength := strength, wanted := wanted } s.strikes }))
      ∧ (hm.usable = true → ((interval / 4 : Nat) : Int) < slip → exec .rowEmission s = .next (dropped .late slip.toNat))
      ∧ (hm.usable = false → exec .rowEmission s = .next
        (dropped (if hm.fitted = false then .notFitted else if hm.state = .fault then .fault else .withdrawn) 0))

/-- R51 to R53, R65, R69, R77, R86 to R89, R112, R114, R115: ROW-EMISSION of any row. What a row holds: a tune's or a
chime's row is the score row at its place in the playing order, each cell that is not 0 a stroke of the shifted bell,
columns ascending, all at the row's instant; an hour stroke and a toll's stroke are one stroke; a touch's row is the
row that the context forms, its bells in striking order, a beat apart, from the row's start. A row waits while its
performance is stopped, holds back or has nothing left, while its earliest wanted actuation is more than 1,500 ms
ahead, and while the strike queue has too few places. It is then emitted: a touch's row is taken, with FALSE-ROW for a
repeated row and a cut at the maximum of changed rows; strokes outside 1..24 are dropped OUT-OF-RANGE, and the others
booked or dropped in their order, each behind those before it; the cursor moves to the next row, or from the last
chime row to the first hour stroke. A performance that then has nothing left and no entry ends at once. A drop for a
reason other than LATE carries a slip of 0 (log entry 26), and the strokes outside 1..24 come before the others (the
model's choice, log entry 14). -/
def Obligations.RowEmission : Prop :=
  (∀ (s : State) (p : Perf),
      let r := rowAt s p
      let playing := fun (t : TuneSnap) (first : Int) =>
        let j := p.cursor
        let w := first + ((j * t.beat : Nat) : Int)
        let body := t.body * t.passes
        let row := (if j < t.intro then t.start + j
          else if j < t.intro + body then t.start + t.intro + (j - t.intro) % t.body
          else t.start + t.intro + t.body + (j - t.intro - body)) % 1024
        r = { number := j, landing := w
              strokes := ((numbers 1 24).filter (fun c : Nat => s.score.read row c != 0)).map (fun c : Nat =>
                { bell := (c : Int) + t.shift, strength := (s.score.read row c).toNat, wanted := w }) }
          ∧ slipLimit s p = t.beat / 2
      let one := fun (bell strength interval : Nat) (first : Int) =>
        let w := first + ((p.cursor * interval : Nat) : Int)
        r = { number := p.cursor, landing := w, strokes := [{ bell := bell, strength := strength, wanted := w }] }
          ∧ slipLimit s p = interval / 4
      (∀ n t o, p.source = .tune n t → p.origin = some o → playing t o)
        ∧ (∀ e c k, p.source = .clock e (some c) k → p.inStrike = false → playing c.snap c.first)
        ∧ (∀ e c k, p.source = .clock e c (some k) → (p.inStrike = true ∨ c = none) → one k.bell k.strength k.interval k.first)
        ∧ (∀ b v i n f o, p.source = .toll b v i n f → p.origin = some o → one b v i o)
        ∧ (∀ o, p.source = .touch → p.origin = some o →
          let t := s.touch
          let n := match t.rowNumber with | none => 0 | some n => n + 1
          let bells := t.form.map (fun w => t.snap.bells.getD (w - 1) 0) ++ t.snap.cover.toList
          r.number = n ∧ r.landing = t.rowStart o n ∧ slipLimit s p = t.beat / 4 ∧ r.strokes.length = bells.length
            ∧ ∀ k, k < bells.length → r.strokes[k]? = some
              { bell := (bells.getD k 0 : Nat), strength := t.strength, wanted := t.rowStart o n + ((k * t.beat : Nat) : Int) }))
    ∧ (∀ (p : Perf) (row limit : Nat) (s : State) (k : Stroke),
      let b := k.bell.toNat
      let hm := s.hammer b
      let floor := max (k.wanted - (hm.lead : Int)) (s.time.instant : Int)
      let a := match bookedUntil s b with
        | none => floor
        | some u => max floor u
      let slip := a - (k.wanted - (hm.lead : Int))
      let moves := fun (f : Perf → Perf) (x : State) =>
        { x with arbiter := { x.arbiter with queue := x.arbiter.queue.map (fun y => if y.id = p.id then f y else y) } }
      let dropped := fun (r : DropReason) (n : Nat) =>
        raise (.strokeDropped p.id p.cls row k.bell k.strength r k.wanted n)
          (moves (fun y => { y with dropped := min 65535 (y.dropped + 1) }) s)
      let inside := 1 ≤ k.bell ∧ k.bell ≤ 24
      (¬inside → bookStroke p row limit s k = dropped .outOfRange 0)
        ∧ (inside → hm.usable = false → bookStroke p row limit s k
          = dropped (if hm.fitted = false then .notFitted else if hm.state = .fault then .fault else .withdrawn) 0)
        ∧ (inside → hm.usable = true → (limit : Int) < slip → bookStroke p row limit s k = dropped .late slip.toNat)
        ∧ (inside → hm.usable = true → slip ≤ (limit : Int) → bookStroke p row limit s k
          = moves (fun y => { y with booked := min 65535 (y.booked + 1) })
            { s with
              strikes := insertEntry
                { bell := b, actuation := a, strike := a + (hm.lead : Int), pulse := (hm.width * (k.strength + 1) + 2) / 4
                  id := p.id, row := row, cls := p.cls, strength := k.strength, wanted := k.wanted } s.strikes }))
    ∧ ∀ (s : State) (p : Perf), s.power.operating = true → queueOk s → p ∈ s.arbiter.queue → p.state = .active →
      let r := rowAt s p
      let now : Int := s.time.instant
      let inside := r.strokes.filter (fun k => decide (1 ≤ k.bell ∧ k.bell ≤ 24))
      let outside := r.strokes.filter (fun k => !decide (1 ≤ k.bell ∧ k.bell ≤ 24))
      let wants := fun k : Stroke => k.wanted - ((s.hammer k.bell.toNat).lead : Int)
      let early := inside = [] ∧ now + 1500 < r.landing ∨ inside ≠ [] ∧ ∀ k ∈ inside, now + 1500 < wants k
      let full := 48 < inside.length + s.strikes.length
      let mine := fun (f : Perf → Perf) (x : State) =>
        { x with arbiter := { x.arbiter with queue := x.arbiter.queue.map (fun y => if y.id = p.id then f y else y) } }
      let u := s.touch
      let v := u.take
      let repeats := u.phase == .changes && u.form != rounds u.snap.stage && u.marks.any (fun ms => ms.contains (rank u.form))
      let cut := p.cls == .touch && u.phase == .changes && v.phase == .changes && v.changedRows == v.maximum
      let s1 := if p.cls = .touch then
          let s0 : State := { s with touch := v }
          if repeats then
            raise (.falseRow u.id (match u.rowNumber with | none => 0 | some n => n + 1) u.form (rank u.form) u.leadNumber
              u.changeIndex) s0
          else s0
        else s
      let s2 := (outside ++ inside).foldl (bookStroke p r.number (slipLimit s p))
        (if cut then mine (fun y => { y with stopped := some .cut }) s1 else s1)
      let next := fun (y : Perf) =>
        match y.source with
        | .clock _ (some c) (some _) =>
          if y.inStrike = false ∧ c.snap.length ≤ y.cursor + 1 then { y with cursor := 0, inStrike := true }
          else { y with cursor := y.cursor + 1 }
        | _ => { y with cursor := y.cursor + 1 }
      let s3 := mine next s2
      let more := match p.source with
        | .tune _ t => decide (p.cursor + 1 < t.length)
        | .toll _ _ _ n _ => decide (p.cursor + 1 < n)
        | .touch => !cut && !(v.phase == .closing && v.closingLeft == 0)
        | .clock _ c k =>
          if p.inStrike then k.any (fun k => decide (p.cursor + 1 < k.count))
          else c.any (fun c => decide (p.cursor + 1 < c.snap.length)) || k.any (fun k => decide (0 < k.count))
      ((p.stopped ≠ none ∨ remains s p = false ∨ heldBack s p = true ∨ early ∨ full) → exec .rowEmission s = .next s)
        ∧ (p.stopped = none → remains s p = true → heldBack s p = false → ¬early → ¬full →
          ((more = true ∨ ∃ x ∈ s3.strikes, x.id = p.id) → exec .rowEmission s = .next s3)
          ∧ (more = false → (∀ x ∈ s3.strikes, x.id ≠ p.id) → ∃ t, exec .rowEmission s = .next t
            ∧ t.strikes = s3.strikes ∧ (∀ y ∈ t.arbiter.queue, y.id ≠ p.id)
            ∧ ∀ y ∈ s3.arbiter.queue, y.id = p.id → nth t.details 9 = some
              { instant := s.time.instant
                detail := .performanceEnded p.id p.cls (if cut then .cut else .complete) y.booked y.dropped }))

/-- R12, R68, R75, R76, R79, R93: how the arbiter and the strike scheduler react to a step, by a TIME-SET or a ZONE-SET
made with validity SET and nothing queued for the supply. Every un-taken entry but those of an ACTIVE clock moves by
the step, and so does every recovery end; a pulse in flight is not touched. The clock events leave, and those whose
build time has come and whose due start is ahead are built afresh, while there is room; every tune, toll and touch
moves by the step. On a forward step the events passed are omitted, with one CLOCK-EVENTS-SKIPPED of their number, the
first and the last, the marker moves to the last, and one that had been waiting raises PERFORMANCE-OMITTED, reason
STEP, several of them in queue order (the model's choice, log entry 14). An ACTIVE clock ends, how STEP, and a PAUSED
performance resumes at now + 2,000; a hold whose clock is not rebuilt is re-based. The first landing and the wanted
strike instant that a drop would report move with the rest (log entries 13, 26). No event further off than 13,839 s
can have reached its build time. R62, R74 to R77, R79: what follows when a clock ends or is omitted. When the last
entry of an ACTIVE clock is taken and nothing is left of it, it ends, and a PAUSED tune or toll resumes so that the
row at its cursor lands one beat or interval after that blow; with none PAUSED the first WAITING performance in queue
order whose due start has come is tested, and one that is not silenced and lacks no hammer starts with S at now +
2,000. A hold kept for a clock event that is then omitted ends: the performance that held back is re-based so that the
row at its cursor lands at the later of its planned landing and now + 2,000. -/
def Obligations.StepAndResumption : Prop :=
  (∀ (s : State) (i : Instr) (h : Header) (kind m new : Nat) (d : Int), Taken h s → queueOk s → nothingDue s →
     s.time.validity = .isSet → s.time.marker = some m → s.allowance.queue = [] →
     (new : Int) = s.time.instant + d → d ≠ 0 → new ≤ 3155759999999 →
     ((∃ z, i = .zoneSet h z ∧ kind = 0x11 ∧ -120 ≤ z ∧ z ≤ 120 ∧ d = z * 60000 ∧ -720 ≤ s.time.zone + z
         ∧ s.time.zone + z ≤ 720)
       ∨ ∃ y mo da ms, i = .timeSet h y mo da ms ∧ kind = 0x10 ∧ 2000 ≤ y ∧ y ≤ 2099 ∧ 1 ≤ mo ∧ mo ≤ 12 ∧ 1 ≤ da
         ∧ da ≤ monthLength y mo ∧ ms < 86400000 ∧ new = dayNumber y mo da * 86400000 + ms) →
     let now : Int := new
     let shifted := fun p : Perf =>
       if p.isClock then p
       else { p with
         firstLanding := p.firstLanding + d, dueStart := p.dueStart + d, deadline := p.deadline + d
         origin := p.origin.map (· + d), lastTaken := p.lastTaken.map (· + d) }
     let plain := fun q : List Perf => q.filter (fun p => !p.isClock)
     let due := fun n : Nat => (firstOf (planChime s n) (planStrike s n)).map (· - 2000)
     let near := fun n : Nat => n ≤ min (new + 13839000) 3155759999999 / 900000
     let passed := (numbers (m + 1) (min (new + 13839000) 3155759999999 / 900000)).filter
       (fun n => (due n).any (fun x => decide (x ≤ now)))
     let quiet := ∀ a ∈ s.arbiter.queue, a.isClock = true → a.state = .waiting
     ∃ st b t, answers i h kind s st b t ∧ st = .ok ∧ t.time.instant = new
       ∧ t.strikes = (s.strikes.filter (fun e => (s.arbiter.queue.filter (fun p => p.isClock && p.state == .active)).all
             (fun p => p.id != e.id))).map
           (fun e => { e with actuation := e.actuation + d, strike := e.strike + d, wanted := e.wanted + d })
       ∧ (∀ b ∈ numbers 1 24, t.hammer b = { s.hammer b with recoveryEnd := (s.hammer b).recoveryEnd.map (· + d) })
       ∧ (∀ c ∈ t.arbiter.queue, c.isClock = true → c.state = .waiting ∧ ∃ n mk, c.event = some n ∧ m < n
           ∧ t.time.marker = some mk ∧ now < c.dueStart ∧ c.dueStart - 60000 ≤ now)
       ∧ (quiet → t.arbiter.queue.length < 8 → ∀ n mk x, t.time.marker = some mk → mk < n → near n → due n = some x →
           now < x → x - 60000 ≤ now → ∃ c ∈ t.arbiter.queue, c.event = some n)
       ∧ (quiet → (∀ a ∈ s.arbiter.queue, heldBack s a = false) →
           plain t.arbiter.queue = (plain s.arbiter.queue).map shifted)
       ∧ (quiet → t.arbiter.queue.length < 8 → (d < 0 ∨ passed = []) → t.time.marker = some m
           ∧ nth t.details 3 = nth s.details 3)
       ∧ (0 < d → ∀ a z, passed.head? = some a → passed.getLast? = some z →
           nth t.details 3 = some { instant := new, detail := .clockEventsSkipped (min 65535 passed.length) a z }
           ∧ (∃ mk, t.time.marker = some mk ∧ z ≤ mk)
           ∧ (quiet → t.arbiter.queue.length < 8 → t.time.marker = some z
             ∧ ∀ p, (s.arbiter.queue.filter (fun p => p.isClock && p.event.any passed.contains)).getLast? = some p →
               nth t.details 8 = some { instant := new, detail := .performanceOmitted p.id .clock .step .whole p.event 0 0 }))
       ∧ (∀ a, activePerf s = some a → a.isClock = true →
           nth t.details 9 = some { instant := new, detail := .performanceEnded a.id .clock .step a.booked a.dropped }
           ∧ ∀ q, s.arbiter.queue.find? (fun p => p.state == .paused && p.stopped.isNone) = some q → q.isClock = false →
             { shifted q with state := .active, origin := some (now + 2000 - (q.cursor : Int) * q.spacing) } ∈ t.arbiter.queue)
       ∧ (∀ a, activePerf s = some a → heldBack s a = true →
           ((∀ c ∈ t.arbiter.queue, c.isClock = true → a.cursorLanding + d < c.firstLanding - a.spacing) → a.origin ≠ none →
             { shifted a with
               origin := some (max (a.cursorLanding + d) (now + 2000) - (a.cursor : Int) * a.spacing) } ∈ t.arbiter.queue)
           ∧ ((∃ c ∈ t.arbiter.queue, c.isClock = true ∧ c.firstLanding - a.spacing ≤ a.cursorLanding + d) → a.origin ≠ none →
             shifted a ∈ t.arbiter.queue)))
    ∧ ((∀ (s : State) (e : Entry) (rest : List Entry) (p : Perf), s.power.operating = true → queueOk s → s.strikes = e :: rest →
         e.actuation ≤ s.time.instant → 1 ≤ e.bell → e.bell ≤ 24 → (s.hammer e.bell).state = .ready →
         p ∈ s.arbiter.queue → p.id = e.id → p.state = .active → (p.stopped = none ∧ remains s p = false ∨ p.stopped = some .hushed) →
         (∀ r ∈ rest, r.id ≠ e.id) →
         let others := s.arbiter.queue.filter (fun x => x.id != p.id)
         let becomes := fun (id : Nat) (f : Perf → Perf) => others.map (fun x => if x.id = id then f x else x)
         (∀ q, p.isClock = true → s.arbiter.queue.find? (fun x => x.state == .paused && x.stopped.isNone) = some q →
             ∃ t, exec .strikeEntryTaken s = .next t
               ∧ t.arbiter = { s.arbiter with queue := becomes q.id (fun x =>
                   { x with state := .active, origin := some (e.strike + q.spacing - (q.cursor : Int) * q.spacing) }) }
               ∧ t.touch = s.touch ∧ t.time = s.time)
           ∧ (∀ w k, p.cls ≠ .touch → s.maintenance = false →
             s.arbiter.queue.find? (fun x => x.state == .paused && x.stopped.isNone) = none →
             s.arbiter.queue.find? (fun x => x.state == .waiting && decide (x.dueStart ≤ (s.time.instant : Int))) = some w →
             ((∃ n x, w.source = .tune n x ∧ k = .tune ∧ tuneLacks s x = false)
               ∨ (∃ b v x n f, w.source = .toll b v x n f ∧ k = .toll ∧ (s.hammer b).usable = true)
               ∨ (w.source = .touch ∧ k = SilenceClass.touch)) →
             nowSilenced s k = false →
             ∃ t, exec .strikeEntryTaken s = .next t
               ∧ t.arbiter = { s.arbiter with queue := becomes w.id (fun x =>
                   { x with state := .active, tested := true, origin := some ((s.time.instant : Int) + 2000) }) }
               ∧ t.touch = (if w.source = .touch then { s.touch with status := .ringing, phase := .opening } else s.touch)
               ∧ t.time = s.time))
       ∧ ∀ (s : State) (p a : Perf) (e m : Nat) (k : StrikePart), s.power.operating = true → queueOk s → p ∈ s.arbiter.queue →
         p.state = .waiting → p.tested = false → p.dueStart ≤ s.time.instant → p.source = .clock e none (some k) →
         s.maintenance = false → s.time.marker = some m → m < e → eventSilenced s e .hour = true → activePerf s = some a →
         heldBack s a = true → (∀ c ∈ s.arbiter.queue, c.isClock = true → c.state = .waiting → c = p) →
         ∃ t, exec (.dueStart p.id) s = .next t ∧ t.time = { s.time with marker := some e }
           ∧ t.arbiter = { s.arbiter with
               queue := (s.arbiter.queue.filter (fun x => x.id != p.id)).map (fun x =>
                 if x.id = a.id then
                   { x with origin := some (max a.cursorLanding ((s.time.instant : Int) + 2000) - (a.cursor : Int) * a.spacing) }
                 else x) })


/-! ## Hammers and the strike queue (R81 to R101) -/

/-- R84: a hammer's booked-until is the later of the recovery end of its last actuation and, over its entries in the
strike queue, the actuation instant plus its lead and recovery. R82: HAMMER-CONFIG stores its clamped constants; it is
refused with BAD-VALUE when the width is greater than lead plus recovery, and with BUSY for a hammer that has entries
in the strike queue, is STRIKING or RECOVERING, or is to change its fitted flag in WITHDRAWING, WITHDRAWN or ENGAGING;
a recovery whose end has come is over (R90). R99: TEST-STROKE is refused in RUN; in MAINTENANCE a fitted, INHIBITED
hammer whose booked-until has come begins its actuation at once, and any other is BUSY. R100: HAMMER-READ and
STRIKE-QUEUE-READ change no state. R89, R93 to R96: the withdraw and the engage request, in every state of the
channel. A withdraw request takes a READY, RECOVERING, INHIBITED or FAULT channel to WITHDRAWING with its output
asserted and a fresh watch, or straight to WITHDRAWN where the confirm input is asserted; a STRIKING one to
WITHDRAWING with its pulse running on; ENGAGING back to WITHDRAWING; it starts a fresh watch in WITHDRAWING where
failed has been answered, and answers at once in WITHDRAWN and for a hammer that is not fitted. Every entry for the
bell leaves the strike queue, each with STROKE-DROPPED, reason WITHDRAWN; a performance that has more goes on, and one
with nothing left ends. An engage request releases the output of a WITHDRAWING or WITHDRAWN channel, or of one in
FAULT with cause ENGAGE, and waits for the confirm input to clear; elsewhere it is answered at once. A dropped entry's
slip is 0, and the fault cause is cleared on leaving FAULT (log entries 26, 27). That several entries are reported in
queue order is the model's choice (log entry 14). -/
def Obligations.HammerRequestsAndBooking : Prop :=
  (∀ (s : State) (b : Nat),
     let ends : List Int :=
       (s.hammer b).recoveryEnd.toList
         ++ (s.strikes.filter (fun e => e.bell == b)).map
           (fun e => e.actuation + (((s.hammer b).lead + (s.hammer b).recovery : Nat) : Int))
     (bookedUntil s b = none ↔ ends = []) ∧ ∀ u, bookedUntil s b = some u → u ∈ ends ∧ ∀ v ∈ ends, v ≤ u)
    ∧ (∀ (h : Header) (b : Nat) (s : State), Taken h s → 1 ≤ b → b ≤ 24 →
       let x := s.hammer b
       let now : Int := s.time.instant
       let mid := x.state = .withdrawing ∨ x.state = .withdrawn ∨ x.state = .engaging
       (∀ (lead recovery width : Nat) (fitted : Bool),
           let i : Instr := .hammerConfig h b lead recovery width fitted.toNat
           let l := max 20 (min 400 lead)
           let d := max 30 (min 1000 recovery)
           let w := max 10 (min 120 width)
           (l + d < w → answers i h 0x50 s .badValue .none (closed h s))
             ∧ (w ≤ l + d → ((∃ e ∈ s.strikes, e.bell = b) ∨ x.state = .striking ∨ (fitted ≠ x.fitted ∧ mid)) →
               answers i h 0x50 s .busy .none (closed h s))
             ∧ (w ≤ l + d → (∀ e ∈ s.strikes, e.bell ≠ b) → x.state ≠ .striking → x.state ≠ .recovering →
               (fitted ≠ x.fitted → ¬mid) →
               answers i h 0x50 s .ok (.hammerConfig b l d w fitted)
                 ((closed h s).withHammer b { x with lead := l, recovery := d, width := w, fitted := fitted }))
             ∧ (w ≤ l + d → x.state = .recovering → (∃ r, x.recoveryEnd = some r ∧ now < r) →
               answers i h 0x50 s .busy .none (closed h s))
             ∧ (w ≤ l + d → (∀ e ∈ s.strikes, e.bell ≠ b) → x.state = .recovering →
               (∀ r, x.recoveryEnd = some r → r ≤ now) →
               answers i h 0x50 s .ok (.hammerConfig b l d w fitted)
                 ((closed h s).withHammer b
                   { x with
                     state := if s.maintenance then .inhibited else .ready, lead := l, recovery := d, width := w
                     fitted := fitted })))
         ∧ answers (.hammerRead h b) h 0x51 s .ok
             (.hammer b x (bookedUntil s b) (x.pulseEnds.map (· - s.elapsed)) (x.watch.map (· - s.elapsed))
               (s.strikes.filter (fun e => e.bell == b)).length)
             (closed h s)
         ∧ (∀ start count, answers (.strikeQueueRead h start count) h 0x52 s .ok
             (.strikes s.strikes.length ((s.strikes.drop (min 47 start)).take (max 1 (min 12 count)))) (closed h s))
         ∧ ∀ strength, let i : Instr := .testStroke h b strength
           let p := (x.width * (max 1 (min 3 strength) + 1) + 2) / 4
           (s.maintenance = false → answers i h 0x53 s .refusedMode .none (closed h s))
             ∧ (s.maintenance = true → x.fitted = true → x.state = .inhibited → (∀ u, bookedUntil s b = some u → u ≤ now) →
               answers i h 0x53 s .ok (.testStroke p s.time.instant)
                 ((closed h s).withHammer b
                   { x with
                     state := .striking, pulseEnds := some (s.elapsed + p), pulseId := 0
                     recoveryEnd := some (now + ((x.lead + x.recovery : Nat) : Int)) }))
             ∧ (s.maintenance = true →
               (x.fitted = false ∨ x.state ∉ [.inhibited, .recovering] ∨ ∃ u, bookedUntil s b = some u ∧ now < u) →
               answers i h 0x53 s .busy .none (closed h s)))
    ∧ (∀ (b : Nat) (s : State), 1 ≤ b → b ≤ 24 →
       let x := s.hammer b
       let r := withdrawRequest b s
       let gone := s.strikes.filter (fun e => e.bell == b)
       let asserts := fun (y : Hammer) => if y.confirm then { y with state := .withdrawn, withdrawOutput := true, watch := none }
         else { y with state := .withdrawing, withdrawOutput := true, watch := some (s.elapsed + 2000) }
       let answer := if x.confirm then some HammerAnswer.withdrawn else none
       let drops := x.fitted = false ∨ x.state ∈ [.ready, .striking, .recovering, .inhibited, .fault]
       let goes := fun (y : Hammer) (a : Option HammerAnswer) =>
         r.2 = a ∧ r.1.hammer b = y ∧ (∀ c ∈ numbers 1 24, c ≠ b → r.1.hammer c = s.hammer c)
           ∧ (gone = [] ∨ ¬drops → r.1 = s.withHammer b y)
       let e := engageRequest b s
       (x.fitted = false → goes { x with state := .withdrawn, faultCause := none, watch := none } (some .withdrawn))
         ∧ (x.fitted = true → x.state ∈ [.ready, .recovering, .inhibited, .fault] →
           goes (asserts { x with faultCause := none }) answer)
         ∧ (x.fitted = true → x.state = .striking → goes { x with state := .withdrawing } none)
         ∧ (x.fitted = true → x.state = .engaging → goes (asserts x) answer)
         ∧ (x.fitted = true → x.state = .withdrawing → (x.watch ≠ none ∨ x.withdrawOutput = false) → goes x none)
         ∧ (x.fitted = true → x.state = .withdrawing → x.watch = none → x.withdrawOutput = true → goes (asserts x) answer)
         ∧ (x.fitted = true → x.state = .withdrawn → goes x (some .withdrawn))
         ∧ (drops → r.1.strikes = s.strikes.filter (fun e => e.bell != b)
           ∧ (∀ k, gone.getLast? = some k → nth r.1.details 7 = some
               { instant := s.time.instant, detail := .strokeDropped k.id k.cls k.row b k.strength .withdrawn k.wanted 0 })
           ∧ (∀ l, gone ≠ [] → nth (s.link l).unmasked 7 = true →
               nth (r.1.link l).pending 7 = min 255 (nth (s.link l).pending 7 + gone.length))
           ∧ ((∀ p ∈ s.arbiter.queue, (∃ k ∈ gone, k.id = p.id) → p.state = .waiting
                 ∨ (∃ k ∈ s.strikes, k.bell ≠ b ∧ k.id = p.id) ∨ p.stopped = none ∧ remains s p = true) →
             r.1.arbiter = { s.arbiter with
               queue := s.arbiter.queue.map (fun p =>
                 let n := (gone.filter (fun k => k.id == p.id)).length
                 if n = 0 then p else { p with dropped := min 65535 (p.dropped + n) }) })
           ∧ ∀ p ∈ s.arbiter.queue, queueOk s → p.state ≠ .waiting → (p.stopped ≠ none ∨ remains s p = false) →
             (∃ k ∈ gone, k.id = p.id) → (∀ k ∈ s.strikes, k.id = p.id → k.bell = b) →
             p.id ∉ r.1.arbiter.queue.map (·.id)
               ∧ ((∀ k ∈ gone, k.id = p.id) → nth r.1.details 9 = some
                 { instant := s.time.instant
                   detail := .performanceEnded p.id p.cls (p.stopped.getD .complete) p.booked
                     (min 65535 (p.dropped + gone.length)) }))
         ∧ (let rest := if s.maintenance then HammerState.inhibited else .ready
           let leaves := x.state = .withdrawing ∨ x.state = .withdrawn ∨ x.state = .fault ∧ x.faultCause = some .engage
           (leaves → x.fitted = true → x.confirm = true →
               e = (s.withHammer b
                 { x with
                   state := .engaging, withdrawOutput := false, faultCause := none, watch := some (s.elapsed + 2000) }, none))
             ∧ (leaves → (x.fitted = false ∨ x.confirm = false) →
               e = (s.withHammer b
                 { x with
                   state := if x.actuatorFault then .fault else rest, withdrawOutput := false
                   faultCause := if x.actuatorFault then some .actuator else none, watch := none }, some .engaged))
             ∧ (x.state = .engaging → e = (s, none))
             ∧ (¬leaves → x.state ≠ .engaging → e = (s, some .engaged))))

/-- R89 to R92, R77: when the first entry's actuation instant has come it leaves the queue. A hammer that is READY, or
whose recovery end (with its pulse, where that was still driven) has come at that same moment, goes STRIKING for the
entry's pulse, with its recovery end; on one that is withdrawn, faulted or inhibited the stroke is dropped; and one
whose pulse ends then with a fault drops the entry with the bell's others. A performance with more entries goes on;
one whose last entry this was, with nothing left to offer, ends COMPLETE. A stroke booked and then dropped counts in
both counts (log entry 18); that a dropped entry is reported with slip 0 and is not the performance's last one taken
are the model's choices (log entry 26), as is the level the fault input is read at when the two fall together: the
level last sampled (log entry 2). -/
def Obligations.StrikeEntryTaken : Prop :=
  ∀ (s : State) (e : Entry) (rest : List Entry), s.power.operating = true → queueOk s → s.strikes = e :: rest →
    e.actuation ≤ s.time.instant → 1 ≤ e.bell → e.bell ≤ 24 →
    let x := s.hammer e.bell
    let told := fun (f : Perf → Perf) (y : State) =>
      { y with arbiter := { y.arbiter with queue := y.arbiter.queue.map (fun p => if p.id = e.id then f p else p) } }
    let strikes := told (fun p => { p with lastTaken := some e.strike })
      ({ s with strikes := rest }.withHammer e.bell
        { x with
          state := .striking, pulseEnds := some (s.elapsed + e.pulse), pulseId := e.id
          recoveryEnd := some (e.actuation + ((x.lead + x.recovery : Nat) : Int)) })
    let pulsed := x.state = .striking ∧ ∃ p, x.pulseEnds = some p ∧ p ≤ s.elapsed
    let rested := s.maintenance = false ∧ ∀ r, x.recoveryEnd = some r → r ≤ (s.time.instant : Int)
    let free := x.state = .ready ∨ (rested ∧ (x.state = .recovering ∨ (pulsed ∧ x.faultInput = false)))
    (free → (∃ r ∈ rest, r.id = e.id) → exec .strikeEntryTaken s = .next strikes)
      ∧ (pulsed → x.faultInput = true → nothingDue s → exec .strikeEntryTaken s = exec (.hammerPulseEnd e.bell true) s)
      ∧ (x.state ∈ [.withdrawing, .withdrawn, .engaging, .inhibited, .fault] → (∃ r ∈ rest, r.id = e.id) →
        exec .strikeEntryTaken s = .next
          (raise
            (.strokeDropped e.id e.cls e.row e.bell e.strength
              (if x.fitted = false then .notFitted else if x.state = .fault then .fault else .withdrawn) e.wanted 0)
            (told (fun p => { p with dropped := min 65535 (p.dropped + 1) }) { s with strikes := rest })))
      ∧ ∀ p ∈ s.arbiter.queue, p.id = e.id → p.state = .active → p.stopped = none → remains s p = false →
        (∀ r ∈ rest, r.id ≠ e.id) → free →
        ∃ t, exec .strikeEntryTaken s = .next t
          ∧ nth t.details 9
              = some { instant := s.time.instant, detail := .performanceEnded p.id p.cls .complete p.booked p.dropped }
          ∧ p.id ∉ t.arbiter.queue.map (·.id) ∧ t.strikes = rest ∧ t.hammers = strikes.hammers

/-- R90, R92, R94, R98: the end of a pulse with no fault takes a STRIKING hammer to RECOVERING, or to rest when its
recovery end has come; with a fault the hammer is in FAULT, HAMMER-FAULT is raised, and every entry for its bell
leaves the strike queue. On a hammer that was asked to withdraw meanwhile a fault sets the flag and raises
HAMMER-FAULT, and in either case the withdraw output is asserted: the 2 s watch starts, or, where the confirm input is
asserted already, the hammer is WITHDRAWN and a channel that waits for it in CLEARING goes to RAISING (R124, R125).
The recovery end takes a hammer to READY, or to INHIBITED in MAINTENANCE. -/
def Obligations.HammerPulses : Prop :=
  ∀ (b : Nat) (s : State), s.power.operating = true → 1 ≤ b → b ≤ 24 → nothingDue s →
    let x := s.hammer b
    let rest : HammerState := if s.maintenance then .inhibited else .ready
    let raising := fun c => let w := s.swing c
      { w with
        state := .raising, drive := some { direction := .forward, ends := s.elapsed + w.cfg.drive }, driveCount := 1
        arcRun := 0, arcSeen := false, lastPass := none, passEnds := none, durationEnds := none, settleEnds := none
        raiseEnds := some (s.elapsed + w.cfg.raiseLimit * 1000) }
    (∀ e r, x.state = .striking → x.pulseEnds = some e → e ≤ s.elapsed → x.recoveryEnd = some r →
        exec (.hammerPulseEnd b false) s = .next
          (s.withHammer b
            { x with
              pulseEnds := none, faultInput := false
              state := if r ≤ (s.time.instant : Int) then rest else .recovering }))
      ∧ (∀ e, x.state = .striking → x.pulseEnds = some e → e ≤ s.elapsed →
        ∃ t, exec (.hammerPulseEnd b true) s = .next t
          ∧ t.hammer b = { x with
              pulseEnds := none, faultInput := true, state := .fault, actuatorFault := true, faultCause := some .actuator }
          ∧ (∀ c ∈ numbers 1 24, c ≠ b → t.hammer c = s.hammer c)
          ∧ t.strikes = s.strikes.filter (fun k => k.bell != b)
          ∧ nth t.details 6 = some
              { instant := s.time.instant
                detail := .hammerFault b .actuator x.pulseId (s.strikes.filter (fun k => k.bell == b)).length }
          ∧ t.swings = s.swings ∧ t.lights = s.lights ∧ t.dials = s.dials)
      ∧ (∀ e fault, x.state = .withdrawing → x.withdrawOutput = false → x.pulseEnds = some e → e ≤ s.elapsed →
        let u := if fault = true then raise (.hammerFault b .actuator x.pulseId 0) s else s
        let y := { x with
          pulseEnds := none, faultInput := fault, actuatorFault := x.actuatorFault || fault, withdrawOutput := true }
        (x.confirm = false →
          exec (.hammerPulseEnd b fault) s = .next (u.withHammer b { y with watch := some (s.elapsed + 2000) }))
        ∧ (x.confirm = true → (∀ c, tiedChannel s b = some c → (s.swing c).state ≠ .clearing) →
          exec (.hammerPulseEnd b fault) s = .next (u.withHammer b { y with state := .withdrawn, watch := none }))
        ∧ ∀ c, x.confirm = true → tiedChannel s b = some c → (s.swing c).state = .clearing →
          exec (.hammerPulseEnd b fault) s = .next
            ((u.withHammer b { y with state := .withdrawn, watch := none }).withSwing c (raising c)))
      ∧ ∀ r, x.state = .recovering → x.recoveryEnd = some r → r ≤ (s.time.instant : Int) →
        exec (.hammerRecoveryEnd b) s = .next (s.withHammer b { x with state := rest })

/-- R95, R96, R124, R129: the confirm input of a hammer of a swing bell. Asserted in time it makes a WITHDRAWING hammer
WITHDRAWN, and the channel that waits in CLEARING goes to RAISING with its start pulse; a channel in another state
takes no notice of that answer. Cleared, it completes an engagement, and the channel that waits in RESTORING goes DOWN
with SWING-STATE; on a fitted WITHDRAWN hammer it starts the 2 s watch again. In the other states only its level is
kept. -/
def Obligations.HammerConfirms : Prop :=
  ∀ (b c : Nat) (s : State), s.power.operating = true → 1 ≤ b → b ≤ 24 → 1 ≤ c → c ≤ 12 → tiedChannel s b = some c →
    nothingDue s →
    let x := s.hammer b
    let w := s.swing c
    (x.state = .withdrawing → x.withdrawOutput = true → x.watch ≠ none → w.state = .clearing →
        exec (.hammerConfirmAsserted b) s = .next
          ((s.withHammer b { x with state := .withdrawn, confirm := true, watch := none }).withSwing c
            { w with
              state := .raising, drive := some { direction := .forward, ends := s.elapsed + w.cfg.drive }, driveCount := 1
              arcRun := 0, arcSeen := false, lastPass := none, passEnds := none, durationEnds := none, settleEnds := none
              raiseEnds := some (s.elapsed + w.cfg.raiseLimit * 1000) }))
      ∧ (x.state = .withdrawing → x.withdrawOutput = true → (x.watch = none ∨ w.state ≠ .clearing) →
        exec (.hammerConfirmAsserted b) s
          = .next (s.withHammer b { x with state := .withdrawn, confirm := true, watch := none }))
      ∧ (x.state ≠ .withdrawing → exec (.hammerConfirmAsserted b) s = .next (s.withHammer b { x with confirm := true }))
      ∧ (x.state = .engaging → x.actuatorFault = false → w.state = .restoring →
        exec (.hammerConfirmCleared b) s = .next
          (raise (.swingState c w.cfg.bell .down w.driveCount w.wayDown)
            ((s.withHammer b
              { x with
                state := if s.maintenance then .inhibited else .ready, confirm := false, faultCause := none, watch := none
              }).withSwing c
              { w with
                state := .down, duration := 0, wayDown := .none, drive := none, raiseEnds := none, durationEnds := none
                settleEnds := none, passEnds := none })))
      ∧ (x.state = .withdrawn → x.fitted = true →
        exec (.hammerConfirmCleared b) s = .next
          (s.withHammer b
            { x with state := .withdrawing, confirm := false, withdrawOutput := true, watch := some (s.elapsed + 2000) }))
      ∧ (x.state ∉ [.engaging, .withdrawn] →
        exec (.hammerConfirmCleared b) s = .next (s.withHammer b { x with confirm := false }))

/-- R95, R96, R130: 2 s without the confirm the hammer stays WITHDRAWING with its output asserted, and its channel goes to
FAULT, WITHDRAW-FAILED from CLEARING and CONFIRM-LOST while the bell may be moving; 2 s with the confirm still
asserted after the release the hammer is in FAULT with cause ENGAGE, HAMMER-FAULT is raised, and the channel in
RESTORING goes to FAULT with ENGAGE-FAILED. -/
def Obligations.HammerWatchesRunOut : Prop :=
  ∀ (b c : Nat) (s : State) (e : Nat), s.power.operating = true → 1 ≤ b → b ≤ 24 → c ∈ numbers 1 12 →
    tiesOk s → raiseQueueOk s → nothingDue s → (s.swing c).cfg.bell = b → (s.hammer b).watch = some e → e ≤ s.elapsed →
    let x := s.hammer b
    let w := s.swing c
    let failed := fun (cause : SwingCause) (t : State) =>
      (t.swing c).state = .fault ∧ (t.swing c).cause = cause ∧ (t.swing c).drive = none ∧ (t.swing c).cfg = w.cfg
        ∧ nth t.details 13 = some { instant := s.time.instant, detail := .swingFault c b cause w.state }
    (∀ cause, x.state = .withdrawing →
        (w.state = .clearing ∧ cause = .withdrawFailed
          ∨ w.state ∈ [.raising, .swinging, .lowering, .settling] ∧ cause = .confirmLost) →
        ∃ t, exec (.withdrawConfirmTimeout b) s = .next t ∧ t.hammer b = { x with watch := none } ∧ failed cause t)
      ∧ (x.state = .engaging → w.state = .restoring →
        ∃ t, exec (.engageClearTimeout b) s = .next t
          ∧ t.hammer b = { x with state := .fault, faultCause := some .engage, watch := none }
          ∧ nth t.details 6 = some { instant := s.time.instant, detail := .hammerFault b .engage 0 0 }
          ∧ failed .engageFailed t ∧ t.arbiter = s.arbiter ∧ t.strikes = s.strikes ∧ t.lights = s.lights)

/-- R186: FAULT-CLEAR carries two bytes, the block and the number, and a number outside its block's range is refused with
BAD-VALUE. -/
def Obligations.FaultClearNamesItsBlock : Prop :=
  ∀ (h : Header) (n : Byte) (s : State), Taken h s →
    (decodeRequest h 0x08 [1, n] = .request (.faultClearDial h n.toNat)
        ∧ decodeRequest h 0x08 [2, n] = .request (.faultClearHammer h n.toNat)
        ∧ decodeRequest h 0x08 [3, n] = .request (.faultClearSwing h n.toNat))
      ∧ ((n.toNat < 1 ∨ 4 < n.toNat) → answers (.faultClearDial h n.toNat) h 0x08 s .badValue .none (closed h s))
      ∧ ((n.toNat < 1 ∨ 24 < n.toNat) → answers (.faultClearHammer h n.toNat) h 0x08 s .badValue .none (closed h s))
      ∧ ((n.toNat < 1 ∨ 12 < n.toNat) → answers (.faultClearSwing h n.toNat) h 0x08 s .badValue .none (closed h s))

/-- R36, R97, R130: what FAULT-CLEAR does to a dial channel, a hammer and a swing channel in FAULT, and that it changes
nothing where no fault is set. That a hammer's fault cause is then none is the model's choice (log entry 27). -/
def Obligations.FaultClearEffects : Prop :=
  ∀ (h : Header) (n : Nat) (s : State), Taken h s → nothingDue s →
    (1 ≤ n → n ≤ 4 → let d := s.dial n
        ((s.dial n).fault = true → answers (.faultClearDial h n) h 0x08 s .ok (.wasSet true)
          ((closed h s).withDial n (Dial.settle { d with fault := false } s.time.validity s.time.instant s.elapsed)))
        ∧ ((s.dial n).fault = false → answers (.faultClearDial h n) h 0x08 s .ok (.wasSet false) (closed h s)))
      ∧ (1 ≤ n → n ≤ 24 → let x := s.hammer n; let i : Instr := .faultClearHammer h n
        let held := ∃ c, tiedChannel s n = some c ∧ (s.swing c).state ≠ .down ∧ (s.swing c).state ≠ .queued
        (x.state = .fault → held → answers i h 0x08 s .busy .none (closed h s))
          ∧ (x.state = .fault → ¬held → x.fitted = true → x.confirm = true → answers i h 0x08 s .ok (.wasSet true)
            ((closed h s).withHammer n
              { x with
                state := .engaging, actuatorFault := false, faultCause := none, withdrawOutput := false
                watch := some (s.elapsed + 2000) }))
          ∧ (x.state = .fault → ¬held → (x.fitted = false ∨ x.confirm = false) → answers i h 0x08 s .ok (.wasSet true)
            ((closed h s).withHammer n
              { x with
                state := if s.maintenance then .inhibited else .ready, actuatorFault := false, faultCause := none
                withdrawOutput := false, watch := none }))
          ∧ (x.state ∈ [.withdrawing, .withdrawn, .engaging] → answers i h 0x08 s .ok (.wasSet x.actuatorFault)
            ((closed h s).withHammer n { x with actuatorFault := false }))
          ∧ (x.state ∈ [.ready, .striking, .recovering, .inhibited] →
            answers i h 0x08 s .ok (.wasSet false) (closed h s)))
      ∧ (n ∈ numbers 1 12 → let x := s.swing n
        (x.state ≠ .fault → answers (.faultClearSwing h n) h 0x08 s .ok (.wasSet false) (closed h s))
          ∧ (x.state = .fault → tiesOk s → ∃ t, answers (.faultClearSwing h n) h 0x08 s .ok (.wasSet true) t
            ∧ t.swing n = { x with
                state := .settling, cause := .none, wayDown := .faultClear, drive := none, raiseEnds := none
                durationEnds := none, passEnds := none, settleEnds := some (s.elapsed + x.cfg.settle * 1000) }
            ∧ (∀ c ∈ numbers 1 12, c ≠ n → t.swing c = s.swing c)
            ∧ (t.hammer x.cfg.bell).state ∈ [.withdrawing, .withdrawn]
            ∧ (∀ b ∈ numbers 1 24, b ≠ x.cfg.bell → t.hammer b = s.hammer b) ∧ t.lights = s.lights))


/-! ## Change ringing (R102 to R118) -/

/-- R103, R106: a change that is valid for the stage of a row only rearranges it; a made place keeps its bell, every other
bell moves by one place, and the same change applied again gives the row back. R114: the ranks of the rows of a stage
lie below n!, rounds has rank 0, and no two rows share a rank. R107, R110 to R115: the next row of a touch, formed
from its context, and the row taken. In OPENING and CLOSING it is rounds; in CHANGES the row is changed by the lead's
own change, or at the last change of a lead that has the next call by the call's. The last opening row calls go, with
the mark of rounds alone; rounds in CHANGES is the return, into CLOSING with its closing count; any other row is
counted and ranked, a repeated one as false; a call is used up with its lead; a closing row counts down. Row r + 1
begins a stroke's beat for each stroke after row r, with one beat more before a handstroke. -/
def Obligations.RowsChangesAndRanks : Prop :=
  (∀ (c : BitVec 16) (row : List Nat), changeValid row.length c = true →
     let row' := applyChange c row
     row'.Perm row ∧ applyChange c row' = row
       ∧ ∀ p, p < row.length →
         (c.getLsbD p = true → row'[p]? = row[p]?)
           ∧ (c.getLsbD p = false → row'[p]? = row[p + 1]? ∧ row'[p + 1]? = row[p]? ∨ 1 ≤ p ∧ row'[p]? = row[p - 1]?
               ∧ row'[p - 1]? = row[p]?))
    ∧ (∀ n : Nat, rank (rounds n) = 0
       ∧ (∀ row : List Nat, row.Perm (rounds n) → rank row < n.factorial)
       ∧ ∀ a b : List Nat, a.Perm (rounds n) → b.Perm (rounds n) → rank a = rank b → a = b)
    ∧ (∀ t : Touch,
       let n := t.snap.stage
       let length := t.snap.lead.length
       let r := match t.rowNumber with | none => 0 | some k => k + 1
       let rung := { t with row := t.form, rowNumber := some r, rowsRung := t.rowsRung + 1 }
       let own := t.snap.lead.getD (t.changeIndex - 1) 0
       let called := fun (c : Call) => t.changeIndex = length ∧ t.calls[t.nextCall]? = some c ∧ c.lead = t.leadNumber
       (t.phase ≠ .changes → t.form = rounds n)
         ∧ (t.phase = .changes → (∀ c, ¬called c) → t.form = applyChange own t.row)
         ∧ (t.phase = .changes → ∀ c x, called c → (c.kind = .bob → t.snap.bob = some x) →
           (c.kind = .single → t.snap.single = some x) → t.form = applyChange x t.row)
         ∧ (t.phase = .opening → r + 1 ≠ t.opening → t.take = rung)
         ∧ (t.phase = .opening → r + 1 = t.opening →
           t.take = { rung with phase := .changes, leadNumber := 1, changeIndex := 1, marks := t.marks.map (fun _ => [0]) })
         ∧ (t.phase = .closing → t.take = { rung with closingLeft := t.closingLeft - 1 })
         ∧ (∀ next, t.phase = .changes → ((∃ c, called c) → next = t.nextCall + 1) → ((∀ c, ¬called c) → next = t.nextCall) →
           (t.form = rounds n →
               t.take = { rung with nextCall := next, cameRound := true, phase := .closing, closingLeft := t.closing })
             ∧ (t.form ≠ rounds n →
               let seen := t.marks.any (fun ms => ms.contains (rank t.form))
               t.take =
                 { rung with
                   nextCall := next, changedRows := t.changedRows + 1
                   falseRows := if seen then t.falseRows + 1 else t.falseRows
                   marks := if seen then t.marks else t.marks.map (fun ms => rank t.form :: ms)
                   leadNumber := if t.changeIndex < length then t.leadNumber else t.leadNumber + 1
                   changeIndex := if t.changeIndex < length then t.changeIndex + 1 else 1 }))
         ∧ (t.done = true ↔ t.phase = .closing ∧ t.closingLeft = 0)
         ∧ ∀ origin : Int, t.rowStart origin 0 = origin
           ∧ ∀ k, t.rowStart origin (k + 1) = t.rowStart origin k
             + (((n + if t.snap.cover.isSome then 1 else 0) * t.beat : Nat) : Int)
             + (if (k + 1) % 2 = 0 then (t.beat : Int) else 0))

/-- R114: every step keeps the count of the truth map: the marks set plus the false rows are one plus the changed rows. -/
def Obligations.TruthMapCounts : Prop :=
  ∀ s t : State, queueOk s → truthOk s → step s = .next t → truthOk t

/-- R104, R105, R118: METHOD-WRITE stores a record whose changes are valid for its stage, and is otherwise refused with
the index of the first invalid change; METHOD-CLEAR clears only the valid flag; METHOD-READ and TOUCH-READ change no
state. TOUCH-READ of an EMPTY context gives the status alone; otherwise it gives what the touch is, its progress, the
number of its marks, and the due start and deadline while it waits or the plan while it rings. That the index of an
invalid change is given only when every other field fits, and that the call list's positions count from 0, is the
model's choice (log entries 15, 10). R119, R120, R134, R138: SWING-CONFIG stores its clamped record on a channel in
DOWN with no start pending, refuses a bell tied to another channel and a hold load above the raise load, and is BUSY
otherwise; SWING-PROGRAM-WRITE stores a clamped program; the reads change no state. -/
def Obligations.MethodAndSwingRecords : Prop :=
  (∀ (h : Header) (k : Nat) (s : State), Taken h s → k ≤ 7 →
     let stores := fun (ms : Vector Method 8) (x : Method) =>
       slot ms k = x ∧ ∀ m, m ≠ k → slot ms m = slot s.methods m
     (∀ (n : Nat) (bells : List Nat) (cover : Nat) (lead : List (BitVec 16)) (bob single : Option (BitVec 16)),
         4 ≤ n → n ≤ 12 → bells.length = n → bells.Nodup → (∀ b ∈ bells, 1 ≤ b ∧ b ≤ 24) → cover ≤ 24 → cover ∉ bells →
         2 ≤ lead.length → lead.length ≤ 32 →
         let i : Instr := .methodWrite h k n bells cover lead.length lead bob single
         let fits := fun (c : Option (BitVec 16)) => ∀ x, c = some x → changeValid n x = true
         ((∀ c ∈ lead, changeValid n c = true) → fits bob → fits single →
           ∃ ms, answers i h 0x58 s .ok .none { closed h s with methods := ms }
             ∧ stores ms
               { valid := true, stage := n, bells := bells, cover := if cover = 0 then none else some cover, lead := lead
                 bob := bob, single := single })
           ∧ (∀ j, j < lead.length → changeValid n (lead.getD j 0) = false →
             (∀ m, m < j → changeValid n (lead.getD m 0) = true) →
             answers i h 0x58 s .badValue (.changeIndex (j + 1)) (closed h s))
           ∧ ((∀ c ∈ lead, changeValid n c = true) → ¬fits bob → answers i h 0x58 s .badValue (.changeIndex 0xFE) (closed h s))
           ∧ ((∀ c ∈ lead, changeValid n c = true) → fits bob → ¬fits single →
             answers i h 0x58 s .badValue (.changeIndex 0xFF) (closed h s)))
       ∧ (∃ ms, answers (.methodClear h k) h 0x59 s .ok .none { closed h s with methods := ms }
           ∧ stores ms { slot s.methods k with valid := false })
       ∧ answers (.methodRead h k) h 0x5A s .ok (.method k (slot s.methods k)) (closed h s)
       ∧ (s.touch.status = .empty → answers (.touchRead h) h 0x5C s .ok (.touch .empty none) (closed h s))
       ∧ (s.touch.status ≠ .empty →
         let t := s.touch
         let p := s.arbiter.queue.find? (fun p => p.cls == .touch)
         answers (.touchRead h) h 0x5C s .ok
           (.touch t.status (some
             { id := t.id, method := t.method, stage := t.snap.stage, cover := t.snap.cover, strength := t.strength
               beat := t.beat, opening := t.opening, closing := t.closing, maximum := t.maximum
               phase := if t.status = .ringing then some t.phase else none
               row := t.row, rowNumber := t.rowNumber, leadNumber := t.leadNumber, changeIndex := t.changeIndex
               nextCall := (t.calls[t.nextCall]?).map (fun c => (t.nextCall, c))
               rowsRung := t.rowsRung, changedRows := t.changedRows, falseRows := t.falseRows
               closingLeft := t.closingLeft, cameRound := t.cameRound, marksSet := t.marks.map List.length
               due := if t.status = .waiting then p.map (fun p => (p.dueStart, p.deadline)) else none
               plan := if t.status = .ringing then p.map (fun p => (p.origin, p.cursor)) else none }))
           (closed h s)))
    ∧ (∀ (h : Header) (c : Nat) (s : State), Taken h s → c ∈ numbers 1 12 →
       let x := s.swing c
       (∀ (bell drive raise_ hold limit settle : Nat) (fitted : Bool), 1 ≤ bell → bell ≤ 24 →
           let i : Instr := .swingConfig h c bell drive raise_ hold limit settle fitted.toNat
           let r := max 1 (min 100 raise_)
           let k := max 1 (min 100 hold)
           let cfg : SwingConfig :=
             { bell := bell, drive := max 100 (min 1500 drive), raiseLoad := r, holdLoad := k
               raiseLimit := max 10 (min 180 limit), settle := max 5 (min 60 settle), fitted := fitted }
           let tied := ∃ d ∈ numbers 1 12, d ≠ c ∧ (s.swing d).cfg.bell = bell
           ((tied ∨ r < k) → answers i h 0x60 s .badValue .none (closed h s))
             ∧ (¬tied → k ≤ r → (x.state ≠ .down ∨ x.start ≠ none) → answers i h 0x60 s .busy .none (closed h s))
             ∧ (¬tied → k ≤ r → x.state = .down → x.start = none →
               answers i h 0x60 s .ok (.swingConfig c cfg) ((closed h s).withSwing c { x with cfg := cfg })))
         ∧ (∀ (k : Nat) (entries : List (Nat × Nat)) (duration : Nat), 1 ≤ k → k ≤ 4 →
           let fits := entries.length ≤ 12 ∧ (∀ e ∈ entries, e.1 ∈ numbers 1 12) ∧ (entries.map (·.1)).Nodup
           let p : Program := { entries := entries.map (fun e => (e.1, min 120000 e.2)), duration := min 120 duration }
           (fits → ∃ ps, answers (.swingProgramWrite h k entries duration) h 0x63 s .ok (.program p) { closed h s with programs := ps }
               ∧ nth ps k = p ∧ ∀ j, j ≠ k → nth ps j = nth s.programs j)
             ∧ (¬fits → answers (.swingProgramWrite h k entries duration) h 0x63 s .badValue .none (closed h s))
             ∧ answers (.swingProgramRead h k) h 0x64 s .ok (.program (nth s.programs k)) (closed h s))
         ∧ ∀ count, ∃ vs, answers (.swingRead h c count) h 0x66 s .ok (.swings vs) (closed h s)
             ∧ vs.map (·.channel) = numbers c (min 12 (c + max 1 (min 6 count) - 1))
             ∧ ∀ v ∈ vs, v.swing = s.swing v.channel ∧ v.hammer = (s.hammer (s.swing v.channel).cfg.bell).state
                 ∧ v.commitment = (s.swing v.channel).share
                 ∧ v.durationLeft = (s.swing v.channel).durationEnds.map (· - s.elapsed)
                 ∧ v.settleLeft = (s.swing v.channel).settleEnds.map (· - s.elapsed)
                 ∧ v.startLeft = (s.swing v.channel).start.map (fun p => p.ends - s.elapsed))

/-- R108, R109: an accepted TOUCH-START sets the whole context from its clamped fields, the opening count raised to an
even number, and queues the touch to land 2,000 ms from now with a deadline 600 s after its due start; it starts at
once when nothing is ACTIVE and TOUCH is not silenced. A touch in the queue makes it BUSY. R63, R71, R72, R108, R116:
TOUCH-START is refused by the key, in MAINTENANCE, with validity UNSET, for a method number, a method, a call list, a
lead number, an order of leads or a call that does not fit, and with a full queue, in that order, and each refusal
leaves the context as it was. One that is silenced when it would start at once is accepted and omitted: the touch is
ENDED, with TOUCH-ENDED and PERFORMANCE-OMITTED, reason SILENCE. -/
def Obligations.TouchStartSetsContext : Prop :=
  (∀ (h : Header) (k strength beat opening closing maximum : Nat) (calls : List (Nat × Nat)) (s : State), Taken h s →
     queueOk s → h.link = s.key → s.maintenance = false → s.time.validity = .isSet → k ≤ 7 →
     (slot s.methods k).valid = true → calls.length ≤ 64 → calls.Pairwise (fun a b => a.1 < b.1) →
     (∀ c ∈ calls, 1 ≤ c.1 ∧ c.1 ≤ 9999
       ∧ (c.2 = 0 ∧ (slot s.methods k).bob.isSome = true ∨ c.2 = 1 ∧ (slot s.methods k).single.isSome = true)) →
     let i : Instr := .touchStart h k strength beat opening closing maximum calls
     let o := max 2 (min 40 opening)
     let first := s.time.instant + 2000
     ((∃ p ∈ s.arbiter.queue, p.cls = .touch) → answers i h 0x5B s .busy .none (closed h s))
       ∧ ((∀ p ∈ s.arbiter.queue, p.cls ≠ .touch) → s.arbiter.queue.length < 8 →
         ∃ id t p, answers i h 0x5B s .ok
             (.touchQueued id first s.time.instant ((s.time.instant : Int) + 600000) (max 1 (min 3 strength))
               (max 150 (min 1000 beat)) (if o % 2 = 0 then o else o + 1) (min 40 closing) (max 1 (min 15000 maximum))) t
           ∧ p.id = id ∧ p.source = .touch ∧ p.firstLanding = (first : Int) ∧ p.dueStart = (s.time.instant : Int)
           ∧ p.deadline = (s.time.instant : Int) + 600000 ∧ id ∉ s.arbiter.queue.map (·.id)
           ∧ (nowSilenced s .touch = false → t =
             { closed h s with
               arbiter :=
                 { s.arbiter with
                   queue := enqueue p s.arbiter.queue
                   nextId := if id < 255 then id + 1 else 1 }
               touch := t.touch }
             ∧ (activePerf s = none → p.state = .active ∧ p.origin = some (first : Int) ∧ t.touch.status = .ringing)
             ∧ ((activePerf s).isSome = true → p.state = .waiting ∧ t.touch.status = .waiting)
             ∧ t.touch.method = k ∧ t.touch.snap = slot s.methods k ∧ t.touch.strength = max 1 (min 3 strength)
             ∧ t.touch.beat = max 150 (min 1000 beat) ∧ t.touch.opening = (if o % 2 = 0 then o else o + 1)
             ∧ t.touch.closing = min 40 closing ∧ t.touch.maximum = max 1 (min 15000 maximum) ∧ t.touch.id = id
             ∧ t.touch.calls.map (fun c => (c.lead, if c.kind = .bob then 0 else 1)) = calls ∧ t.touch.phase = .opening
             ∧ t.touch.row = rounds (slot s.methods k).stage ∧ t.touch.rowNumber = none ∧ t.touch.leadNumber = 1
             ∧ t.touch.changeIndex = 1 ∧ t.touch.nextCall = 0 ∧ t.touch.rowsRung = 0 ∧ t.touch.changedRows = 0
             ∧ t.touch.falseRows = 0 ∧ t.touch.cameRound = false
             ∧ t.touch.marks = (if (slot s.methods k).stage ≤ 7 then some [] else none))))
    ∧ (∀ (h : Header) (k strength beat opening closing maximum : Nat) (calls : List (Nat × Nat)) (s : State), Taken h s →
       queueOk s →
       let m := slot s.methods k
       let i : Instr := .touchStart h k strength beat opening closing maximum calls
       let fits := k ≤ 7 ∧ m.valid = true ∧ calls.length ≤ 64 ∧ calls.Pairwise (fun a b => a.1 < b.1)
         ∧ ∀ c ∈ calls, 1 ≤ c.1 ∧ c.1 ≤ 9999 ∧ (c.2 = 0 ∧ m.bob.isSome = true ∨ c.2 = 1 ∧ m.single.isSome = true)
       let free := h.link = s.key ∧ s.maintenance = false ∧ s.time.validity = .isSet
       (h.link ≠ s.key → answers i h 0x5B s .refusedLocal .none (closed h s))
         ∧ (h.link = s.key → s.maintenance = true → answers i h 0x5B s .refusedMode .none (closed h s))
         ∧ (h.link = s.key → s.maintenance = false → s.time.validity = .unset →
           answers i h 0x5B s .timeUnset .none (closed h s))
         ∧ (free → ¬fits → answers i h 0x5B s .badValue .none (closed h s))
         ∧ (free → fits → (∀ p ∈ s.arbiter.queue, p.cls ≠ .touch) → s.arbiter.queue.length = 8 →
           answers i h 0x5B s .full .none (closed h s))
         ∧ (free → fits → (∀ p ∈ s.arbiter.queue, p.cls ≠ .touch) → s.arbiter.queue.length < 8 → activePerf s = none →
           nowSilenced s .touch = true →
           ∃ id o t, answers i h 0x5B s .ok
               (.touchQueued id ((s.time.instant : Int) + 2000) s.time.instant ((s.time.instant : Int) + 600000)
                 (max 1 (min 3 strength)) (max 150 (min 1000 beat)) o (min 40 closing) (max 1 (min 15000 maximum))) t
             ∧ id ∉ s.arbiter.queue.map (·.id) ∧ t.arbiter.queue = s.arbiter.queue
             ∧ t.touch.status = .ended ∧ t.touch.id = id ∧ t.touch.method = k ∧ t.touch.opening = o
             ∧ nth t.details 8 = some
                 { instant := s.time.instant, detail := .performanceOmitted id .touch .silence .whole none 0 0 }
             ∧ nth t.details 11 = some
                 { instant := s.time.instant
                   detail := .touchEnded id k .omitted (some .silence) false 0 0 0 1 0 calls.length (rounds m.stage) }
             ∧ t.strikes = s.strikes ∧ t.time = s.time ∧ t.hammers = s.hammers))


/-! ## Swing bells (R119 to R138) -/

/-- R123, R132, R135: the tests of a swing start in their order, and the status of each of its entries. A list that is
empty, too long, repeats a channel or names one outside 1..12 is refused with BAD-VALUE, as is a program number
outside 1..4; an empty program is refused with NOT-FOUND. A start pending is set on each fitted channel in DOWN that
has none, to end after its stagger; one of stagger 0 ends at once, and its channel has entered the raise queue or has
been admitted. No other channel's start, and no channel that was neither named nor QUEUED, is touched. -/
def Obligations.SwingStarts : Prop :=
  (∀ (h : Header) (i : Instr) (kind program : Nat) (entries : List (Nat × Nat)) (duration : Nat) (s : State), Taken h s →
     tiesOk s → raiseQueueOk s → nothingDue s → entries ≠ [] → entries.length ≤ 12 → (∀ e ∈ entries, e.1 ∈ numbers 1 12) →
     (entries.map (·.1)).Nodup →
     (i = .swingStart h entries duration ∧ kind = 0x61 ∧ program = 0
       ∨ i = .swingProgramStart h program ∧ kind = 0x65 ∧ 1 ≤ program ∧ program ≤ 4
         ∧ nth s.programs program = { entries := entries, duration := duration }) →
     (h.link ≠ s.key → answers i h kind s .refusedLocal .none (closed h s))
       ∧ (h.link = s.key → s.maintenance = true → answers i h kind s .refusedMode .none (closed h s))
       ∧ (h.link = s.key → s.maintenance = false → swingSilenced s = true →
         answers i h kind s .refusedSilence .none (closed h s))
       ∧ (h.link = s.key → s.maintenance = false → swingSilenced s = false →
         let ready := fun (c : Nat) => (s.swing c).cfg.fitted = true ∧ (s.swing c).state = .down ∧ (s.swing c).start = none
         ∃ t statuses, answers i h kind s .ok (.statuses statuses) t
           ∧ statuses.map (·.1) = entries.map (·.1)
           ∧ (∀ x ∈ statuses,
               (x.2 = .ok ↔ ready x.1) ∧ (x.2 = .notFound ↔ (s.swing x.1).cfg.fitted = false)
                 ∧ (x.2 = .busy ↔ (s.swing x.1).cfg.fitted = true ∧ ¬ready x.1))
           ∧ (∀ e ∈ entries, ready e.1 → e.2 ≠ 0 → ∃ p : StartPending,
               t.swing e.1 = { s.swing e.1 with start := some p } ∧ p.ends = s.elapsed + min 120000 e.2
                 ∧ p.duration = min 120 duration ∧ p.program = program)
           ∧ (∀ e ∈ entries, ready e.1 → e.2 = 0 → (t.swing e.1).start = none ∧ (t.swing e.1).duration = min 120 duration
               ∧ (t.swing e.1).state ∈ [.queued, .clearing, .raising])
           ∧ (∀ c ∈ numbers 1 12, ((∀ e ∈ entries, e.1 ≠ c) ∨ ¬ready c) → (s.swing c).state ≠ .queued → t.swing c = s.swing c)
           ∧ raiseQueueOk t ∧ nothingDue t))
    ∧ (∀ (h : Header) (entries : List (Nat × Nat)) (duration : Nat) (s : State), Taken h s →
        (entries = [] ∨ 12 < entries.length ∨ (∃ e ∈ entries, e.1 ∉ numbers 1 12) ∨ ¬(entries.map (·.1)).Nodup) →
        (h.link ≠ s.key → answers (.swingStart h entries duration) h 0x61 s .refusedLocal .none (closed h s))
          ∧ (h.link = s.key → s.maintenance = true →
            answers (.swingStart h entries duration) h 0x61 s .refusedMode .none (closed h s))
          ∧ (h.link = s.key → s.maintenance = false →
            answers (.swingStart h entries duration) h 0x61 s .badValue .none (closed h s)))
    ∧ ∀ (h : Header) (k : Nat) (s : State), Taken h s →
        (k ∉ numbers 1 4 ∨ (nth s.programs k).entries = []) →
        (h.link ≠ s.key → answers (.swingProgramStart h k) h 0x65 s .refusedLocal .none (closed h s))
          ∧ (h.link = s.key → s.maintenance = true →
            answers (.swingProgramStart h k) h 0x65 s .refusedMode .none (closed h s))
          ∧ (h.link = s.key → s.maintenance = false → k ∉ numbers 1 4 →
            answers (.swingProgramStart h k) h 0x65 s .badValue .none (closed h s))
          ∧ (h.link = s.key → s.maintenance = false → k ∈ numbers 1 4 →
            answers (.swingProgramStart h k) h 0x65 s .notFound .none (closed h s))

/-- R133: SWING-STOP acts on each channel it names by its state: a start pending is dropped in DOWN, QUEUED goes DOWN and
leaves the raise queue, CLEARING goes to RESTORING (and on to DOWN where its hammer answers at once), RAISING and
SWINGING go to LOWERING (and on to SETTLING where the pass watch has run out), with way-down cause STOP; nothing else
moves but channels that the load set free admits. The reply gives the states. A channel named while QUEUED is DOWN and
is not admitted by what the same request frees, and its cause STOP stays (log entry 16). -/
def Obligations.SwingStop : Prop :=
  ∀ (h : Header) (channels : Option (List Nat)) (s : State), Taken h s → tiesOk s → raiseQueueOk s → nothingDue s →
    let cs := channels.getD (numbers 1 12)
    cs ≠ [] → cs.Nodup → (∀ c ∈ cs, c ∈ numbers 1 12) →
    ∃ t, answers (.swingStop h channels) h 0x62 s .ok (.swingStates (cs.map (fun c => (c, (t.swing c).state)))) t
      ∧ (∀ c ∈ cs,
          ((s.swing c).state = .down → t.swing c = { s.swing c with start := none })
          ∧ ((s.swing c).state = .queued → (t.swing c).state = .down ∧ (t.swing c).wayDown = .stop ∧ c ∉ t.allowance.queue)
          ∧ ((s.swing c).state = .clearing →
            (t.swing c).state = .restoring ∧ (t.swing c).wayDown = .stop
              ∨ (t.swing c).state = .down ∧ (t.swing c).wayDown = .none)
          ∧ ((s.swing c).state ∈ [.raising, .swinging] →
            (t.swing c).state ∈ [.lowering, .settling] ∧ (t.swing c).wayDown = .stop ∧ (t.swing c).drive = none
              ∧ (t.swing c).raiseEnds = none ∧ (t.swing c).durationEnds = none)
          ∧ ((s.swing c).state ∈ [.lowering, .settling, .restoring, .fault] → t.swing c = s.swing c))
      ∧ (∀ c ∈ numbers 1 12, c ∉ cs → (s.swing c).state ≠ .queued → t.swing c = s.swing c)
      ∧ t.arbiter.clockStrike = s.arbiter.clockStrike ∧ t.dials = s.dials ∧ t.score = s.score ∧ t.time.instant = s.time.instant

/-- R123, R124, R141 to R143: at the end of a stagger the channel is QUEUED, unless SWING is silenced: then the start is
dropped and reported. Alone in the queue it is admitted at once where its raise load fits: it is CLEARING, and its
hammer is asked to withdraw; where it does not fit it waits as head, with yield ordered. A head that has waited 120 s
returns to DOWN with cause REFUSED and RAISE-REFUSED. The refused channel has duration 0 (log entry 16). That the
yield-ordered flag and the yield set are clear while the queue is empty is the model's choice (log entry 10). -/
def Obligations.StaggerEndAndRefusal : Prop :=
  ∀ (c : Nat) (s : State), s.power.operating = true → c ∈ numbers 1 12 → tiesOk s → raiseQueueOk s → nothingDue s →
    let x := s.swing c
    let hm := s.hammer x.cfg.bell
    (∀ p, x.state = .down → x.start = some p → p.ends ≤ s.elapsed → startsBehind s p = false →
        (swingSilenced s = true → exec (.staggerEnd c) s = .next
          (raise (.performanceOmitted 0 .swing .silence .whole none c p.program) (s.withSwing c { x with start := none })))
        ∧ (swingSilenced s = false → s.allowance.queue = [] → x.cfg.raiseLoad + commitment s ≤ s.allowance.units →
          (∀ e ∈ s.strikes, e.bell ≠ x.cfg.bell) → hm.fitted = true → hm.confirm = false →
          hm.state ∈ [.ready, .recovering, .inhibited] →
          exec (.staggerEnd c) s = .next
            { (s.withSwing c
                { x with
                  state := .clearing, start := none, duration := p.duration, drive := none, raiseEnds := none
                  durationEnds := none, settleEnds := none, passEnds := none }).withHammer x.cfg.bell
                { hm with
                  state := .withdrawing, faultCause := none, withdrawOutput := true, watch := some (s.elapsed + 2000) } with
              allowance :=
                { s.allowance with queue := [], headSince := s.elapsed, yieldOrdered := false, yieldSet := [] } })
        ∧ (swingSilenced s = false → s.allowance.queue = [] → s.allowance.units < x.cfg.raiseLoad + commitment s →
          ∃ t, exec (.staggerEnd c) s = .next t ∧ (t.swing c).start = none ∧ (t.swing c).duration = p.duration
            ∧ (t.swing c).state ∈ [.queued, .clearing, .raising]
            ∧ ((t.swing c).state = .queued → t.allowance.queue = [c] ∧ t.allowance.headSince = s.elapsed
              ∧ t.allowance.yieldOrdered = true))
        ∧ (swingSilenced s = false → s.allowance.queue ≠ [] → exec (.staggerEnd c) s = .next
          { s.withSwing c { x with state := .queued, start := none, duration := p.duration } with
            allowance := { s.allowance with queue := s.allowance.queue ++ [c] } }))
      ∧ (s.allowance.queue.head? = some c → s.allowance.headSince + 120000 ≤ s.elapsed →
        ∃ t, exec .raiseRefused s = .next t ∧ (t.swing c).state = .down ∧ (t.swing c).wayDown = .refused
          ∧ (t.swing c).duration = 0 ∧ c ∉ t.allowance.queue
          ∧ nth t.details 14 = some
              { instant := s.time.instant
                detail := .raiseRefused c x.cfg.bell x.cfg.raiseLoad (s.allowance.units - commitment s) s.allowance.yieldSet })

/-- R121, R125 to R128: the sensors of a fitted channel; those of a channel that is not fitted have no effect (R119). An
arc pulse is remembered while the bell is driven or braked. A pass judges the half-swing by it and clears it: in
RAISING a third arc in a row brings SWINGING, and any other pass a push with travel; in SWINGING a pass without an arc
is pushed with travel; in LOWERING a pass with an arc is pushed against travel; in SETTLING the settle watch starts
afresh. That a channel made not fitted ignores its sensors at once is the model's choice (log entry 28). R127 to R131:
passes that bring a channel to SETTLING: one without an arc in LOWERING, one in RESTORING, and one in DOWN or QUEUED,
which sets the way-down cause MOVED, drops a start pending and leaves the raise queue. From RESTORING, DOWN and QUEUED
the hammer is withdrawn; no other channel is touched but those that the load set free admits. That a pass in DOWN
finds the settle time and the fitted flag of the record as it stands, also before the next start, is the model's
choice (log entry 28). -/
def Obligations.SwingSensorsAct : Prop :=
  ((∀ (c : Nat) (d : Direction) (s : State), s.power.operating = true → c ∈ numbers 1 12 → (s.swing c).cfg.fitted = true →
      tiesOk s → raiseQueueOk s → nothingDue s →
      let x := s.swing c
      let push := fun (d : Direction) => some ({ direction := d, ends := s.elapsed + x.cfg.drive } : DrivePulse)
      let counted := min 65535 (x.driveCount + 1)
      (x.state ∈ [.raising, .swinging, .lowering] → exec (.arcPulse c) s = .next (s.withSwing c { x with arcSeen := true }))
        ∧ (x.state ∉ [.raising, .swinging, .lowering] → exec (.arcPulse c) s = .next s)
        ∧ (x.state ∈ [.clearing, .fault] → exec (.passPulse c d) s = .next s)
        ∧ (x.state = .raising → (x.arcSeen = false ∨ x.arcRun < 2) → exec (.passPulse c d) s = .next
          (s.withSwing c
            { x with
              arcSeen := false, arcRun := if x.arcSeen then x.arcRun + 1 else 0, lastPass := some s.elapsed, drive := push d
              passEnds := none, driveCount := counted }))
        ∧ (x.state = .raising → x.arcSeen = true → 2 ≤ x.arcRun →
          ∃ t, exec (.passPulse c d) s = .next t
            ∧ t.swing c = { x with
                state := .swinging, arcSeen := false, arcRun := x.arcRun + 1, lastPass := some s.elapsed, drive := none
                raiseEnds := none, settleEnds := none, passEnds := some (s.elapsed + 4000)
                durationEnds := if x.duration = 0 then none else some (s.elapsed + x.duration * 60000) }
            ∧ nth t.details 12 = some
                { instant := s.time.instant, detail := .swingState c x.cfg.bell .swinging x.driveCount x.wayDown })
        ∧ (x.state = .swinging → exec (.passPulse c d) s = .next
          (s.withSwing c
            { x with
              arcSeen := false, drive := if x.arcSeen then none else push d
              driveCount := if x.arcSeen then x.driveCount else counted, lastPass := some s.elapsed
              passEnds := some (s.elapsed + 4000) }))
        ∧ (x.state = .lowering → x.arcSeen = true → exec (.passPulse c d) s = .next
          (s.withSwing c
            { x with
              arcSeen := false, drive := push d.opposite, driveCount := counted, lastPass := some s.elapsed
              passEnds := some (s.elapsed + 4000) }))
        ∧ (x.state = .settling → exec (.passPulse c d) s = .next
          (s.withSwing c
            { x with arcSeen := false, drive := none, settleEnds := some (s.elapsed + x.cfg.settle * 1000) })))
     ∧ ∀ (c : Nat) (d : Direction) (s : State), s.power.operating = true →
         (c ∉ numbers 1 12 ∨ (s.swing c).cfg.fitted = false) →
         exec (.passPulse c d) s = .next s ∧ exec (.arcPulse c) s = .next s)
    ∧ (∀ (c : Nat) (d : Direction) (s : State), s.power.operating = true → c ∈ numbers 1 12 → (s.swing c).cfg.fitted = true →
       tiesOk s → raiseQueueOk s → nothingDue s →
       let x := s.swing c
       let moved := x.state = .down ∨ x.state = .queued
       (x.state = .lowering ∧ x.arcSeen = false ∨ x.state = .restoring ∨ moved) →
       ∃ t, exec (.passPulse c d) s = .next t
         ∧ (t.swing c).state = .settling ∧ (t.swing c).settleEnds = some (s.elapsed + x.cfg.settle * 1000)
         ∧ (t.swing c).drive = none ∧ (t.swing c).passEnds = none ∧ (t.swing c).arcSeen = false
         ∧ (moved → (t.swing c).wayDown = .moved ∧ (t.swing c).start = none ∧ c ∉ t.allowance.queue)
         ∧ (¬moved → (t.swing c).wayDown = x.wayDown)
         ∧ (x.state ≠ .lowering → (t.hammer x.cfg.bell).state ∈ [.withdrawing, .withdrawn])
         ∧ ∀ k ∈ numbers 1 12, k ≠ c → (s.swing k).state ≠ .queued → t.swing k = s.swing k)

/-- R121, R125 to R129: what a swing channel does when a drive pulse or a watch of it runs out. The motor output goes
inactive, and in RAISING the 4 s watch for a pass starts; that watch brings a further push FORWARD. The raise limit
and the duration bring LOWERING with their cause, the pass watch brings FAULT in SWINGING and SETTLING in LOWERING,
and the settle watch brings RESTORING, or DOWN where the hammer is engaged at once. R122, R140: the fall of the
commitment at the entry to LOWERING is worked through in LOWERING; a channel whose pass watch has run out already goes
on to SETTLING only after that, with the hold load freed then. -/
def Obligations.SwingWatchesRunOut : Prop :=
  ∀ (c e : Nat) (s : State), s.power.operating = true → c ∈ numbers 1 12 → tiesOk s → raiseQueueOk s → nothingDue s →
    e ≤ s.elapsed →
    let x := s.swing c
    let others := fun (t : State) => ∀ k ∈ numbers 1 12, k ≠ c → (s.swing k).state ≠ .queued → t.swing k = s.swing k
    (∀ d, x.drive = some { direction := d, ends := e } → exec (.drivePulseEnd c) s = .next
        (s.withSwing c { x with drive := none, passEnds := if x.state = .raising then some (e + 4000) else x.passEnds }))
      ∧ (x.state = .raising → x.passEnds = some e → x.drive = none → exec (.raiseNoPass c) s = .next
        (s.withSwing c
          { x with
            drive := some { direction := .forward, ends := s.elapsed + x.cfg.drive }, passEnds := none
            driveCount := min 65535 (x.driveCount + 1) }))
      ∧ (∀ i cause, (x.state = .raising ∧ x.raiseEnds = some e ∧ i = .raiseLimitEnd c ∧ cause = WayDown.raiseTimeout
            ∨ x.state = .swinging ∧ x.durationEnds = some e ∧ i = .durationEnd c ∧ cause = .duration) →
        let ends := (match x.lastPass with | some p => p | none => s.elapsed) + 4000
        ∃ t, exec i s = .next t ∧ (t.swing c).wayDown = cause ∧ (t.swing c).drive = none ∧ (t.swing c).raiseEnds = none
          ∧ (t.swing c).durationEnds = none ∧ others t
          ∧ (s.elapsed < ends → (t.swing c).state = .lowering ∧ (t.swing c).passEnds = some ends
            ∧ (t.swing c).arcSeen = x.arcSeen)
          ∧ (ends ≤ s.elapsed → (t.swing c).state = .settling)
          ∧ (let lowered := settleLoad (watchLoad (fun s => s.withSwing c
               { x with
                 state := .lowering, wayDown := cause, drive := none, raiseEnds := none, durationEnds := none
                 settleEnds := none, passEnds := some ends }) s)
             (s.elapsed < ends → t = lowered) ∧ (ends ≤ s.elapsed → exec (.loweringPassWatchEnd c) lowered = .next t)))
      ∧ (x.state = .swinging → x.passEnds = some e →
        ∃ t, exec (.swingPassWatchEnd c) s = .next t ∧ (t.swing c).state = .fault ∧ (t.swing c).cause = .noPass
          ∧ (t.swing c).drive = none ∧ others t
          ∧ nth t.details 13 = some { instant := s.time.instant, detail := .swingFault c x.cfg.bell .noPass .swinging })
      ∧ (x.state = .lowering → x.passEnds = some e →
        ∃ t, exec (.loweringPassWatchEnd c) s = .next t ∧ (t.swing c).state = .settling ∧ (t.swing c).wayDown = x.wayDown
          ∧ (t.swing c).settleEnds = some (s.elapsed + x.cfg.settle * 1000) ∧ (t.swing c).drive = none ∧ others t)
      ∧ (x.state = .settling → x.settleEnds = some e →
        let hm := s.hammer x.cfg.bell
        (hm.state ∈ [.withdrawing, .withdrawn] → hm.fitted = true → hm.confirm = true →
          exec (.settleWatchEnd c) s = .next
            ((s.withSwing c
              { x with
                state := .restoring, drive := none, raiseEnds := none, durationEnds := none, settleEnds := none
                passEnds := none }).withHammer x.cfg.bell
              { hm with
                state := .engaging, withdrawOutput := false, faultCause := none, watch := some (s.elapsed + 2000) }))
        ∧ (hm.state ∈ [.withdrawing, .withdrawn] → (hm.fitted = false ∨ hm.confirm = false) →
          ∃ t, exec (.settleWatchEnd c) s = .next t ∧ (t.swing c).state = .down ∧ (t.swing c).wayDown = .none
            ∧ (t.swing c).duration = 0 ∧ (t.hammer x.cfg.bell).withdrawOutput = false
            ∧ (t.hammer x.cfg.bell).state
                = (if hm.actuatorFault then .fault else if s.maintenance then .inhibited else .ready)
            ∧ nth t.details 12 = some
                { instant := s.time.instant, detail := .swingState c x.cfg.bell .down x.driveCount x.wayDown } ∧ others t))

/-- R119, R122, R141: every step keeps the ties distinct and in range, the raise queue the list of the channels in QUEUED,
each once, and nothing left over in the allowance. -/
def Obligations.RaiseQueueIsTheQueuedChannels : Prop :=
  ∀ s t : State, tiesOk s → raiseQueueOk s → nothingDue s → step s = .next t →
    tiesOk t ∧ raiseQueueOk t ∧ nothingDue t

/-- R131: every step keeps the hammer of each swing bell that may be moving withdrawn, on its way, or in FAULT, or, while
its channel is RESTORING, on its way back. -/
def Obligations.HammersStayClearOfSwingingBells : Prop :=
  ∀ s t : State, tiesOk s → raiseQueueOk s → nothingDue s → hammersClear s → step s = .next t → hammersClear t


/-! ## Supply allowance and floodlights (R139 to R165) -/

/-- R139, R140: the committed draw never exceeds the allowance. The commitment is the sum of the circuits' draws at the
greater of output and target, nothing for a forced one, and of the swing channels' raise and hold loads; every step
keeps it within the allowance, with the hold loads within the raise loads and the fades on their lines. -/
def Obligations.CommitmentWithinAllowance : Prop :=
  (∀ s : State, commitment s
      = ((numbers 1 16).map (fun c => let x := s.circuit c
          if x.forced then 0 else (x.maxDraw * max x.output x.target + 254) / 255)).sum
        + ((numbers 1 12).map (fun c => let x := s.swing c
          if x.state = .clearing ∨ x.state = .raising then x.cfg.raiseLoad
          else if x.state = .swinging ∨ x.state = .lowering then x.cfg.holdLoad else 0)).sum)
    ∧ ∀ s t : State, withinAllowance s → loadsOk s → tiesOk s → raiseQueueOk s → nothingDue s → step s = .next t →
      withinAllowance t ∧ loadsOk t

/-- R139, R148, R150: ALLOWANCE-SET is refused with OVER-ALLOWANCE below the commitment, and one that is no rise moves
nothing; CIRCUIT-CONFIG is refused with BAD-VALUE for a circuit outside 1..16, with OVER-ALLOWANCE where its circuit's
new share would not fit, and stores its clamped record; ALLOWANCE-READ changes no state, and its wait of 0 while the
queue is empty is the model's choice (log entry 10). R146, R152, R153: a circuit set to a level. Not forced and not
yielded, it is granted the lesser of the level and what the load free beside its share allows, is held where that is
less, with LOAD-HELD when it was not held before, and fades there, or is there at once with no time or nothing to
change. A forced one takes the level as its target and stays dark. A yielded one keeps the level as its pre-yield
level and is granted, or if forced takes as its target, no more than its floor. No other circuit moves, and the draw
at the granted level fits. R140 to R142, R144, R145, R147: a release is started when a change lowers the commitment or
ends the last pending raise. A head that does not fit orders yield once: every circuit that gives way and stands above
its floor, with a share, records its desired level, or its target, joins the yield set in ascending number, is held no
more, and fades to its floor over 5 s; no other circuit moves. A rise of the allowance is a release: the head is
admitted where its raise load fits; where it stays, with no raise pending every yielded circuit is restored through
the clamp, in ascending number, before the held ones; while one is pending they stay yielded; and the held circuits
that are not forced are granted afresh in ascending number, each from the load left, with a fade of 5 s where the
grant rises. The reply's commitment is the one after the release (the model's choice, log entry 14). That the
yield-ordered flag and the yield set are cleared as the last head leaves the queue empty is the model's choice (log
entry 10). -/
def Obligations.AllowanceCircuitsAndGrants : Prop :=
  (∀ (h : Header) (s : State), Taken h s → nothingDue s →
     (∀ units : Nat,
         let a := min 1000 units
         (a < commitment s → answers (.allowanceSet h units) h 0x68 s .overAllowance (.commitment (commitment s)) (closed h s))
           ∧ (commitment s ≤ a → a ≤ s.allowance.units →
             answers (.allowanceSet h units) h 0x68 s .ok (.allowance a (commitment s))
               { closed h s with allowance := { s.allowance with units := a } })
           ∧ (commitment s ≤ a → s.allowance.units < a →
             ∃ t, answers (.allowanceSet h units) h 0x68 s .ok (.allowance a (commitment t)) t ∧ t.allowance.units = a
               ∧ t.dials = s.dials ∧ t.time.instant = s.time.instant ∧ t.score = s.score))
       ∧ (∀ (c maxDraw floor : Nat) (y : Bool), c ∈ numbers 1 16 →
         let x := s.circuit c
         let x' : Circuit := { x with maxDraw := min 200 maxDraw, yields := y, floor := min 255 floor }
         let i : Instr := .circuitConfig h c maxDraw y.toNat floor
         let draw := commitment s - x.share + x'.share
         (s.allowance.units < draw →
             answers i h 0x70 s .overAllowance (.overdrawn (commitment s) s.allowance.units) (closed h s))
           ∧ (draw ≤ s.allowance.units → x.share ≤ x'.share →
             answers i h 0x70 s .ok (.circuit c x'.maxDraw y x'.floor) ((closed h s).withCircuit c x'))
           ∧ (draw ≤ s.allowance.units → x'.share < x.share →
             ∃ t, answers i h 0x70 s .ok (.circuit c x'.maxDraw y x'.floor) t ∧ (t.circuit c).maxDraw = x'.maxDraw
               ∧ (t.circuit c).yields = y ∧ (t.circuit c).floor = x'.floor ∧ (t.circuit c).output = x.output
               ∧ ∀ d ∈ numbers 1 16, (t.circuit d).output = (s.circuit d).output))
       ∧ (∀ (c maxDraw floor : Nat) (y : Bool), c ∉ numbers 1 16 →
         answers (.circuitConfig h c maxDraw y.toNat floor) h 0x70 s .badValue .none (closed h s))
       ∧ ∃ b, answers (.allowanceRead h) h 0x69 s .ok b (closed h s)
         ∧ ∃ circuits swings wait yielded held, b = .allowanceRead s.allowance.units (commitment s)
             (s.allowance.units - commitment s) circuits swings s.allowance.queue wait s.allowance.yieldOrdered
             s.allowance.yieldSet yielded held
           ∧ circuits = (numbers 1 16).map (fun c => (s.circuit c).share)
           ∧ swings = (numbers 1 12).map (fun c => (s.swing c).share)
           ∧ wait = (if s.allowance.queue = [] then 0 else s.elapsed - s.allowance.headSince)
           ∧ (∀ c d, (c, d) ∈ yielded ↔ c ∈ numbers 1 16 ∧ (s.circuit c).preYield = some d)
           ∧ ∀ c d g, (c, d, g) ∈ held ↔ c ∈ numbers 1 16 ∧ (s.circuit c).desired = some d ∧ (s.circuit c).target = g)
    ∧ (∀ (c d seconds : Nat) (s : State), c ∈ numbers 1 16 →
       let x := s.circuit c
       let t := setCircuit c d seconds s
       let free := s.allowance.units - (commitment s - x.share)
       let goes := fun (g : Nat) (y : Circuit) =>
         y.target = g ∧ y.forced = false ∧ y.maxDraw = x.maxDraw ∧ y.yields = x.yields ∧ y.floor = x.floor
           ∧ (seconds = 0 ∨ x.output = g → y.output = g ∧ y.fade = none)
           ∧ (seconds ≠ 0 → x.output ≠ g → y.output = x.output
             ∧ y.fade = some { start := x.output, done := 0, total := 10 * seconds, began := s.elapsed })
       let grantOf := fun (d : Nat) => if x.maxDraw = 0 then d else min d (min 255 (free * 255 / x.maxDraw))
       (∀ k ∈ numbers 1 16, k ≠ c → t.circuit k = s.circuit k)
         ∧ (x.forced = false → x.preYield = none → goes (grantOf d) (t.circuit c) ∧ (t.circuit c).preYield = none
           ∧ (t.circuit c).desired = (if grantOf d < d then some d else none)
           ∧ (grantOf d < d → x.desired = none → nth t.details 15
               = some { instant := s.time.instant, detail := .loadHeld c d (grantOf d) free })
           ∧ (¬(grantOf d < d ∧ x.desired = none) → t.details = s.details)
           ∧ (d ≤ 255 → x.maxDraw * grantOf d ≤ free * 255))
         ∧ (x.forced = true → x.preYield = none → t.circuit c = { x with target := d, desired := none })
         ∧ (∀ was, x.preYield = some was → x.forced = false →
           goes (grantOf (min d x.floor)) (t.circuit c) ∧ (t.circuit c).preYield = some d ∧ (t.circuit c).desired = none)
         ∧ (∀ was, x.preYield = some was → x.forced = true →
           t.circuit c = { x with target := min d x.floor, desired := none, preYield := some d }))
    ∧ ((∀ (f : State → State) (s : State),
         let pending := fun u : State =>
           u.allowance.queue ≠ [] ∨ ∃ c ∈ numbers 1 12, (u.swing c).state = .clearing ∨ (u.swing c).state = .raising
         let u := f s
         (commitment u < commitment s ∨ pending s ∧ ¬pending u →
             watchLoad f s = { u with allowance := { u.allowance with releaseDue := true } })
           ∧ (commitment s ≤ commitment u → (pending s → pending u) → watchLoad f s = u))
       ∧ (∀ s : State,
         let t := orderYield s
         let yields := fun c : Nat => let x := s.circuit c
           x.yields && x.preYield.isNone && decide (0 < x.share) && decide (x.floor < x.target)
         (∀ c ∈ numbers 1 16, let x := s.circuit c
             t.circuit c = if yields c then
                 { x with
                   target := x.floor
                   fade := if x.output = x.floor then none
                     else some { start := x.output, done := 0, total := 50, began := s.elapsed }
                   desired := none, preYield := some (x.desired.getD x.target) }
               else x)
           ∧ t.allowance = { s.allowance with
               yieldOrdered := true, yieldSet := s.allowance.yieldSet ++ (numbers 1 16).filter yields
               releaseDue := t.allowance.releaseDue }
           ∧ t = { s with allowance := t.allowance, lights := { s.lights with circuits := t.lights.circuits } }
           ∧ ∀ k, s.allowance.queue.head? = some k → s.allowance.units < (s.swing k).cfg.raiseLoad + commitment s →
             let u := if s.allowance.yieldOrdered then s else t
             tryHead s = { u with allowance := { u.allowance with headDue := false } })
       ∧ ∀ (h : Header) (units : Nat) (s : State), Taken h s → nothingDue s → tiesOk s → raiseQueueOk s →
         let a := min 1000 units
         let i : Instr := .allowanceSet h units
         let base : State := { closed h s with allowance := { s.allowance with units := a } }
         s.allowance.units < a → commitment s ≤ a →
         (∀ c, s.allowance.queue = [c] → (∀ k ∈ numbers 1 16, (s.circuit k).desired = none) →
             let x := s.swing c
             let hm := s.hammer x.cfg.bell
             x.cfg.raiseLoad + commitment s ≤ a → (∀ e ∈ s.strikes, e.bell ≠ x.cfg.bell) → hm.fitted = true →
             hm.confirm = false → hm.state ∈ [.ready, .recovering, .inhibited] →
             answers i h 0x68 s .ok (.allowance a (commitment s + x.cfg.raiseLoad))
               { (base.withSwing c
                   { x with
                     state := .clearing, drive := none, raiseEnds := none, durationEnds := none, settleEnds := none
                     passEnds := none }).withHammer x.cfg.bell
                   { hm with
                     state := .withdrawing, faultCause := none, withdrawOutput := true, watch := some (s.elapsed + 2000) } with
                 allowance :=
                   { s.allowance with
                     units := a, queue := [], headSince := s.elapsed, yieldOrdered := false, yieldSet := [] } })
           ∧ (headStays base →
             answers i h 0x68 s .ok (.allowance a (commitment (lightsReleased base))) (lightsReleased base)))

/-- R154 to R157: SCENE-WRITE stores its records from the start index on, 63 followed by 0, and skips scene 0, which stays
as it is: the stored count is that of the records that fall on another scene, the skipped count that of those that
fall on scene 0. A start index or a scene outside 0..63 and a count outside 1..8 are refused with BAD-VALUE, and a
payload that does not match its count with BAD-LENGTH. SCENE-APPLY sets each circuit outside the scene's keep mask, in
ascending number, to the scene's level with the clamped fade, and works through the releases after the last; its reply
gives each circuit's target and whether it is held. The reply gives the targets and holds as they stand after the
releases (log entry 14). R156: SCENE-READ carries a start index, refused with BAD-VALUE outside 0..63, and a count,
clamped to 1..8; it gives that many scenes from the start index on, 63 followed by 0, and changes no state. R160,
R162, R165: DUSK-WRITE and SCHEDULE-WRITE store their clamped entries and move no light; a list past entry 52, an
entry number outside 0..47, a trigger that is none of the three and a scene outside 0..63 are refused with BAD-VALUE,
and so is a start index outside its table; the reads of the dusk table, the schedule and the lights change no state. -/
def Obligations.LightingRecords : Prop :=
  (∀ (h : Header) (s : State), Taken h s →
     (∀ (start : Nat) (scenes : List Scene), start ≤ 63 → 1 ≤ scenes.length → scenes.length ≤ 8 →
         let falls := fun k : Nat => (start + k) % 64
         let places := List.range scenes.length
         ∃ ps, answers (.sceneWrite h start scenes.length scenes) h 0x71 s .ok
             (.scenesWritten (places.filter (fun k => falls k != 0)).length (places.filter (fun k => falls k == 0)).length
               (falls scenes.length))
             { closed h s with lights := { s.lights with scenes := ps } }
           ∧ slot ps 0 = slot s.lights.scenes 0
           ∧ (∀ k x, scenes[k]? = some x → falls k ≠ 0 → slot ps (falls k) = x)
           ∧ ∀ n, (∀ k, k < scenes.length → falls k ≠ n) → slot ps n = slot s.lights.scenes n)
       ∧ (∀ (start count : Nat) (scenes : List Scene), (63 < start ∨ count = 0 ∨ 8 < count) →
         answers (.sceneWrite h start count scenes) h 0x71 s .badValue .none (closed h s))
       ∧ (∀ n fade, 63 < n → answers (.sceneApply h n fade) h 0x73 s .badValue .none (closed h s))
       ∧ (∀ (start count : Nat) (scenes : List Scene), start ≤ 63 → 1 ≤ count → count ≤ 8 → scenes.length ≠ count →
         answers (.sceneWrite h start count scenes) h 0x71 s .badLength .none (closed h s))
       ∧ ∀ n fade, n ≤ 63 →
         let x := slot s.lights.scenes n
         let cs := (numbers 1 16).filter (fun c => !x.keep.getLsbD (c - 1))
         ∃ t, answers (.sceneApply h n fade) h 0x73 s .ok
             (.granted (cs.map (fun c =>
               { circuit := c, target := (t.circuit c).target, held := (t.circuit c).desired.isSome }))) t
           ∧ t = settleLoad
               (cs.foldl (fun u c => setCircuit c (nth x.levels c).toNat (min 600 fade) u) (closed h s)))
    ∧ (∀ (h : Header) (start count : Nat) (s : State), Taken h s →
       (63 < start → answers (.sceneRead h start count) h 0x72 s .badValue .none (closed h s))
         ∧ (start ≤ 63 → answers (.sceneRead h start count) h 0x72 s .ok
           (.scenes start ((List.range (max 1 (min 8 count))).map (fun k => slot s.lights.scenes ((start + k) % 64))))
           (closed h s)))
    ∧ (∀ (h : Header) (s : State), Taken h s →
       (∀ (start : Nat) (es : List (Nat × Nat)), start ≤ 52 → 1 ≤ es.length → es.length ≤ 16 → start + es.length ≤ 53 →
           ∃ ds, answers (.duskWrite h start es) h 0x75 s .ok (.count es.length)
               { closed h s with lights := { s.lights with dusk := ds } }
             ∧ (∀ k e, es[k]? = some e → slot ds (start + k) = (min 1439 e.1, min 1439 e.2))
             ∧ ∀ n, (n < start ∨ start + es.length ≤ n) → slot ds n = slot s.lights.dusk n)
         ∧ (∀ start count, start ≤ 52 → answers (.duskRead h start count) h 0x76 s .ok
             (.dusks ((s.lights.dusk.toList.drop start).take (max 1 (min 16 count)))) (closed h s))
         ∧ (∀ (entry classes kind : Nat) (on : Bool) (value : Int) (scene fade : Nat), entry ≤ 47 → classes < 256 → kind ≤ 2 →
           scene ≤ 63 →
           let e : SchedEntry :=
             { enable := on, classes := BitVec.ofNat 8 classes
               trigger :=
                 if kind = 0 then .fixed (max 0 (min 1439 value)).toNat
                 else if kind = 1 then .dusk (max (-240) (min 240 value)) else .dawn (max (-240) (min 240 value))
               scene := scene, fade := min 600 fade }
           ∃ es, answers (.scheduleWrite h entry on.toNat classes kind value scene fade) h 0x77 s .ok (.schedEntry entry e)
               { closed h s with lights := { s.lights with schedule := es } }
             ∧ slot es entry = e ∧ ∀ n, n ≠ entry → slot es n = slot s.lights.schedule n)
         ∧ (∀ start count, start ≤ 47 → answers (.scheduleRead h start count) h 0x78 s .ok
             (.schedule start (((s.lights.schedule.toList.drop start).take (max 1 (min 16 count))).map
               (fun e => (e, triggerMinute s e.trigger)))) (closed h s))
         ∧ (∀ (start : Nat) (es : List (Nat × Nat)), 1 ≤ es.length → es.length ≤ 16 → 53 < start + es.length →
           answers (.duskWrite h start es) h 0x75 s .badValue .none (closed h s))
         ∧ (∀ (entry classes kind : Nat) (on : Bool) (value : Int) (scene fade : Nat), (47 < entry ∨ 2 < kind ∨ 63 < scene) →
           answers (.scheduleWrite h entry on.toNat classes kind value scene fade) h 0x77 s .badValue .none (closed h s))
         ∧ (∀ start count, 52 < start → answers (.duskRead h start count) h 0x76 s .badValue .none (closed h s))
         ∧ (∀ start count, 47 < start → answers (.scheduleRead h start count) h 0x78 s .badValue .none (closed h s))
         ∧ answers (.lightRead h) h 0x79 s .ok
             (.lights s.lights.mode s.lights.first s.lights.last
               ((numbers 1 16).map (fun c => (s.circuit c, (s.circuit c).share)))) (closed h s))

/-- R158, R159: LIGHT-MODE for the mode in force changes nothing. Otherwise the mode is stored, with its range for
PARTIAL, and exactly the circuits that the mode forces are forced: all in DARK, those outside the range in PARTIAL,
none in LIT. A circuit newly forced is dark with no fade, and no other output moves at once. Each circuit forced no
more is then granted afresh, in ascending number, at its desired level or else at its target: the grant is its target,
with a hold where it falls short, and its output fades there over 5 s. Where the newly dark ones let the commitment
fall, the release comes after that. R153, R163: a fade step moves its circuit's output along the line from its start
to its target, by whole levels truncated, and at its last step to the target, and no other output; when the share does
not fall nothing else happens. At a minute boundary with validity SET the entries that are enabled, act on today's
class and have this trigger minute are applied in ascending number, each with its own releases. R164: restoration
applies with fade 0 the scenes of the enabled entries whose mask holds today's class and whose trigger minute is at or
before the minute of now, in ascending trigger minute and then entry number, and works through the releases after the
last; with validity UNSET it leaves the lights. It follows an accepted TIME-SET or ZONE-SET that moves the instant, on
the lights as they stand and with the new day's class, and a restart, with every circuit dark; the end of the range
leaves the lights as they are. -/
def Obligations.LightModeFadesAndSchedule : Prop :=
  (∀ (h : Header) (mode first last : Nat) (s : State), Taken h s → nothingDue s → mode ≤ 2 →
     (mode = 1 → 1 ≤ first ∧ first ≤ 16 ∧ 1 ≤ last ∧ last ≤ 16) →
     let m : LightMode := if mode = 0 then .lit else if mode = 1 then .partialRange else .dark
     let a := if mode = 1 then first else s.lights.first
     let z := if mode = 1 then last else s.lights.last
     let i : Instr := .lightMode h mode first last
     let same := s.lights.mode = m ∧ s.lights.first = a ∧ s.lights.last = z
     let dark := fun c : Nat => m = .dark ∨ m = .partialRange ∧ ¬(if a ≤ z then a ≤ c ∧ c ≤ z else a ≤ c ∨ c ≤ z)
     let darkened := (numbers 1 16).foldl
       (fun u c => if (s.circuit c).forced = false ∧ dark c then
           u.withCircuit c { s.circuit c with forced := true, fade := none, output := 0 } else u)
       { closed h s with lights := { s.lights with mode := m, first := a, last := z } }
     let lit := (numbers 1 16).foldl
       (fun u c => let x := s.circuit c
         if x.forced = true ∧ ¬dark c then
           grantedAt (u.withCircuit c { x with forced := false }) c (x.desired.getD x.target) else u) darkened
     (same → answers i h 0x74 s .ok (.lightMode m a z) (closed h s))
       ∧ (¬same → ∃ t, answers i h 0x74 s .ok (.lightMode m a z) t
         ∧ t.lights.mode = m ∧ t.lights.first = a ∧ t.lights.last = z ∧ t.lights.scenes = s.lights.scenes
         ∧ t.lights.dusk = s.lights.dusk ∧ t.lights.schedule = s.lights.schedule
         ∧ (∀ c ∈ numbers 1 16,
           ((t.circuit c).forced = true ↔ dark c)
           ∧ ((s.circuit c).forced = false → (t.circuit c).forced = true → (t.circuit c).output = 0 ∧ (t.circuit c).fade = none)
           ∧ (¬((s.circuit c).forced = false ∧ (t.circuit c).forced = true) → (t.circuit c).output = (s.circuit c).output))
         ∧ (headStays lit → t = if commitment darkened < commitment s then lightsReleased lit else lit)))
    ∧ ((∀ (c : Nat) (s : State) (f : Fade), s.power.operating = true → c ∈ numbers 1 16 → nothingDue s →
         (s.circuit c).fade = some f → f.began + (f.done + 1) * 100 ≤ s.elapsed →
         let x := s.circuit c
         let j := f.done + 1
         let v : Nat := if f.total ≤ j then x.target else ((f.start : Int) + Int.tdiv (((x.target : Int) - f.start) * j) f.total).toNat
         let x' : Circuit := { x with output := v, fade := if f.total ≤ j then none else some { f with done := j } }
         (x.share ≤ x'.share → exec (.fadeStep c) s = .next (s.withCircuit c x'))
           ∧ (x'.share < x.share → ∃ t, exec (.fadeStep c) s = .next t ∧ (t.circuit c).output = v
             ∧ ∀ k ∈ numbers 1 16, k ≠ c → (t.circuit k).output = (s.circuit k).output))
       ∧ ∀ s : State, s.power.operating = true → s.time.validity = .isSet → s.time.minuteMark < s.time.instant / 60000 →
         let m := s.time.instant % 86400000 / 60000
         let r := classOf s.calendar (s.time.instant / 86400000)
         let u : State :=
           { s with
             time := { s.time with minuteMark := s.time.instant / 60000 }
             calendar := { s.calendar with today := r.1, source := r.2, todayDay := s.time.instant / 86400000 } }
         let es := (s.lights.schedule.toList).filter
           (fun e => e.enable && e.classes.getLsbD r.1 && triggerMinute s e.trigger == m)
         exec .scheduleEvaluation s = .next (es.foldl (fun v e => settleLoad (applyScene e.scene e.fade v)) u))
    ∧ ((∀ s : State, ∃ ns : List Nat,
         let trigger := fun n : Nat => triggerMinute s (slot s.lights.schedule n).trigger
         let applied := fun (u : State) (n : Nat) => let x := slot u.lights.scenes (slot s.lights.schedule n).scene
           ((numbers 1 16).filter (fun c => !x.keep.getLsbD (c - 1))).foldl (fun v c => setCircuit c (nth x.levels c).toNat 0 v) u
         ns.Pairwise (fun a b => trigger a < trigger b ∨ trigger a = trigger b ∧ a < b)
           ∧ (∀ n, n ∈ ns ↔ n ≤ 47 ∧ (slot s.lights.schedule n).enable = true
             ∧ (slot s.lights.schedule n).classes.getLsbD s.calendar.today = true
             ∧ trigger n ≤ s.time.instant % 86400000 / 60000)
           ∧ (s.time.validity = .isSet → restoreLights s = settleLoad (ns.foldl applied s))
           ∧ (s.time.validity = .unset → restoreLights s = s))
       ∧ (∀ (h : Header) (s : State), Taken h s → nothingDue s →
         let follows := fun (i : Instr) (kind new : Nat) => ∃ b u, answers i h kind s .ok b (restoreLights u)
           ∧ u.lights = s.lights ∧ u.allowance = s.allowance ∧ u.swings = s.swings ∧ u.time.validity = .isSet
           ∧ u.time.instant = new ∧ u.calendar.today = (classOf s.calendar (new / 86400000)).1
         (∀ year month day ms, let y := max 2000 (min 2099 year)
             let m := max 1 (min 12 month)
             let new := dayNumber y m day * 86400000 + min 86399999 ms
             1 ≤ day → day ≤ monthLength y m → (s.time.validity = .unset ∨ new ≠ s.time.instant) →
             follows (.timeSet h year month day ms) 0x10 new)
           ∧ ∀ minutes new, s.time.validity = .isSet → -120 ≤ minutes → minutes ≤ 120 → minutes ≠ 0 →
             -720 ≤ s.time.zone + minutes → s.time.zone + minutes ≤ 720 →
             ((new : Nat) : Int) = s.time.instant + minutes * 60000 → new ≤ 3155759999999 →
             follows (.zoneSet h minutes) 0x11 new)
       ∧ (∀ s : State, s.power.operating = true → nothingDue s → s.time.stopped = false → s.time.instant = 3155759999999 →
         ∃ t, exec .rangeEnd s = .next t ∧ t.lights = s.lights)
       ∧ ∀ s : State, s.power.operating = false → s.power.supply = true → s.power.failInput = true →
         s.power.resetLine = false → s.power.lost = false →
         ∃ u, exec .supplyRecovered s = .next (restoreLights u) ∧ u.time.validity = s.time.validity
           ∧ u.time.instant = s.time.instant ∧ u.lights.schedule = s.lights.schedule ∧ u.lights.scenes = s.lights.scenes
           ∧ u.lights.dusk = s.lights.dusk ∧ u.calendar.today = (classOf s.calendar (s.time.instant / 86400000)).1
           ∧ ∀ c ∈ numbers 1 16, (u.circuit c).output = 0 ∧ (u.circuit c).target = 0 ∧ (u.circuit c).fade = none
             ∧ (u.circuit c).desired = none ∧ (u.circuit c).preYield = none
             ∧ (u.circuit c).maxDraw = (s.circuit c).maxDraw)

/-- R161: the dusk or dawn minute of a day is that of the entry the day stands on or the nearest minute to the straight
line between two entries, never a tie; a FIXED entry's trigger minute is its own, and a DUSK or DAWN entry's is that
minute moved by its offset within the day. -/
def Obligations.DuskAndDawnMinutes : Prop :=
  (∀ (column : Nat → Nat) (d : Nat), 1 ≤ d → d ≤ 366 →
      let k := (d - 1) / 7
      let f := (d - 1) % 7
      (k = 52 → columnValue column d = column 52)
        ∧ (k < 52 →
          (columnValue column d : Int) = (column k : Int) + (2 * ((column (k + 1) : Int) - column k) * f + 7) / 14
            ∧ 2 * (7 * ((columnValue column d : Int) - column k) - ((column (k + 1) : Int) - column k) * f) < 7
            ∧ -7 < 2 * (7 * ((columnValue column d : Int) - column k) - ((column (k + 1) : Int) - column k) * f)))
    ∧ ∀ s : State,
      let d := dayOfYear (s.time.instant / 86400000)
      let moved := fun (m : Nat) (o : Int) => (max 0 (min 1439 ((m : Int) + o))).toNat
      (∀ m, triggerMinute s (.fixed m) = m)
        ∧ (∀ o, triggerMinute s (.dusk o) = moved (columnValue (fun k => (slot s.lights.dusk k).1) d) o)
        ∧ ∀ o, triggerMinute s (.dawn o) = moved (columnValue (fun k => (slot s.lights.dusk k).2) d) o


/-! ## What holds after reset and after every step -/

/-- R170, R174: every step keeps each link's notice sets: no kind both pending and held, no transient kind held, and no
count above 255. -/
def Obligations.NoticeSetsStayApart : Prop :=
  ∀ s t : State, noticesOk s → step s = .next t → noticesOk t

/-- What reset leaves of what the manual gives after retained loss (R1, R2, R5, R7, R13 to R15, R21 to R25, R40, R41, R48,
R55, R67, R70, R81, R101, R102, R109, R119, R122, R134, R137, R139, R149, R154, R158, R160, R162, R173, R178, R180,
R182): the instant 0 with validity UNSET, the tables empty or at their defaults, and the part in operation in RUN.
Reset is a POWER-UP with the retained area lost, RESTARTED pending and the confirm inputs clear, so that the hammers
of the tied bells are WITHDRAWING (log entry 6). The other values that the manual does not give stand in the log and
are not stated. -/
def Obligations.ResetLeavesTheDefaults : Prop :=
  let s := State.reset
  (s.time.instant = 0 ∧ s.time.validity = .unset ∧ s.time.zone = 0 ∧ s.time.refEnabled = true ∧ s.time.refState = .seeking
      ∧ s.time.slew = 0 ∧ s.time.marker = none ∧ s.time.lastError = none)
    ∧ ((∀ k, k ≤ 7 → slot s.calendar.classes k = { chimeSet := none, strikeHours := true, chimeQuarters := false })
      ∧ (∀ d, d ≤ 6 → slot s.calendar.weekdays d = 0) ∧ s.calendar.entries = []
      ∧ ∀ n ∈ numbers 1 2, s.timer n = { ends := none, mask := 0, action := .none })
    ∧ (∀ c ∈ numbers 1 4, (s.dial c).cfg = { kind := .minute, impulse := 500, gap := 500, wait := 0, datum := false }
      ∧ (s.dial c).pos = 0 ∧ (s.dial c).known = false ∧ (s.dial c).hold = false ∧ (s.dial c).fault = false)
    ∧ ((∀ r c, s.score.read r c = 0) ∧ s.score.protectedRows = []
      ∧ (∀ n, n ≤ 31 → slot s.tunes n
        = { valid := false
            snap := { start := 0, intro := 0, body := 1, coda := 0, passes := 1, beat := 1000, shift := 0, whole := false } })
      ∧ ∀ k, k ≤ 7 → ∀ p ∈ numbers 1 4, nth (slot s.chimes k) p = { tunes := [], pointer := 0, step := 1 })
    ∧ (s.arbiter.queue = [] ∧ s.arbiter.nextId = 1 ∧ s.strikes = [] ∧ s.touch.status = .empty
      ∧ s.arbiter.clockStrike = { bell := 24, strength := 3, interval := 2500, gap := 2000 }
      ∧ ∀ n, n ≤ 15 → (slot s.arbiter.silence n).enable = false ∧ (slot s.arbiter.silence n).classes = 0
        ∧ (slot s.arbiter.silence n).silenced = 0)
    ∧ ((∀ b ∈ numbers 1 24, (s.hammer b).lead = 100 ∧ (s.hammer b).recovery = 400 ∧ (s.hammer b).width = 60
        ∧ (s.hammer b).fitted = true ∧ (s.hammer b).recoveryEnd = none
        ∧ (s.hammer b).state = (if b ≤ 12 then .withdrawing else .ready))
      ∧ (∀ k, k ≤ 7 → (slot s.methods k).valid = false ∧ (slot s.methods k).stage = 4)
      ∧ (∀ c ∈ numbers 1 12, (s.swing c).state = .settling ∧ (s.swing c).wayDown = .restart
        ∧ (s.swing c).cfg = { bell := c, drive := 500, raiseLoad := 10, holdLoad := 4, raiseLimit := 90, settle := 20, fitted := false })
      ∧ ∀ k ∈ numbers 1 4, nth s.programs k = { entries := [], duration := 0 })
    ∧ (s.allowance.units = 60 ∧ s.allowance.queue = []
      ∧ (∀ c ∈ numbers 1 16, (s.circuit c).maxDraw = 0 ∧ (s.circuit c).yields = false ∧ (s.circuit c).floor = 0
        ∧ (s.circuit c).output = 0)
      ∧ (∀ n, n ≤ 63 → slot s.lights.scenes n = { levels := Vector.replicate 16 0, keep := 0 })
      ∧ s.lights.mode = .lit ∧ s.lights.first = 1 ∧ s.lights.last = 16
      ∧ (∀ k, k ≤ 52 → slot s.lights.dusk k = (1080, 360))
      ∧ ∀ k, k ≤ 47 → slot s.lights.schedule k
        = { enable := false, classes := 0, trigger := .fixed 0, scene := 0, fade := 0 })
    ∧ s.maintenance = false ∧ s.power.operating = true ∧ s.power.markerGood = false
    ∧ ∀ l, nth (s.link l).pending 17 = 1 ∧ (s.link l).receiver.state = .hunt ∧ (s.link l).counters.clear = true

/-- Each of the invariants holds right after reset. -/
def Obligations.ResetMeetsTheInvariants : Prop :=
  scoreOk State.reset ∧ queueOk State.reset ∧ truthOk State.reset ∧ noticesOk State.reset ∧ calendarOk State.reset.calendar.entries
    ∧ tiesOk State.reset ∧ raiseQueueOk State.reset ∧ nothingDue State.reset ∧ hammersClear State.reset
    ∧ withinAllowance State.reset ∧ loadsOk State.reset ∧ State.reset.pending = []

end Statements
end

