-- ==== Sys2Proof/Laws/Memory.lean ====
section
/-! SUPPORT. The score memory (R40, R41, R45): reading back what was written, and the canonical form that
every operation on it keeps. -/

namespace Sys2Proof.Machine

open Sys2Proof

/-! ## Strictly rising lists -/

theorem risingFrom_mono (lo lo' : Nat) (xs : List Nat) (h : lo' ≤ lo) (r : risingFrom lo xs = true) :
    risingFrom lo' xs = true := by
  cases xs with
  | nil => rfl
  | cons x xs => simp [risingFrom] at *; exact ⟨by omega, r.2⟩

theorem risingFrom_le (lo : Nat) (xs : List Nat) (r : risingFrom lo xs = true) : ∀ x ∈ xs, lo ≤ x := by
  induction xs generalizing lo with
  | nil => simp
  | cons y ys ih =>
    simp [risingFrom] at r
    intro x hx
    rcases List.mem_cons.mp hx with rfl | hx
    · exact r.1
    · have := ih _ r.2 x hx; omega

theorem risingFrom_filter (p : Nat → Bool) (lo : Nat) (xs : List Nat) (r : risingFrom lo xs = true) :
    risingFrom lo (xs.filter p) = true := by
  induction xs generalizing lo with
  | nil => rfl
  | cons x xs ih =>
    simp [risingFrom] at r
    rw [List.filter_cons]
    split
    · simp [risingFrom, r.1, ih _ r.2]
    · exact risingFrom_mono (x + 1) lo _ (by omega) (ih _ r.2)

/-! ## Cells -/

/-- Below the addresses of a rising list every cell reads as 0. -/
theorem cellAt_below (cs : List (Nat × BitVec 2)) (lo a : Nat) (r : risingFrom lo (cs.map (·.1)) = true) (h : a < lo) :
    cellAt cs a = 0 := by
  induction cs generalizing lo with
  | nil => rfl
  | cons c cs ih =>
    simp [risingFrom] at r
    have hne : a ≠ c.1 := by omega
    simp only [cellAt, hne, if_false]
    exact ih (c.1 + 1) r.2 (by omega)

/-- A cell reads back as it was written. -/
theorem cellAt_writeCell_self (a : Nat) (v : BitVec 2) (cs : List (Nat × BitVec 2)) (lo : Nat)
    (r : risingFrom lo (cs.map (·.1)) = true) : cellAt (writeCell a v cs) a = v := by
  induction cs generalizing lo with
  | nil =>
    by_cases hv : v = 0#2
    · simp [writeCell, hv, cellAt]
    · simp [writeCell, hv, cellAt]
  | cons c cs ih =>
    obtain ⟨b, w⟩ := c
    simp [risingFrom] at r
    simp only [writeCell]
    by_cases h1 : a < b
    · by_cases hv : v = 0#2
      · have hb : cellAt cs a = 0 := cellAt_below cs (b + 1) a r.2 (by omega)
        have hne : a ≠ b := by omega
        simp [h1, hv, cellAt, hne, hb]
      · simp [h1, hv, cellAt]
    · by_cases h2 : a = b
      · subst h2
        by_cases hv : v = 0#2
        · have hb : cellAt cs a = 0 := cellAt_below cs (a + 1) a r.2 (by omega)
          simp [hv, hb]
        · simp [hv, cellAt]
      · simp [h1, h2, cellAt, ih (b + 1) r.2]

/-- A write leaves every other cell. -/
theorem cellAt_writeCell_ne (a a' : Nat) (v : BitVec 2) (cs : List (Nat × BitVec 2)) (h : a' ≠ a) :
    cellAt (writeCell a v cs) a' = cellAt cs a' := by
  induction cs with
  | nil => by_cases hv : v = 0#2 <;> simp [writeCell, hv, cellAt, h]
  | cons c cs ih =>
    obtain ⟨b, w⟩ := c
    simp only [writeCell]
    by_cases h1 : a < b
    · by_cases hv : v = 0#2 <;> simp [h1, hv, cellAt, h]
    · by_cases h2 : a = b
      · subst h2
        by_cases hv : v = 0#2 <;> simp [hv, cellAt, h]
      · simp [h1, h2, cellAt, ih]

theorem writeCell_rising (a : Nat) (v : BitVec 2) (cs : List (Nat × BitVec 2)) (lo : Nat) (h : lo ≤ a)
    (r : risingFrom lo (cs.map (·.1)) = true) : risingFrom lo ((writeCell a v cs).map (·.1)) = true := by
  induction cs generalizing lo with
  | nil => by_cases hv : v = 0#2 <;> simp [writeCell, hv, risingFrom, h]
  | cons c cs ih =>
    obtain ⟨b, w⟩ := c
    simp [risingFrom] at r
    simp only [writeCell]
    by_cases h1 : a < b
    · by_cases hv : v = 0#2
      · simp [h1, hv, risingFrom, r]
      · simp [h1, hv, risingFrom, h, r.2]
    · by_cases h2 : a = b
      · subst h2
        by_cases hv : v = 0#2
        · simp [hv]; exact risingFrom_mono _ _ _ (by omega) r.2
        · simp [hv, risingFrom, h, r.2]
      · simp [h1, h2, risingFrom, r.1]; exact ih (b + 1) (by omega) r.2

theorem writeCell_all (p : Nat × BitVec 2 → Bool) (a : Nat) (v : BitVec 2) (cs : List (Nat × BitVec 2))
    (h : v ≠ 0 → p (a, v) = true) (r : cs.all p = true) : (writeCell a v cs).all p = true := by
  induction cs with
  | nil =>
    by_cases hv : v = 0
    · simp only [writeCell, if_pos hv, List.all_nil]
    · simp only [writeCell, if_neg hv, List.all_cons, h hv, List.all_nil, Bool.and_self]
  | cons c cs ih =>
    obtain ⟨b, w⟩ := c
    simp only [List.all_cons, Bool.and_eq_true] at r
    simp only [writeCell]
    by_cases h1 : a < b
    · by_cases hv : v = 0
      · simp only [h1, hv, if_true, List.all_cons, r.1, r.2, Bool.and_self]
      · simp only [h1, hv, if_true, if_false, List.all_cons, r.1, r.2, h hv, Bool.and_self]
    · by_cases h2 : a = b
      · by_cases hv : v = 0
        · simp only [h2, hv, if_true, if_false, Nat.lt_irrefl]; exact r.2
        · subst h2; simp only [h1, hv, if_true, if_false, List.all_cons, r.2, h hv, Bool.and_self]
      · simp only [h1, h2, if_false, List.all_cons, r.1, ih r.2, Bool.and_self]

/-! ## Protected rows -/

theorem addRow_rising (r : Nat) (xs : List Nat) (lo : Nat) (h : lo ≤ r) (w : risingFrom lo xs = true) :
    risingFrom lo (addRow r xs) = true := by
  induction xs generalizing lo with
  | nil => simp [addRow, risingFrom, h]
  | cons x xs ih =>
    simp [risingFrom] at w
    simp only [addRow]
    by_cases h1 : r < x
    · simp [h1, risingFrom, h, w.2]
    · by_cases h2 : r = x
      · simp [h2, risingFrom, w]
      · simp [h1, h2, risingFrom, w.1]; exact ih (x + 1) (by omega) w.2

theorem addRow_all (p : Nat → Bool) (r : Nat) (xs : List Nat) (h : p r = true) (w : xs.all p = true) :
    (addRow r xs).all p = true := by
  induction xs with
  | nil => simp [addRow, h]
  | cons x xs ih =>
    simp only [List.all_cons, Bool.and_eq_true] at w
    simp only [addRow]
    by_cases h1 : r < x
    · simp only [h1, if_true, List.all_cons, h, w.1, w.2, Bool.and_self]
    · by_cases h2 : r = x
      · simp only [h2, if_true, if_false, Nat.lt_irrefl, List.all_cons, w.1, w.2, Bool.and_self]
      · simp only [h1, h2, if_false, List.all_cons, w.1, ih w.2, Bool.and_self]

theorem all_filter_of_all (p q : Nat → Bool) (xs : List Nat) (w : xs.all p = true) : (xs.filter q).all p = true := by
  simp only [List.all_eq_true] at *
  intro x hx
  exact w x (List.mem_filter.mp hx).1

/-! ## The canonical form -/

theorem wf_parts (m : Score) :
    Memory.wf m = true ↔ risingFrom 0 (m.cells.map (·.1)) = true
      ∧ m.cells.all (fun c => decide (c.1 < 24576) && c.2 != 0) = true ∧ risingFrom 0 m.protectedRows = true
      ∧ m.protectedRows.all (fun r => decide (r < 1024)) = true := by
  simp only [Memory.wf, Bool.and_eq_true]
  exact ⟨fun ⟨⟨⟨a, b⟩, c⟩, d⟩ => ⟨a, b, c, d⟩, fun ⟨a, b, c, d⟩ => ⟨⟨⟨a, b⟩, c⟩, d⟩⟩

/-- A stored cell keeps the form. -/
theorem write_wf (m : Score) (row col : Nat) (v : BitVec 2) (hr : row < 1024) (hc : within 1 24 col = true)
    (w : Memory.wf m = true) : Memory.wf (m.write row col v) = true := by
  rw [wf_parts] at *
  have hc' : 1 ≤ col ∧ col ≤ 24 := by simpa [within] using hc
  refine ⟨writeCell_rising _ _ _ _ (Nat.zero_le _) w.1, ?_, w.2.2⟩
  refine writeCell_all _ _ _ _ (fun hv => ?_) w.2.1
  have : cellAddress row col < 24576 := by simp [cellAddress]; omega
  have hv' : ¬v = 0#2 := hv
  simp [this, hv']

/-- Setting or clearing a row's protect flag keeps the form. -/
theorem protect_wf (m : Score) (on : Bool) (row : Nat) (hr : row < 1024) (w : Memory.wf m = true) :
    Memory.wf (m.protect on row) = true := by
  rw [wf_parts] at *
  cases on
  · exact ⟨w.1, w.2.1, risingFrom_filter _ _ _ w.2.2.1, all_filter_of_all _ _ _ w.2.2.2⟩
  · exact ⟨w.1, w.2.1, addRow_rising _ _ _ (Nat.zero_le _) w.2.2.1, addRow_all _ _ _ (by simpa using hr) w.2.2.2⟩

/-- The memory after reset has the form. -/
theorem reset_wf : Memory.wf State.reset.score = true := rfl

theorem advance_inMemory (w : Window) (h : w.inMemory) : w.advance.inMemory := by
  unfold Window.advance
  unfold Window.inMemory at *
  split
  · exact ⟨h.1, h.2.1, h.2.2.1, h.2.2.2.1, h.2.2.2.2.1, h.2.2.2.2.2.1, h.2.2.2.2.2.2.1, by simp; omega, by simp; omega⟩
  · split <;> simp <;> omega

theorem home_inMemory (w : Window) (h : w.inMemory) : w.home.inMemory := by
  unfold Window.home
  unfold Window.inMemory at *
  simp; omega

/-- One cell of a SCORE-WRITE keeps the form and the cursor's place. -/
theorem put_wf (x : Writing) (v : BitVec 2) (h : x.window.inMemory) (w : Memory.wf x.score = true) :
    Memory.wf (x.put v).score = true ∧ (x.put v).window.inMemory := by
  unfold Writing.put
  split
  · exact ⟨w, advance_inMemory _ h⟩
  · refine ⟨write_wf _ _ _ _ ?_ ?_ w, advance_inMemory _ h⟩
    · unfold Window.inMemory at h; omega
    · unfold Window.inMemory at h; simp [within]; omega

/-- A run of cells keeps the form and the cursor's place. -/
theorem puts_wf (vs : List (BitVec 2)) (x : Writing) (h : x.window.inMemory) (w : Memory.wf x.score = true) :
    Memory.wf (vs.foldl Writing.put x).score = true ∧ (vs.foldl Writing.put x).window.inMemory := by
  induction vs generalizing x with
  | nil => exact ⟨w, h⟩
  | cons v vs ih =>
    have := put_wf x v h w
    exact ih (x.put v) this.2 this.1

/-- Protecting or freeing a run of rows keeps the form. -/
theorem protects_wf (rows : List Nat) (on : Bool) (m : Score) (h : ∀ r ∈ rows, r < 1024) (w : Memory.wf m = true) :
    Memory.wf (rows.foldl (Score.protect · on ·) m) = true := by
  induction rows generalizing m with
  | nil => exact w
  | cons r rows ih =>
    exact ih (m.protect on r) (fun x hx => h x (List.mem_cons_of_mem _ hx))
      (protect_wf m on r (h r (List.mem_cons_self ..)) w)

end Sys2Proof.Machine
end

