-- ==== Sys2Proof/Laws/State.lean ====
section
/-! SUPPORT. What each update of the state leaves as it was, one lemma per field per update, and what it
sets, so that no later proof unfolds a record update. -/

namespace Sys2Proof.Machine

open Sys2Proof

/-! ## Tables numbered from 1 and from 0 -/

@[simp] theorem nth_setNth_self {α : Type} {n : Nat} [Inhabited α] (v : Vector α n) (i : Nat) (x : α)
    (h : within 1 n i = true) : nth (setNth v i x) i = x := by
  have h' : 1 ≤ i ∧ i ≤ n := by simpa [within] using h
  simp [nth, setNth, h']

theorem nth_setNth_ne {α : Type} {n : Nat} [Inhabited α] (v : Vector α n) (i j : Nat) (x : α) (h : i ≠ j) :
    nth (setNth v i x) j = nth v j := by
  unfold nth setNth
  split
  · rename_i hj
    split
    · rename_i hi
      have : i - 1 ≠ j - 1 := by omega
      simp [this]
    · rfl
  · rfl

@[simp] theorem slot_setSlot_self {α : Type} {n : Nat} [Inhabited α] (v : Vector α n) (i : Nat) (x : α) (h : i < n) :
    slot (setSlot v i x) i = x := by
  simp [slot, setSlot, h]

theorem slot_setSlot_ne {α : Type} {n : Nat} [Inhabited α] (v : Vector α n) (i j : Nat) (x : α) (h : i ≠ j) :
    slot (setSlot v i x) j = slot v j := by
  unfold slot setSlot
  split
  · split
    · simp [h]
    · rfl
  · rfl

/-- Writing back what an entry holds changes nothing. -/
theorem setNth_nth {α : Type} {n : Nat} [Inhabited α] (v : Vector α n) (i : Nat) : setNth v i (nth v i) = v := by
  unfold setNth nth
  split <;> simp_all

/-! ## Channels and links -/

@[simp] theorem dial_withDial_self (s : State) (c : Nat) (d : Dial) (h : within 1 4 c = true) :
    (s.withDial c d).dial c = d := nth_setNth_self _ _ _ h

@[simp] theorem hammer_withHammer_self (s : State) (b : Nat) (x : Hammer) (h : within 1 24 b = true) :
    (s.withHammer b x).hammer b = x := nth_setNth_self _ _ _ h

@[simp] theorem swing_withSwing_self (s : State) (c : Nat) (x : Swing) (h : within 1 12 c = true) :
    (s.withSwing c x).swing c = x := nth_setNth_self _ _ _ h

@[simp] theorem circuit_withCircuit_self (s : State) (c : Nat) (x : Circuit) (h : within 1 16 c = true) :
    (s.withCircuit c x).circuit c = x := nth_setNth_self _ _ _ h

@[simp] theorem timer_withTimer_self (s : State) (n : Nat) (t : Timer) (h : within 1 2 n = true) :
    (s.withTimer n t).timer n = t := nth_setNth_self _ _ _ h

theorem dial_withDial_ne (s : State) (c c' : Nat) (d : Dial) (h : c ≠ c') : (s.withDial c d).dial c' = s.dial c' :=
  nth_setNth_ne _ _ _ _ h

theorem hammer_withHammer_ne (s : State) (b b' : Nat) (x : Hammer) (h : b ≠ b') :
    (s.withHammer b x).hammer b' = s.hammer b' := nth_setNth_ne _ _ _ _ h

theorem swing_withSwing_ne (s : State) (c c' : Nat) (x : Swing) (h : c ≠ c') :
    (s.withSwing c x).swing c' = s.swing c' := nth_setNth_ne _ _ _ _ h

theorem circuit_withCircuit_ne (s : State) (c c' : Nat) (x : Circuit) (h : c ≠ c') :
    (s.withCircuit c x).circuit c' = s.circuit c' := nth_setNth_ne _ _ _ _ h

@[simp] theorem link_withLink_self (s : State) (l : Link) (x : LinkState) : (s.withLink l x).link l = x := by
  cases l <;> rfl

theorem link_withLink_ne (s : State) (l l' : Link) (x : LinkState) (h : l ≠ l') : (s.withLink l x).link l' = s.link l' := by
  cases l <;> cases l' <;> first | rfl | exact absurd rfl h

@[simp] theorem withLink_withLink (s : State) (l : Link) (x y : LinkState) :
    (s.withLink l x).withLink l y = s.withLink l y := by
  cases l <;> rfl

@[simp] theorem withLink_link (s : State) (l : Link) : s.withLink l (s.link l) = s := by cases l <;> rfl

/-! ## Fields that an update leaves -/

@[simp] theorem withDial_elapsed (s : State) (c : Nat) (d : Dial) : (s.withDial c d).elapsed = s.elapsed := rfl
@[simp] theorem withDial_time (s : State) (c : Nat) (d : Dial) : (s.withDial c d).time = s.time := rfl
@[simp] theorem withDial_calendar (s : State) (c : Nat) (d : Dial) : (s.withDial c d).calendar = s.calendar := rfl
@[simp] theorem withDial_timers (s : State) (c : Nat) (d : Dial) : (s.withDial c d).timers = s.timers := rfl
@[simp] theorem withDial_score (s : State) (c : Nat) (d : Dial) : (s.withDial c d).score = s.score := rfl
@[simp] theorem withDial_tunes (s : State) (c : Nat) (d : Dial) : (s.withDial c d).tunes = s.tunes := rfl
@[simp] theorem withDial_chimes (s : State) (c : Nat) (d : Dial) : (s.withDial c d).chimes = s.chimes := rfl
@[simp] theorem withDial_arbiter (s : State) (c : Nat) (d : Dial) : (s.withDial c d).arbiter = s.arbiter := rfl
@[simp] theorem withDial_hammers (s : State) (c : Nat) (d : Dial) : (s.withDial c d).hammers = s.hammers := rfl
@[simp] theorem withDial_strikes (s : State) (c : Nat) (d : Dial) : (s.withDial c d).strikes = s.strikes := rfl
@[simp] theorem withDial_methods (s : State) (c : Nat) (d : Dial) : (s.withDial c d).methods = s.methods := rfl
@[simp] theorem withDial_touch (s : State) (c : Nat) (d : Dial) : (s.withDial c d).touch = s.touch := rfl
@[simp] theorem withDial_swings (s : State) (c : Nat) (d : Dial) : (s.withDial c d).swings = s.swings := rfl
@[simp] theorem withDial_programs (s : State) (c : Nat) (d : Dial) : (s.withDial c d).programs = s.programs := rfl
@[simp] theorem withDial_startRequests (s : State) (c : Nat) (d : Dial) : (s.withDial c d).startRequests = s.startRequests := rfl
@[simp] theorem withDial_allowance (s : State) (c : Nat) (d : Dial) : (s.withDial c d).allowance = s.allowance := rfl
@[simp] theorem withDial_lights (s : State) (c : Nat) (d : Dial) : (s.withDial c d).lights = s.lights := rfl
@[simp] theorem withDial_details (s : State) (c : Nat) (d : Dial) : (s.withDial c d).details = s.details := rfl
@[simp] theorem withDial_panel (s : State) (c : Nat) (d : Dial) : (s.withDial c d).panel = s.panel := rfl
@[simp] theorem withDial_chamber (s : State) (c : Nat) (d : Dial) : (s.withDial c d).chamber = s.chamber := rfl
@[simp] theorem withDial_key (s : State) (c : Nat) (d : Dial) : (s.withDial c d).key = s.key := rfl
@[simp] theorem withDial_maintenance (s : State) (c : Nat) (d : Dial) : (s.withDial c d).maintenance = s.maintenance := rfl
@[simp] theorem withDial_power (s : State) (c : Nat) (d : Dial) : (s.withDial c d).power = s.power := rfl
@[simp] theorem withDial_pending (s : State) (c : Nat) (d : Dial) : (s.withDial c d).pending = s.pending := rfl

@[simp] theorem withHammer_elapsed (s : State) (b : Nat) (x : Hammer) : (s.withHammer b x).elapsed = s.elapsed := rfl
@[simp] theorem withHammer_time (s : State) (b : Nat) (x : Hammer) : (s.withHammer b x).time = s.time := rfl
@[simp] theorem withHammer_calendar (s : State) (b : Nat) (x : Hammer) : (s.withHammer b x).calendar = s.calendar := rfl
@[simp] theorem withHammer_timers (s : State) (b : Nat) (x : Hammer) : (s.withHammer b x).timers = s.timers := rfl
@[simp] theorem withHammer_dials (s : State) (b : Nat) (x : Hammer) : (s.withHammer b x).dials = s.dials := rfl
@[simp] theorem withHammer_score (s : State) (b : Nat) (x : Hammer) : (s.withHammer b x).score = s.score := rfl
@[simp] theorem withHammer_tunes (s : State) (b : Nat) (x : Hammer) : (s.withHammer b x).tunes = s.tunes := rfl
@[simp] theorem withHammer_chimes (s : State) (b : Nat) (x : Hammer) : (s.withHammer b x).chimes = s.chimes := rfl
@[simp] theorem withHammer_arbiter (s : State) (b : Nat) (x : Hammer) : (s.withHammer b x).arbiter = s.arbiter := rfl
@[simp] theorem withHammer_strikes (s : State) (b : Nat) (x : Hammer) : (s.withHammer b x).strikes = s.strikes := rfl
@[simp] theorem withHammer_methods (s : State) (b : Nat) (x : Hammer) : (s.withHammer b x).methods = s.methods := rfl
@[simp] theorem withHammer_touch (s : State) (b : Nat) (x : Hammer) : (s.withHammer b x).touch = s.touch := rfl
@[simp] theorem withHammer_swings (s : State) (b : Nat) (x : Hammer) : (s.withHammer b x).swings = s.swings := rfl
@[simp] theorem withHammer_programs (s : State) (b : Nat) (x : Hammer) : (s.withHammer b x).programs = s.programs := rfl
@[simp] theorem withHammer_startRequests (s : State) (b : Nat) (x : Hammer) : (s.withHammer b x).startRequests = s.startRequests := rfl
@[simp] theorem withHammer_allowance (s : State) (b : Nat) (x : Hammer) : (s.withHammer b x).allowance = s.allowance := rfl
@[simp] theorem withHammer_lights (s : State) (b : Nat) (x : Hammer) : (s.withHammer b x).lights = s.lights := rfl
@[simp] theorem withHammer_details (s : State) (b : Nat) (x : Hammer) : (s.withHammer b x).details = s.details := rfl
@[simp] theorem withHammer_panel (s : State) (b : Nat) (x : Hammer) : (s.withHammer b x).panel = s.panel := rfl
@[simp] theorem withHammer_chamber (s : State) (b : Nat) (x : Hammer) : (s.withHammer b x).chamber = s.chamber := rfl
@[simp] theorem withHammer_key (s : State) (b : Nat) (x : Hammer) : (s.withHammer b x).key = s.key := rfl
@[simp] theorem withHammer_maintenance (s : State) (b : Nat) (x : Hammer) : (s.withHammer b x).maintenance = s.maintenance := rfl
@[simp] theorem withHammer_power (s : State) (b : Nat) (x : Hammer) : (s.withHammer b x).power = s.power := rfl
@[simp] theorem withHammer_pending (s : State) (b : Nat) (x : Hammer) : (s.withHammer b x).pending = s.pending := rfl

@[simp] theorem withSwing_elapsed (s : State) (c : Nat) (x : Swing) : (s.withSwing c x).elapsed = s.elapsed := rfl
@[simp] theorem withSwing_time (s : State) (c : Nat) (x : Swing) : (s.withSwing c x).time = s.time := rfl
@[simp] theorem withSwing_calendar (s : State) (c : Nat) (x : Swing) : (s.withSwing c x).calendar = s.calendar := rfl
@[simp] theorem withSwing_timers (s : State) (c : Nat) (x : Swing) : (s.withSwing c x).timers = s.timers := rfl
@[simp] theorem withSwing_dials (s : State) (c : Nat) (x : Swing) : (s.withSwing c x).dials = s.dials := rfl
@[simp] theorem withSwing_score (s : State) (c : Nat) (x : Swing) : (s.withSwing c x).score = s.score := rfl
@[simp] theorem withSwing_tunes (s : State) (c : Nat) (x : Swing) : (s.withSwing c x).tunes = s.tunes := rfl
@[simp] theorem withSwing_chimes (s : State) (c : Nat) (x : Swing) : (s.withSwing c x).chimes = s.chimes := rfl
@[simp] theorem withSwing_arbiter (s : State) (c : Nat) (x : Swing) : (s.withSwing c x).arbiter = s.arbiter := rfl
@[simp] theorem withSwing_hammers (s : State) (c : Nat) (x : Swing) : (s.withSwing c x).hammers = s.hammers := rfl
@[simp] theorem withSwing_strikes (s : State) (c : Nat) (x : Swing) : (s.withSwing c x).strikes = s.strikes := rfl
@[simp] theorem withSwing_methods (s : State) (c : Nat) (x : Swing) : (s.withSwing c x).methods = s.methods := rfl
@[simp] theorem withSwing_touch (s : State) (c : Nat) (x : Swing) : (s.withSwing c x).touch = s.touch := rfl
@[simp] theorem withSwing_programs (s : State) (c : Nat) (x : Swing) : (s.withSwing c x).programs = s.programs := rfl
@[simp] theorem withSwing_startRequests (s : State) (c : Nat) (x : Swing) : (s.withSwing c x).startRequests = s.startRequests := rfl
@[simp] theorem withSwing_allowance (s : State) (c : Nat) (x : Swing) : (s.withSwing c x).allowance = s.allowance := rfl
@[simp] theorem withSwing_lights (s : State) (c : Nat) (x : Swing) : (s.withSwing c x).lights = s.lights := rfl
@[simp] theorem withSwing_details (s : State) (c : Nat) (x : Swing) : (s.withSwing c x).details = s.details := rfl
@[simp] theorem withSwing_panel (s : State) (c : Nat) (x : Swing) : (s.withSwing c x).panel = s.panel := rfl
@[simp] theorem withSwing_chamber (s : State) (c : Nat) (x : Swing) : (s.withSwing c x).chamber = s.chamber := rfl
@[simp] theorem withSwing_key (s : State) (c : Nat) (x : Swing) : (s.withSwing c x).key = s.key := rfl
@[simp] theorem withSwing_maintenance (s : State) (c : Nat) (x : Swing) : (s.withSwing c x).maintenance = s.maintenance := rfl
@[simp] theorem withSwing_power (s : State) (c : Nat) (x : Swing) : (s.withSwing c x).power = s.power := rfl
@[simp] theorem withSwing_pending (s : State) (c : Nat) (x : Swing) : (s.withSwing c x).pending = s.pending := rfl

@[simp] theorem withTimer_elapsed (s : State) (n : Nat) (t : Timer) : (s.withTimer n t).elapsed = s.elapsed := rfl
@[simp] theorem withTimer_time (s : State) (n : Nat) (t : Timer) : (s.withTimer n t).time = s.time := rfl
@[simp] theorem withTimer_calendar (s : State) (n : Nat) (t : Timer) : (s.withTimer n t).calendar = s.calendar := rfl
@[simp] theorem withTimer_dials (s : State) (n : Nat) (t : Timer) : (s.withTimer n t).dials = s.dials := rfl
@[simp] theorem withTimer_score (s : State) (n : Nat) (t : Timer) : (s.withTimer n t).score = s.score := rfl
@[simp] theorem withTimer_tunes (s : State) (n : Nat) (t : Timer) : (s.withTimer n t).tunes = s.tunes := rfl
@[simp] theorem withTimer_chimes (s : State) (n : Nat) (t : Timer) : (s.withTimer n t).chimes = s.chimes := rfl
@[simp] theorem withTimer_arbiter (s : State) (n : Nat) (t : Timer) : (s.withTimer n t).arbiter = s.arbiter := rfl
@[simp] theorem withTimer_hammers (s : State) (n : Nat) (t : Timer) : (s.withTimer n t).hammers = s.hammers := rfl
@[simp] theorem withTimer_strikes (s : State) (n : Nat) (t : Timer) : (s.withTimer n t).strikes = s.strikes := rfl
@[simp] theorem withTimer_methods (s : State) (n : Nat) (t : Timer) : (s.withTimer n t).methods = s.methods := rfl
@[simp] theorem withTimer_touch (s : State) (n : Nat) (t : Timer) : (s.withTimer n t).touch = s.touch := rfl
@[simp] theorem withTimer_swings (s : State) (n : Nat) (t : Timer) : (s.withTimer n t).swings = s.swings := rfl
@[simp] theorem withTimer_programs (s : State) (n : Nat) (t : Timer) : (s.withTimer n t).programs = s.programs := rfl
@[simp] theorem withTimer_startRequests (s : State) (n : Nat) (t : Timer) : (s.withTimer n t).startRequests = s.startRequests := rfl
@[simp] theorem withTimer_allowance (s : State) (n : Nat) (t : Timer) : (s.withTimer n t).allowance = s.allowance := rfl
@[simp] theorem withTimer_lights (s : State) (n : Nat) (t : Timer) : (s.withTimer n t).lights = s.lights := rfl
@[simp] theorem withTimer_details (s : State) (n : Nat) (t : Timer) : (s.withTimer n t).details = s.details := rfl
@[simp] theorem withTimer_panel (s : State) (n : Nat) (t : Timer) : (s.withTimer n t).panel = s.panel := rfl
@[simp] theorem withTimer_chamber (s : State) (n : Nat) (t : Timer) : (s.withTimer n t).chamber = s.chamber := rfl
@[simp] theorem withTimer_key (s : State) (n : Nat) (t : Timer) : (s.withTimer n t).key = s.key := rfl
@[simp] theorem withTimer_maintenance (s : State) (n : Nat) (t : Timer) : (s.withTimer n t).maintenance = s.maintenance := rfl
@[simp] theorem withTimer_power (s : State) (n : Nat) (t : Timer) : (s.withTimer n t).power = s.power := rfl
@[simp] theorem withTimer_pending (s : State) (n : Nat) (t : Timer) : (s.withTimer n t).pending = s.pending := rfl

@[simp] theorem withCircuit_elapsed (s : State) (c : Nat) (x : Circuit) : (s.withCircuit c x).elapsed = s.elapsed := rfl
@[simp] theorem withCircuit_time (s : State) (c : Nat) (x : Circuit) : (s.withCircuit c x).time = s.time := rfl
@[simp] theorem withCircuit_calendar (s : State) (c : Nat) (x : Circuit) : (s.withCircuit c x).calendar = s.calendar := rfl
@[simp] theorem withCircuit_timers (s : State) (c : Nat) (x : Circuit) : (s.withCircuit c x).timers = s.timers := rfl
@[simp] theorem withCircuit_dials (s : State) (c : Nat) (x : Circuit) : (s.withCircuit c x).dials = s.dials := rfl
@[simp] theorem withCircuit_score (s : State) (c : Nat) (x : Circuit) : (s.withCircuit c x).score = s.score := rfl
@[simp] theorem withCircuit_tunes (s : State) (c : Nat) (x : Circuit) : (s.withCircuit c x).tunes = s.tunes := rfl
@[simp] theorem withCircuit_chimes (s : State) (c : Nat) (x : Circuit) : (s.withCircuit c x).chimes = s.chimes := rfl
@[simp] theorem withCircuit_arbiter (s : State) (c : Nat) (x : Circuit) : (s.withCircuit c x).arbiter = s.arbiter := rfl
@[simp] theorem withCircuit_hammers (s : State) (c : Nat) (x : Circuit) : (s.withCircuit c x).hammers = s.hammers := rfl
@[simp] theorem withCircuit_strikes (s : State) (c : Nat) (x : Circuit) : (s.withCircuit c x).strikes = s.strikes := rfl
@[simp] theorem withCircuit_methods (s : State) (c : Nat) (x : Circuit) : (s.withCircuit c x).methods = s.methods := rfl
@[simp] theorem withCircuit_touch (s : State) (c : Nat) (x : Circuit) : (s.withCircuit c x).touch = s.touch := rfl
@[simp] theorem withCircuit_swings (s : State) (c : Nat) (x : Circuit) : (s.withCircuit c x).swings = s.swings := rfl
@[simp] theorem withCircuit_programs (s : State) (c : Nat) (x : Circuit) : (s.withCircuit c x).programs = s.programs := rfl
@[simp] theorem withCircuit_startRequests (s : State) (c : Nat) (x : Circuit) : (s.withCircuit c x).startRequests = s.startRequests := rfl
@[simp] theorem withCircuit_allowance (s : State) (c : Nat) (x : Circuit) : (s.withCircuit c x).allowance = s.allowance := rfl
@[simp] theorem withCircuit_details (s : State) (c : Nat) (x : Circuit) : (s.withCircuit c x).details = s.details := rfl
@[simp] theorem withCircuit_panel (s : State) (c : Nat) (x : Circuit) : (s.withCircuit c x).panel = s.panel := rfl
@[simp] theorem withCircuit_chamber (s : State) (c : Nat) (x : Circuit) : (s.withCircuit c x).chamber = s.chamber := rfl
@[simp] theorem withCircuit_key (s : State) (c : Nat) (x : Circuit) : (s.withCircuit c x).key = s.key := rfl
@[simp] theorem withCircuit_maintenance (s : State) (c : Nat) (x : Circuit) : (s.withCircuit c x).maintenance = s.maintenance := rfl
@[simp] theorem withCircuit_power (s : State) (c : Nat) (x : Circuit) : (s.withCircuit c x).power = s.power := rfl
@[simp] theorem withCircuit_pending (s : State) (c : Nat) (x : Circuit) : (s.withCircuit c x).pending = s.pending := rfl

@[simp] theorem withLink_elapsed (s : State) (l : Link) (x : LinkState) : (s.withLink l x).elapsed = s.elapsed := by cases l <;> rfl
@[simp] theorem withLink_time (s : State) (l : Link) (x : LinkState) : (s.withLink l x).time = s.time := by cases l <;> rfl
@[simp] theorem withLink_calendar (s : State) (l : Link) (x : LinkState) : (s.withLink l x).calendar = s.calendar := by cases l <;> rfl
@[simp] theorem withLink_timers (s : State) (l : Link) (x : LinkState) : (s.withLink l x).timers = s.timers := by cases l <;> rfl
@[simp] theorem withLink_dials (s : State) (l : Link) (x : LinkState) : (s.withLink l x).dials = s.dials := by cases l <;> rfl
@[simp] theorem withLink_score (s : State) (l : Link) (x : LinkState) : (s.withLink l x).score = s.score := by cases l <;> rfl
@[simp] theorem withLink_tunes (s : State) (l : Link) (x : LinkState) : (s.withLink l x).tunes = s.tunes := by cases l <;> rfl
@[simp] theorem withLink_chimes (s : State) (l : Link) (x : LinkState) : (s.withLink l x).chimes = s.chimes := by cases l <;> rfl
@[simp] theorem withLink_arbiter (s : State) (l : Link) (x : LinkState) : (s.withLink l x).arbiter = s.arbiter := by cases l <;> rfl
@[simp] theorem withLink_hammers (s : State) (l : Link) (x : LinkState) : (s.withLink l x).hammers = s.hammers := by cases l <;> rfl
@[simp] theorem withLink_strikes (s : State) (l : Link) (x : LinkState) : (s.withLink l x).strikes = s.strikes := by cases l <;> rfl
@[simp] theorem withLink_methods (s : State) (l : Link) (x : LinkState) : (s.withLink l x).methods = s.methods := by cases l <;> rfl
@[simp] theorem withLink_touch (s : State) (l : Link) (x : LinkState) : (s.withLink l x).touch = s.touch := by cases l <;> rfl
@[simp] theorem withLink_swings (s : State) (l : Link) (x : LinkState) : (s.withLink l x).swings = s.swings := by cases l <;> rfl
@[simp] theorem withLink_programs (s : State) (l : Link) (x : LinkState) : (s.withLink l x).programs = s.programs := by cases l <;> rfl
@[simp] theorem withLink_startRequests (s : State) (l : Link) (x : LinkState) : (s.withLink l x).startRequests = s.startRequests := by cases l <;> rfl
@[simp] theorem withLink_allowance (s : State) (l : Link) (x : LinkState) : (s.withLink l x).allowance = s.allowance := by cases l <;> rfl
@[simp] theorem withLink_lights (s : State) (l : Link) (x : LinkState) : (s.withLink l x).lights = s.lights := by cases l <;> rfl
@[simp] theorem withLink_details (s : State) (l : Link) (x : LinkState) : (s.withLink l x).details = s.details := by cases l <;> rfl
@[simp] theorem withLink_key (s : State) (l : Link) (x : LinkState) : (s.withLink l x).key = s.key := by cases l <;> rfl
@[simp] theorem withLink_maintenance (s : State) (l : Link) (x : LinkState) : (s.withLink l x).maintenance = s.maintenance := by cases l <;> rfl
@[simp] theorem withLink_power (s : State) (l : Link) (x : LinkState) : (s.withLink l x).power = s.power := by cases l <;> rfl
@[simp] theorem withLink_pending (s : State) (l : Link) (x : LinkState) : (s.withLink l x).pending = s.pending := by cases l <;> rfl

end Sys2Proof.Machine
end

