-- ==== Sys2Proof/Laws/Ops.lean ====
section
/-! SUPPORT. What the shared operations can do, once each: the taking of a request, the raising of a notice,
the counting of an error, and the fields that they and the named updates of the blocks leave. -/

namespace Sys2Proof.Machine

open Sys2Proof

@[simp] theorem withQueue_elapsed (s : State) (q : List Perf) : (s.withQueue q).elapsed = s.elapsed := rfl
@[simp] theorem withQueue_time (s : State) (q : List Perf) : (s.withQueue q).time = s.time := rfl
@[simp] theorem withQueue_calendar (s : State) (q : List Perf) : (s.withQueue q).calendar = s.calendar := rfl
@[simp] theorem withQueue_timers (s : State) (q : List Perf) : (s.withQueue q).timers = s.timers := rfl
@[simp] theorem withQueue_dials (s : State) (q : List Perf) : (s.withQueue q).dials = s.dials := rfl
@[simp] theorem withQueue_score (s : State) (q : List Perf) : (s.withQueue q).score = s.score := rfl
@[simp] theorem withQueue_tunes (s : State) (q : List Perf) : (s.withQueue q).tunes = s.tunes := rfl
@[simp] theorem withQueue_chimes (s : State) (q : List Perf) : (s.withQueue q).chimes = s.chimes := rfl
@[simp] theorem withQueue_hammers (s : State) (q : List Perf) : (s.withQueue q).hammers = s.hammers := rfl
@[simp] theorem withQueue_strikes (s : State) (q : List Perf) : (s.withQueue q).strikes = s.strikes := rfl
@[simp] theorem withQueue_methods (s : State) (q : List Perf) : (s.withQueue q).methods = s.methods := rfl
@[simp] theorem withQueue_touch (s : State) (q : List Perf) : (s.withQueue q).touch = s.touch := rfl
@[simp] theorem withQueue_swings (s : State) (q : List Perf) : (s.withQueue q).swings = s.swings := rfl
@[simp] theorem withQueue_programs (s : State) (q : List Perf) : (s.withQueue q).programs = s.programs := rfl
@[simp] theorem withQueue_startRequests (s : State) (q : List Perf) : (s.withQueue q).startRequests = s.startRequests := rfl
@[simp] theorem withQueue_allowance (s : State) (q : List Perf) : (s.withQueue q).allowance = s.allowance := rfl
@[simp] theorem withQueue_lights (s : State) (q : List Perf) : (s.withQueue q).lights = s.lights := rfl
@[simp] theorem withQueue_details (s : State) (q : List Perf) : (s.withQueue q).details = s.details := rfl
@[simp] theorem withQueue_panel (s : State) (q : List Perf) : (s.withQueue q).panel = s.panel := rfl
@[simp] theorem withQueue_chamber (s : State) (q : List Perf) : (s.withQueue q).chamber = s.chamber := rfl
@[simp] theorem withQueue_key (s : State) (q : List Perf) : (s.withQueue q).key = s.key := rfl
@[simp] theorem withQueue_maintenance (s : State) (q : List Perf) : (s.withQueue q).maintenance = s.maintenance := rfl
@[simp] theorem withQueue_power (s : State) (q : List Perf) : (s.withQueue q).power = s.power := rfl
@[simp] theorem withQueue_pending (s : State) (q : List Perf) : (s.withQueue q).pending = s.pending := rfl

@[simp] theorem withChime_elapsed (s : State) (k p : Nat) (x : ChimePos) : (s.withChime k p x).elapsed = s.elapsed := rfl
@[simp] theorem withChime_time (s : State) (k p : Nat) (x : ChimePos) : (s.withChime k p x).time = s.time := rfl
@[simp] theorem withChime_calendar (s : State) (k p : Nat) (x : ChimePos) : (s.withChime k p x).calendar = s.calendar := rfl
@[simp] theorem withChime_timers (s : State) (k p : Nat) (x : ChimePos) : (s.withChime k p x).timers = s.timers := rfl
@[simp] theorem withChime_dials (s : State) (k p : Nat) (x : ChimePos) : (s.withChime k p x).dials = s.dials := rfl
@[simp] theorem withChime_score (s : State) (k p : Nat) (x : ChimePos) : (s.withChime k p x).score = s.score := rfl
@[simp] theorem withChime_tunes (s : State) (k p : Nat) (x : ChimePos) : (s.withChime k p x).tunes = s.tunes := rfl
@[simp] theorem withChime_arbiter (s : State) (k p : Nat) (x : ChimePos) : (s.withChime k p x).arbiter = s.arbiter := rfl
@[simp] theorem withChime_hammers (s : State) (k p : Nat) (x : ChimePos) : (s.withChime k p x).hammers = s.hammers := rfl
@[simp] theorem withChime_strikes (s : State) (k p : Nat) (x : ChimePos) : (s.withChime k p x).strikes = s.strikes := rfl
@[simp] theorem withChime_methods (s : State) (k p : Nat) (x : ChimePos) : (s.withChime k p x).methods = s.methods := rfl
@[simp] theorem withChime_touch (s : State) (k p : Nat) (x : ChimePos) : (s.withChime k p x).touch = s.touch := rfl
@[simp] theorem withChime_swings (s : State) (k p : Nat) (x : ChimePos) : (s.withChime k p x).swings = s.swings := rfl
@[simp] theorem withChime_programs (s : State) (k p : Nat) (x : ChimePos) : (s.withChime k p x).programs = s.programs := rfl
@[simp] theorem withChime_startRequests (s : State) (k p : Nat) (x : ChimePos) : (s.withChime k p x).startRequests = s.startRequests := rfl
@[simp] theorem withChime_allowance (s : State) (k p : Nat) (x : ChimePos) : (s.withChime k p x).allowance = s.allowance := rfl
@[simp] theorem withChime_lights (s : State) (k p : Nat) (x : ChimePos) : (s.withChime k p x).lights = s.lights := rfl
@[simp] theorem withChime_details (s : State) (k p : Nat) (x : ChimePos) : (s.withChime k p x).details = s.details := rfl
@[simp] theorem withChime_panel (s : State) (k p : Nat) (x : ChimePos) : (s.withChime k p x).panel = s.panel := rfl
@[simp] theorem withChime_chamber (s : State) (k p : Nat) (x : ChimePos) : (s.withChime k p x).chamber = s.chamber := rfl
@[simp] theorem withChime_key (s : State) (k p : Nat) (x : ChimePos) : (s.withChime k p x).key = s.key := rfl
@[simp] theorem withChime_maintenance (s : State) (k p : Nat) (x : ChimePos) : (s.withChime k p x).maintenance = s.maintenance := rfl
@[simp] theorem withChime_power (s : State) (k p : Nat) (x : ChimePos) : (s.withChime k p x).power = s.power := rfl
@[simp] theorem withChime_pending (s : State) (k p : Nat) (x : ChimePos) : (s.withChime k p x).pending = s.pending := rfl

@[simp] theorem withWindow_elapsed (s : State) (l : Link) (w : Window) : (s.withWindow l w).elapsed = s.elapsed := by cases l <;> rfl
@[simp] theorem withWindow_time (s : State) (l : Link) (w : Window) : (s.withWindow l w).time = s.time := by cases l <;> rfl
@[simp] theorem withWindow_calendar (s : State) (l : Link) (w : Window) : (s.withWindow l w).calendar = s.calendar := by cases l <;> rfl
@[simp] theorem withWindow_timers (s : State) (l : Link) (w : Window) : (s.withWindow l w).timers = s.timers := by cases l <;> rfl
@[simp] theorem withWindow_dials (s : State) (l : Link) (w : Window) : (s.withWindow l w).dials = s.dials := by cases l <;> rfl
@[simp] theorem withWindow_score (s : State) (l : Link) (w : Window) : (s.withWindow l w).score = s.score := by cases l <;> rfl
@[simp] theorem withWindow_tunes (s : State) (l : Link) (w : Window) : (s.withWindow l w).tunes = s.tunes := by cases l <;> rfl
@[simp] theorem withWindow_chimes (s : State) (l : Link) (w : Window) : (s.withWindow l w).chimes = s.chimes := by cases l <;> rfl
@[simp] theorem withWindow_arbiter (s : State) (l : Link) (w : Window) : (s.withWindow l w).arbiter = s.arbiter := by cases l <;> rfl
@[simp] theorem withWindow_hammers (s : State) (l : Link) (w : Window) : (s.withWindow l w).hammers = s.hammers := by cases l <;> rfl
@[simp] theorem withWindow_strikes (s : State) (l : Link) (w : Window) : (s.withWindow l w).strikes = s.strikes := by cases l <;> rfl
@[simp] theorem withWindow_methods (s : State) (l : Link) (w : Window) : (s.withWindow l w).methods = s.methods := by cases l <;> rfl
@[simp] theorem withWindow_touch (s : State) (l : Link) (w : Window) : (s.withWindow l w).touch = s.touch := by cases l <;> rfl
@[simp] theorem withWindow_swings (s : State) (l : Link) (w : Window) : (s.withWindow l w).swings = s.swings := by cases l <;> rfl
@[simp] theorem withWindow_programs (s : State) (l : Link) (w : Window) : (s.withWindow l w).programs = s.programs := by cases l <;> rfl
@[simp] theorem withWindow_startRequests (s : State) (l : Link) (w : Window) : (s.withWindow l w).startRequests = s.startRequests := by cases l <;> rfl
@[simp] theorem withWindow_allowance (s : State) (l : Link) (w : Window) : (s.withWindow l w).allowance = s.allowance := by cases l <;> rfl
@[simp] theorem withWindow_lights (s : State) (l : Link) (w : Window) : (s.withWindow l w).lights = s.lights := by cases l <;> rfl
@[simp] theorem withWindow_details (s : State) (l : Link) (w : Window) : (s.withWindow l w).details = s.details := by cases l <;> rfl
@[simp] theorem withWindow_key (s : State) (l : Link) (w : Window) : (s.withWindow l w).key = s.key := by cases l <;> rfl
@[simp] theorem withWindow_maintenance (s : State) (l : Link) (w : Window) : (s.withWindow l w).maintenance = s.maintenance := by cases l <;> rfl
@[simp] theorem withWindow_power (s : State) (l : Link) (w : Window) : (s.withWindow l w).power = s.power := by cases l <;> rfl
@[simp] theorem withWindow_pending (s : State) (l : Link) (w : Window) : (s.withWindow l w).pending = s.pending := by cases l <;> rfl

@[simp] theorem withReceiver_elapsed (s : State) (l : Link) (r : Receiver) : (s.withReceiver l r).elapsed = s.elapsed := by cases l <;> rfl
@[simp] theorem withReceiver_time (s : State) (l : Link) (r : Receiver) : (s.withReceiver l r).time = s.time := by cases l <;> rfl
@[simp] theorem withReceiver_calendar (s : State) (l : Link) (r : Receiver) : (s.withReceiver l r).calendar = s.calendar := by cases l <;> rfl
@[simp] theorem withReceiver_timers (s : State) (l : Link) (r : Receiver) : (s.withReceiver l r).timers = s.timers := by cases l <;> rfl
@[simp] theorem withReceiver_dials (s : State) (l : Link) (r : Receiver) : (s.withReceiver l r).dials = s.dials := by cases l <;> rfl
@[simp] theorem withReceiver_score (s : State) (l : Link) (r : Receiver) : (s.withReceiver l r).score = s.score := by cases l <;> rfl
@[simp] theorem withReceiver_tunes (s : State) (l : Link) (r : Receiver) : (s.withReceiver l r).tunes = s.tunes := by cases l <;> rfl
@[simp] theorem withReceiver_chimes (s : State) (l : Link) (r : Receiver) : (s.withReceiver l r).chimes = s.chimes := by cases l <;> rfl
@[simp] theorem withReceiver_arbiter (s : State) (l : Link) (r : Receiver) : (s.withReceiver l r).arbiter = s.arbiter := by cases l <;> rfl
@[simp] theorem withReceiver_hammers (s : State) (l : Link) (r : Receiver) : (s.withReceiver l r).hammers = s.hammers := by cases l <;> rfl
@[simp] theorem withReceiver_strikes (s : State) (l : Link) (r : Receiver) : (s.withReceiver l r).strikes = s.strikes := by cases l <;> rfl
@[simp] theorem withReceiver_methods (s : State) (l : Link) (r : Receiver) : (s.withReceiver l r).methods = s.methods := by cases l <;> rfl
@[simp] theorem withReceiver_touch (s : State) (l : Link) (r : Receiver) : (s.withReceiver l r).touch = s.touch := by cases l <;> rfl
@[simp] theorem withReceiver_swings (s : State) (l : Link) (r : Receiver) : (s.withReceiver l r).swings = s.swings := by cases l <;> rfl
@[simp] theorem withReceiver_programs (s : State) (l : Link) (r : Receiver) : (s.withReceiver l r).programs = s.programs := by cases l <;> rfl
@[simp] theorem withReceiver_startRequests (s : State) (l : Link) (r : Receiver) : (s.withReceiver l r).startRequests = s.startRequests := by cases l <;> rfl
@[simp] theorem withReceiver_allowance (s : State) (l : Link) (r : Receiver) : (s.withReceiver l r).allowance = s.allowance := by cases l <;> rfl
@[simp] theorem withReceiver_lights (s : State) (l : Link) (r : Receiver) : (s.withReceiver l r).lights = s.lights := by cases l <;> rfl
@[simp] theorem withReceiver_details (s : State) (l : Link) (r : Receiver) : (s.withReceiver l r).details = s.details := by cases l <;> rfl
@[simp] theorem withReceiver_key (s : State) (l : Link) (r : Receiver) : (s.withReceiver l r).key = s.key := by cases l <;> rfl
@[simp] theorem withReceiver_maintenance (s : State) (l : Link) (r : Receiver) : (s.withReceiver l r).maintenance = s.maintenance := by cases l <;> rfl
@[simp] theorem withReceiver_power (s : State) (l : Link) (r : Receiver) : (s.withReceiver l r).power = s.power := by cases l <;> rfl
@[simp] theorem withReceiver_pending (s : State) (l : Link) (r : Receiver) : (s.withReceiver l r).pending = s.pending := by cases l <;> rfl

@[simp] theorem raise_elapsed (s : State) (d : Detail) : (raise d s).elapsed = s.elapsed := rfl
@[simp] theorem raise_time (s : State) (d : Detail) : (raise d s).time = s.time := rfl
@[simp] theorem raise_calendar (s : State) (d : Detail) : (raise d s).calendar = s.calendar := rfl
@[simp] theorem raise_timers (s : State) (d : Detail) : (raise d s).timers = s.timers := rfl
@[simp] theorem raise_dials (s : State) (d : Detail) : (raise d s).dials = s.dials := rfl
@[simp] theorem raise_score (s : State) (d : Detail) : (raise d s).score = s.score := rfl
@[simp] theorem raise_tunes (s : State) (d : Detail) : (raise d s).tunes = s.tunes := rfl
@[simp] theorem raise_chimes (s : State) (d : Detail) : (raise d s).chimes = s.chimes := rfl
@[simp] theorem raise_arbiter (s : State) (d : Detail) : (raise d s).arbiter = s.arbiter := rfl
@[simp] theorem raise_hammers (s : State) (d : Detail) : (raise d s).hammers = s.hammers := rfl
@[simp] theorem raise_strikes (s : State) (d : Detail) : (raise d s).strikes = s.strikes := rfl
@[simp] theorem raise_methods (s : State) (d : Detail) : (raise d s).methods = s.methods := rfl
@[simp] theorem raise_touch (s : State) (d : Detail) : (raise d s).touch = s.touch := rfl
@[simp] theorem raise_swings (s : State) (d : Detail) : (raise d s).swings = s.swings := rfl
@[simp] theorem raise_programs (s : State) (d : Detail) : (raise d s).programs = s.programs := rfl
@[simp] theorem raise_startRequests (s : State) (d : Detail) : (raise d s).startRequests = s.startRequests := rfl
@[simp] theorem raise_allowance (s : State) (d : Detail) : (raise d s).allowance = s.allowance := rfl
@[simp] theorem raise_lights (s : State) (d : Detail) : (raise d s).lights = s.lights := rfl
@[simp] theorem raise_key (s : State) (d : Detail) : (raise d s).key = s.key := rfl
@[simp] theorem raise_maintenance (s : State) (d : Detail) : (raise d s).maintenance = s.maintenance := rfl
@[simp] theorem raise_power (s : State) (d : Detail) : (raise d s).power = s.power := rfl
@[simp] theorem raise_pending (s : State) (d : Detail) : (raise d s).pending = s.pending := rfl

@[simp] theorem closeStream_elapsed (s : State) (l : Link) : (closeStream l s).elapsed = s.elapsed := by cases l <;> rfl
@[simp] theorem closeStream_time (s : State) (l : Link) : (closeStream l s).time = s.time := by cases l <;> rfl
@[simp] theorem closeStream_calendar (s : State) (l : Link) : (closeStream l s).calendar = s.calendar := by cases l <;> rfl
@[simp] theorem closeStream_timers (s : State) (l : Link) : (closeStream l s).timers = s.timers := by cases l <;> rfl
@[simp] theorem closeStream_dials (s : State) (l : Link) : (closeStream l s).dials = s.dials := by cases l <;> rfl
@[simp] theorem closeStream_score (s : State) (l : Link) : (closeStream l s).score = s.score := by cases l <;> rfl
@[simp] theorem closeStream_tunes (s : State) (l : Link) : (closeStream l s).tunes = s.tunes := by cases l <;> rfl
@[simp] theorem closeStream_chimes (s : State) (l : Link) : (closeStream l s).chimes = s.chimes := by cases l <;> rfl
@[simp] theorem closeStream_arbiter (s : State) (l : Link) : (closeStream l s).arbiter = s.arbiter := by cases l <;> rfl
@[simp] theorem closeStream_hammers (s : State) (l : Link) : (closeStream l s).hammers = s.hammers := by cases l <;> rfl
@[simp] theorem closeStream_strikes (s : State) (l : Link) : (closeStream l s).strikes = s.strikes := by cases l <;> rfl
@[simp] theorem closeStream_methods (s : State) (l : Link) : (closeStream l s).methods = s.methods := by cases l <;> rfl
@[simp] theorem closeStream_touch (s : State) (l : Link) : (closeStream l s).touch = s.touch := by cases l <;> rfl
@[simp] theorem closeStream_swings (s : State) (l : Link) : (closeStream l s).swings = s.swings := by cases l <;> rfl
@[simp] theorem closeStream_programs (s : State) (l : Link) : (closeStream l s).programs = s.programs := by cases l <;> rfl
@[simp] theorem closeStream_startRequests (s : State) (l : Link) : (closeStream l s).startRequests = s.startRequests := by cases l <;> rfl
@[simp] theorem closeStream_allowance (s : State) (l : Link) : (closeStream l s).allowance = s.allowance := by cases l <;> rfl
@[simp] theorem closeStream_lights (s : State) (l : Link) : (closeStream l s).lights = s.lights := by cases l <;> rfl
@[simp] theorem closeStream_details (s : State) (l : Link) : (closeStream l s).details = s.details := by cases l <;> rfl
@[simp] theorem closeStream_key (s : State) (l : Link) : (closeStream l s).key = s.key := by cases l <;> rfl
@[simp] theorem closeStream_maintenance (s : State) (l : Link) : (closeStream l s).maintenance = s.maintenance := by cases l <;> rfl
@[simp] theorem closeStream_power (s : State) (l : Link) : (closeStream l s).power = s.power := by cases l <;> rfl
@[simp] theorem closeStream_pending (s : State) (l : Link) : (closeStream l s).pending = s.pending := by cases l <;> rfl

@[simp] theorem countError_elapsed (s : State) (l : Link) (k : Counter) : (countError l k s).elapsed = s.elapsed := by simp only [countError]; split <;> simp
@[simp] theorem countError_time (s : State) (l : Link) (k : Counter) : (countError l k s).time = s.time := by simp only [countError]; split <;> simp
@[simp] theorem countError_calendar (s : State) (l : Link) (k : Counter) : (countError l k s).calendar = s.calendar := by simp only [countError]; split <;> simp
@[simp] theorem countError_timers (s : State) (l : Link) (k : Counter) : (countError l k s).timers = s.timers := by simp only [countError]; split <;> simp
@[simp] theorem countError_dials (s : State) (l : Link) (k : Counter) : (countError l k s).dials = s.dials := by simp only [countError]; split <;> simp
@[simp] theorem countError_score (s : State) (l : Link) (k : Counter) : (countError l k s).score = s.score := by simp only [countError]; split <;> simp
@[simp] theorem countError_tunes (s : State) (l : Link) (k : Counter) : (countError l k s).tunes = s.tunes := by simp only [countError]; split <;> simp
@[simp] theorem countError_chimes (s : State) (l : Link) (k : Counter) : (countError l k s).chimes = s.chimes := by simp only [countError]; split <;> simp
@[simp] theorem countError_arbiter (s : State) (l : Link) (k : Counter) : (countError l k s).arbiter = s.arbiter := by simp only [countError]; split <;> simp
@[simp] theorem countError_hammers (s : State) (l : Link) (k : Counter) : (countError l k s).hammers = s.hammers := by simp only [countError]; split <;> simp
@[simp] theorem countError_strikes (s : State) (l : Link) (k : Counter) : (countError l k s).strikes = s.strikes := by simp only [countError]; split <;> simp
@[simp] theorem countError_methods (s : State) (l : Link) (k : Counter) : (countError l k s).methods = s.methods := by simp only [countError]; split <;> simp
@[simp] theorem countError_touch (s : State) (l : Link) (k : Counter) : (countError l k s).touch = s.touch := by simp only [countError]; split <;> simp
@[simp] theorem countError_swings (s : State) (l : Link) (k : Counter) : (countError l k s).swings = s.swings := by simp only [countError]; split <;> simp
@[simp] theorem countError_programs (s : State) (l : Link) (k : Counter) : (countError l k s).programs = s.programs := by simp only [countError]; split <;> simp
@[simp] theorem countError_startRequests (s : State) (l : Link) (k : Counter) : (countError l k s).startRequests = s.startRequests := by simp only [countError]; split <;> simp
@[simp] theorem countError_allowance (s : State) (l : Link) (k : Counter) : (countError l k s).allowance = s.allowance := by simp only [countError]; split <;> simp
@[simp] theorem countError_lights (s : State) (l : Link) (k : Counter) : (countError l k s).lights = s.lights := by simp only [countError]; split <;> simp
@[simp] theorem countError_key (s : State) (l : Link) (k : Counter) : (countError l k s).key = s.key := by simp only [countError]; split <;> simp
@[simp] theorem countError_maintenance (s : State) (l : Link) (k : Counter) : (countError l k s).maintenance = s.maintenance := by simp only [countError]; split <;> simp
@[simp] theorem countError_power (s : State) (l : Link) (k : Counter) : (countError l k s).power = s.power := by simp only [countError]; split <;> simp
@[simp] theorem countError_pending (s : State) (l : Link) (k : Counter) : (countError l k s).pending = s.pending := by simp only [countError]; split <;> simp

@[simp] theorem renewToday_elapsed (s : State)  : (renewToday s).elapsed = s.elapsed := rfl
@[simp] theorem renewToday_time (s : State)  : (renewToday s).time = s.time := rfl
@[simp] theorem renewToday_timers (s : State)  : (renewToday s).timers = s.timers := rfl
@[simp] theorem renewToday_dials (s : State)  : (renewToday s).dials = s.dials := rfl
@[simp] theorem renewToday_score (s : State)  : (renewToday s).score = s.score := rfl
@[simp] theorem renewToday_tunes (s : State)  : (renewToday s).tunes = s.tunes := rfl
@[simp] theorem renewToday_chimes (s : State)  : (renewToday s).chimes = s.chimes := rfl
@[simp] theorem renewToday_arbiter (s : State)  : (renewToday s).arbiter = s.arbiter := rfl
@[simp] theorem renewToday_hammers (s : State)  : (renewToday s).hammers = s.hammers := rfl
@[simp] theorem renewToday_strikes (s : State)  : (renewToday s).strikes = s.strikes := rfl
@[simp] theorem renewToday_methods (s : State)  : (renewToday s).methods = s.methods := rfl
@[simp] theorem renewToday_touch (s : State)  : (renewToday s).touch = s.touch := rfl
@[simp] theorem renewToday_swings (s : State)  : (renewToday s).swings = s.swings := rfl
@[simp] theorem renewToday_programs (s : State)  : (renewToday s).programs = s.programs := rfl
@[simp] theorem renewToday_startRequests (s : State)  : (renewToday s).startRequests = s.startRequests := rfl
@[simp] theorem renewToday_allowance (s : State)  : (renewToday s).allowance = s.allowance := rfl
@[simp] theorem renewToday_lights (s : State)  : (renewToday s).lights = s.lights := rfl
@[simp] theorem renewToday_details (s : State)  : (renewToday s).details = s.details := rfl
@[simp] theorem renewToday_panel (s : State)  : (renewToday s).panel = s.panel := rfl
@[simp] theorem renewToday_chamber (s : State)  : (renewToday s).chamber = s.chamber := rfl
@[simp] theorem renewToday_key (s : State)  : (renewToday s).key = s.key := rfl
@[simp] theorem renewToday_maintenance (s : State)  : (renewToday s).maintenance = s.maintenance := rfl
@[simp] theorem renewToday_power (s : State)  : (renewToday s).power = s.power := rfl
@[simp] theorem renewToday_pending (s : State)  : (renewToday s).pending = s.pending := rfl

@[simp] theorem renewIfDue_elapsed (s : State) : (renewIfDue s).elapsed = s.elapsed := by unfold renewIfDue; split <;> rfl
@[simp] theorem renewIfDue_time (s : State) : (renewIfDue s).time = s.time := by unfold renewIfDue; split <;> rfl
@[simp] theorem renewIfDue_timers (s : State) : (renewIfDue s).timers = s.timers := by unfold renewIfDue; split <;> rfl
@[simp] theorem renewIfDue_dials (s : State) : (renewIfDue s).dials = s.dials := by unfold renewIfDue; split <;> rfl
@[simp] theorem renewIfDue_score (s : State) : (renewIfDue s).score = s.score := by unfold renewIfDue; split <;> rfl
@[simp] theorem renewIfDue_tunes (s : State) : (renewIfDue s).tunes = s.tunes := by unfold renewIfDue; split <;> rfl
@[simp] theorem renewIfDue_chimes (s : State) : (renewIfDue s).chimes = s.chimes := by unfold renewIfDue; split <;> rfl
@[simp] theorem renewIfDue_arbiter (s : State) : (renewIfDue s).arbiter = s.arbiter := by unfold renewIfDue; split <;> rfl
@[simp] theorem renewIfDue_hammers (s : State) : (renewIfDue s).hammers = s.hammers := by unfold renewIfDue; split <;> rfl
@[simp] theorem renewIfDue_strikes (s : State) : (renewIfDue s).strikes = s.strikes := by unfold renewIfDue; split <;> rfl
@[simp] theorem renewIfDue_methods (s : State) : (renewIfDue s).methods = s.methods := by unfold renewIfDue; split <;> rfl
@[simp] theorem renewIfDue_touch (s : State) : (renewIfDue s).touch = s.touch := by unfold renewIfDue; split <;> rfl
@[simp] theorem renewIfDue_swings (s : State) : (renewIfDue s).swings = s.swings := by unfold renewIfDue; split <;> rfl
@[simp] theorem renewIfDue_programs (s : State) : (renewIfDue s).programs = s.programs := by unfold renewIfDue; split <;> rfl
@[simp] theorem renewIfDue_startRequests (s : State) : (renewIfDue s).startRequests = s.startRequests := by unfold renewIfDue; split <;> rfl
@[simp] theorem renewIfDue_allowance (s : State) : (renewIfDue s).allowance = s.allowance := by unfold renewIfDue; split <;> rfl
@[simp] theorem renewIfDue_lights (s : State) : (renewIfDue s).lights = s.lights := by unfold renewIfDue; split <;> rfl
@[simp] theorem renewIfDue_details (s : State) : (renewIfDue s).details = s.details := by unfold renewIfDue; split <;> rfl
@[simp] theorem renewIfDue_panel (s : State) : (renewIfDue s).panel = s.panel := by unfold renewIfDue; split <;> rfl
@[simp] theorem renewIfDue_chamber (s : State) : (renewIfDue s).chamber = s.chamber := by unfold renewIfDue; split <;> rfl
@[simp] theorem renewIfDue_key (s : State) : (renewIfDue s).key = s.key := by unfold renewIfDue; split <;> rfl
@[simp] theorem renewIfDue_maintenance (s : State) : (renewIfDue s).maintenance = s.maintenance := by unfold renewIfDue; split <;> rfl
@[simp] theorem renewIfDue_power (s : State) : (renewIfDue s).power = s.power := by unfold renewIfDue; split <;> rfl
@[simp] theorem renewIfDue_pending (s : State) : (renewIfDue s).pending = s.pending := by unfold renewIfDue; split <;> rfl

@[simp] theorem startRelease_elapsed (s : State)  : (startRelease s).elapsed = s.elapsed := rfl
@[simp] theorem startRelease_time (s : State)  : (startRelease s).time = s.time := rfl
@[simp] theorem startRelease_calendar (s : State)  : (startRelease s).calendar = s.calendar := rfl
@[simp] theorem startRelease_timers (s : State)  : (startRelease s).timers = s.timers := rfl
@[simp] theorem startRelease_dials (s : State)  : (startRelease s).dials = s.dials := rfl
@[simp] theorem startRelease_score (s : State)  : (startRelease s).score = s.score := rfl
@[simp] theorem startRelease_tunes (s : State)  : (startRelease s).tunes = s.tunes := rfl
@[simp] theorem startRelease_chimes (s : State)  : (startRelease s).chimes = s.chimes := rfl
@[simp] theorem startRelease_arbiter (s : State)  : (startRelease s).arbiter = s.arbiter := rfl
@[simp] theorem startRelease_hammers (s : State)  : (startRelease s).hammers = s.hammers := rfl
@[simp] theorem startRelease_strikes (s : State)  : (startRelease s).strikes = s.strikes := rfl
@[simp] theorem startRelease_methods (s : State)  : (startRelease s).methods = s.methods := rfl
@[simp] theorem startRelease_touch (s : State)  : (startRelease s).touch = s.touch := rfl
@[simp] theorem startRelease_swings (s : State)  : (startRelease s).swings = s.swings := rfl
@[simp] theorem startRelease_programs (s : State)  : (startRelease s).programs = s.programs := rfl
@[simp] theorem startRelease_startRequests (s : State)  : (startRelease s).startRequests = s.startRequests := rfl
@[simp] theorem startRelease_lights (s : State)  : (startRelease s).lights = s.lights := rfl
@[simp] theorem startRelease_details (s : State)  : (startRelease s).details = s.details := rfl
@[simp] theorem startRelease_panel (s : State)  : (startRelease s).panel = s.panel := rfl
@[simp] theorem startRelease_chamber (s : State)  : (startRelease s).chamber = s.chamber := rfl
@[simp] theorem startRelease_key (s : State)  : (startRelease s).key = s.key := rfl
@[simp] theorem startRelease_maintenance (s : State)  : (startRelease s).maintenance = s.maintenance := rfl
@[simp] theorem startRelease_power (s : State)  : (startRelease s).power = s.power := rfl
@[simp] theorem startRelease_pending (s : State)  : (startRelease s).pending = s.pending := rfl

@[simp] theorem markMinute_elapsed (s : State)  : (markMinute s).elapsed = s.elapsed := rfl
@[simp] theorem markMinute_calendar (s : State)  : (markMinute s).calendar = s.calendar := rfl
@[simp] theorem markMinute_timers (s : State)  : (markMinute s).timers = s.timers := rfl
@[simp] theorem markMinute_dials (s : State)  : (markMinute s).dials = s.dials := rfl
@[simp] theorem markMinute_score (s : State)  : (markMinute s).score = s.score := rfl
@[simp] theorem markMinute_tunes (s : State)  : (markMinute s).tunes = s.tunes := rfl
@[simp] theorem markMinute_chimes (s : State)  : (markMinute s).chimes = s.chimes := rfl
@[simp] theorem markMinute_arbiter (s : State)  : (markMinute s).arbiter = s.arbiter := rfl
@[simp] theorem markMinute_hammers (s : State)  : (markMinute s).hammers = s.hammers := rfl
@[simp] theorem markMinute_strikes (s : State)  : (markMinute s).strikes = s.strikes := rfl
@[simp] theorem markMinute_methods (s : State)  : (markMinute s).methods = s.methods := rfl
@[simp] theorem markMinute_touch (s : State)  : (markMinute s).touch = s.touch := rfl
@[simp] theorem markMinute_swings (s : State)  : (markMinute s).swings = s.swings := rfl
@[simp] theorem markMinute_programs (s : State)  : (markMinute s).programs = s.programs := rfl
@[simp] theorem markMinute_startRequests (s : State)  : (markMinute s).startRequests = s.startRequests := rfl
@[simp] theorem markMinute_allowance (s : State)  : (markMinute s).allowance = s.allowance := rfl
@[simp] theorem markMinute_lights (s : State)  : (markMinute s).lights = s.lights := rfl
@[simp] theorem markMinute_details (s : State)  : (markMinute s).details = s.details := rfl
@[simp] theorem markMinute_panel (s : State)  : (markMinute s).panel = s.panel := rfl
@[simp] theorem markMinute_chamber (s : State)  : (markMinute s).chamber = s.chamber := rfl
@[simp] theorem markMinute_key (s : State)  : (markMinute s).key = s.key := rfl
@[simp] theorem markMinute_maintenance (s : State)  : (markMinute s).maintenance = s.maintenance := rfl
@[simp] theorem markMinute_power (s : State)  : (markMinute s).power = s.power := rfl
@[simp] theorem markMinute_pending (s : State)  : (markMinute s).pending = s.pending := rfl

/-! ## Notices (R173, R174) -/

@[simp] theorem raise_link (d : Detail) (s : State) (l : Link) : (raise d s).link l = (s.link l).occur d.kind := by
  cases l <;> rfl

/-- A notice that occurs changes a link's two sets only. -/
theorem occur_frame (l : LinkState) (k : Nat) :
    (l.occur k).receiver = l.receiver ∧ (l.occur k).counters = l.counters ∧ (l.occur k).unmasked = l.unmasked
      ∧ (l.occur k).reply = l.reply ∧ (l.occur k).window = l.window := by
  unfold LinkState.occur
  split
  · exact ⟨rfl, rfl, rfl, rfl, rfl⟩
  · split <;> exact ⟨rfl, rfl, rfl, rfl, rfl⟩

@[simp] theorem occur_reply (l : LinkState) (k : Nat) : (l.occur k).reply = l.reply := (occur_frame l k).2.2.2.1

@[simp] theorem occur_window (l : LinkState) (k : Nat) : (l.occur k).window = l.window := (occur_frame l k).2.2.2.2

/-! ## Requests (R168, R169, R179) -/

/-- Out of operation a request does nothing. -/
theorem takeRequest_out (h : Header) (kind : Nat) (body : State → Answer) (s : State)
    (ho : s.power.operating = false) : takeRequest h kind body s = s := by
  simp [takeRequest, ho]

/-- While the link's reply is outstanding a request is an overrun. -/
theorem takeRequest_overrun (h : Header) (kind : Nat) (body : State → Answer) (s : State)
    (ho : s.power.operating = true) (hr : (s.link h.link).reply.isSome = true) :
    takeRequest h kind body s = countError h.link .overrun s := by
  simp [takeRequest, ho, hr]

/-- A request other than a SCORE-WRITE that is taken closes its link's stream, runs, and is answered. -/
theorem takeRequest_taken (h : Header) (kind : Nat) (body : State → Answer) (s : State)
    (ho : s.power.operating = true) (hr : (s.link h.link).reply = none) (hk : kind ≠ 0x31) :
    takeRequest h kind body s = reply h kind (body (closeStream h.link s)) := by
  simp [takeRequest, ho, hr, hk]

/-- A SCORE-WRITE that is taken runs with the stream as it stands, and is answered. -/
theorem takeRequest_score (h : Header) (body : State → Answer) (s : State) (ho : s.power.operating = true)
    (hr : (s.link h.link).reply = none) : takeRequest h 0x31 body s = reply h 0x31 (body s) := by
  simp [takeRequest, ho, hr]

/-- The reply that stands on the request's link once it is answered. -/
@[simp] theorem reply_link (h : Header) (kind : Nat) (a : Answer) :
    ((reply h kind a).link h.link).reply
      = some { kind := replyKind kind, tag := h.tag, status := a.status, body := a.body } := by
  simp [reply]

/-- An answer changes nothing but the reply on its link. -/
theorem reply_state (h : Header) (kind : Nat) (a : Answer) :
    ∃ x, reply h kind a = a.state.withLink h.link { a.state.link h.link with reply := x } := ⟨_, rfl⟩

@[simp] theorem whenOperating_true (f : State → State) (s : State) (h : s.power.operating = true) :
    whenOperating f s = f s := by
  simp [whenOperating, h]

@[simp] theorem whenOperating_false (f : State → State) (s : State) (h : s.power.operating = false) :
    whenOperating f s = s := by
  simp [whenOperating, h]

/-- Closing a stream leaves the link's reply. -/
@[simp] theorem closeStream_reply (l l' : Link) (s : State) : ((closeStream l s).link l').reply = (s.link l').reply := by
  cases l <;> cases l' <;> rfl

/-! ## The supply allowance (R140, R147) -/

/-- A watched change is the change, with a release due or not. -/
theorem watchLoad_cases (f : State → State) (s : State) : watchLoad f s = f s ∨ watchLoad f s = startRelease (f s) := by
  simp only [watchLoad]
  split
  · exact .inr rfl
  · exact .inl rfl

theorem allowance_idle (a : Allowance) (h : a.headDue = false) (r : a.releaseDue = false) :
    { a with headDue := false, releaseDue := false } = a := by
  cases a
  subst h r
  rfl

theorem workOff_idle (n : Nat) (s : State) (h : s.allowance.headDue = false) (r : s.allowance.releaseDue = false) :
    workOff n s = s := by
  cases n with
  | zero => rfl
  | succ n => rw [workOff, h, r]; rfl

/-- Nothing due in the allowance: settling it changes nothing. -/
theorem settleLoad_idle (s : State) (h : s.allowance.headDue = false) (r : s.allowance.releaseDue = false) :
    settleLoad s = s := by
  have e : settleLoad s
      = { workOff 32 s with
          allowance := { (workOff 32 s).allowance with headDue := false, releaseDue := false } } := rfl
  rw [e, workOff_idle 32 s h r, allowance_idle _ h r]

/-- Once settled, nothing is due in the allowance. -/
theorem settleLoad_settled (s : State) :
    (settleLoad s).allowance.headDue = false ∧ (settleLoad s).allowance.releaseDue = false := ⟨rfl, rfl⟩

/-- A stagger that ends leaves nothing due in the allowance: its channel has joined and, as head, has been tried. -/
theorem endStagger_settled (c : Nat) (s : State) :
    (endStagger c s).allowance.headDue = false ∧ (endStagger c s).allowance.releaseDue = false :=
  settleLoad_settled _

/-- A stagger with no start pending changes nothing. -/
theorem endStagger_none (c : Nat) (s : State) (h : (s.swing c).start = none) (d : s.allowance.headDue = false)
    (r : s.allowance.releaseDue = false) : endStagger c s = s := by
  simp only [endStagger, staggerEnded, h]
  exact settleLoad_idle s d r

/-- A refused frame's answer carries the number of entries for a CALENDAR-WRITE, nothing for another kind, and changes no
state. -/
theorem badValueAnswer_cases (kind : Nat) (s : State) :
    (badValueAnswer kind s).state = s ∧ (badValueAnswer kind s).status = .badValue
      ∧ (badValueAnswer kind s).body = if kind = 0x16 then .count s.calendar.entries.length else .none := by
  unfold badValueAnswer
  split <;> exact ⟨rfl, rfl, rfl⟩

end Sys2Proof.Machine
end

