-- ==== Sys2Proof/Tests/Slice0.lean ====
section
/-! SUPPORT. Small tests: an ill-formed term for each check of WellFormed, worked values of the manual, and for each
statement of Certificates/Slice0/Obligations.lean a state and operands that meet its hypotheses together. -/

set_option maxRecDepth 20000

namespace Sys2Proof.Tests

open Sys2Proof Sys2Proof.Machine

/-! ## States the tests stand on -/

/-- A request's header on the Panel link, which the key selects at reset. -/
def h : Header := { link := .panel, tag := 7 }

/-- A header on the Chamber link. -/
def hc : Header := { link := .chamber, tag := 9 }

/-- The part after reset. -/
def s0 : State := State.reset

/-- The part at 2025-06-01 12:00:00.000, with validity SET and the event of 12:00 served. -/
def aired : State :=
  { s0 with time := { s0.time with validity := .isSet, instant := 9283 * 86400000 + 43200000, marker := some (9283 * 96 + 48),
                                   minuteMark := 9283 * 1440 + 720 } }

/-- The part in MAINTENANCE. -/
def kept : State := { aired with maintenance := true }

/-- The part with the key turned to the Chamber link. -/
def turned : State := { aired with key := .chamber }

/-- Hammer 20 in a state. -/
def hammer20 (s : State) (x : HammerState) : State := s.withHammer 20 { s.hammer 20 with state := x }

/-- Swing channel 3, fitted, in a state. -/
def swing3 (s : State) (x : SwingState) : State :=
  s.withSwing 3 { s.swing 3 with state := x, cfg := { (s.swing 3).cfg with fitted := true } }

/-- Swing channel 3 QUEUED, alone in the raise queue. -/
def queued3 (s : State) : State :=
  { swing3 s .queued with allowance := { s.allowance with queue := [3] } }

/-- The Panel link's receiver in a state. -/
def receiving (x : RxState) (bs : List Byte) : State :=
  s0.withLink .panel { s0.panel with receiver := { state := x, kept := bs, lastByte := 0 } }

/-- A valid one-row tune. -/
def oneRow : TuneSnap :=
  { start := 0, intro := 0, body := 1, coda := 0, passes := 1, beat := 150, shift := 0, whole := false }

/-- The part with tune 0 valid. -/
def tuned : State := { aired with tunes := aired.tunes.set 0 { valid := true, snap := oneRow } }

/-- A performance of a source, with the fields a test sets. -/
def perf (id : Nat) (src : Source) (st : PerfState) (tested : Bool) (due : Int) : Perf where
  id := id
  source := src
  firstLanding := due + 2000
  dueStart := due
  deadline := due
  state := st
  tested := tested
  origin := if st == .waiting then none else some due
  cursor := 0
  inStrike := false
  stopped := none
  booked := 0
  dropped := 0
  lastTaken := none

/-- The part with these performances in its queue. -/
def playing (ps : List Perf) : State := { tuned with arbiter := { tuned.arbiter with queue := ps } }

/-- A toll of two strokes on bell 20. -/
def tolling : Source := .toll 20 1 1000 2 false

/-- An entry for bell 20 of performance 1, due now. -/
def entry (id : Nat) : Entry where
  bell := 20
  actuation := aired.now
  strike := aired.now + 100
  pulse := 30
  id := id
  row := 0
  cls := .toll
  strength := 1
  wanted := aired.now + 100

/-- The strike part of an hour: one blow on bell 24, to land at an instant. -/
def blow (first : Int) : StrikePart := { bell := 24, strength := 3, count := 1, interval := 2500, first := first }

/-- The chime part of an hour: a one-row WHOLE tune, to land at an instant. -/
def chiming (first : Int) : ChimePart :=
  { snap := { oneRow with whole := true }, tune := 0, chimeSet := 0, position := 4, entry := 0, first := first }

/-- The event of 13:00 on the day of `aired`, after the served marker. -/
def one : Nat := 9283 * 96 + 52

/-- A state with every class silenced for ever by timer 1. -/
def hushed (s : State) : State := s.withTimer 1 { ends := some 100000000, mask := 63, action := .none }

/-- The same performance with the clock event's cursor, or a played row, as a test sets it. -/
def atRow (p : Perf) (n : Nat) (inStrike : Bool) : Perf := { p with cursor := n, inStrike := inStrike }

/-- The part with tune 0 valid and its one row a stroke of strength 1 on bell 20. -/
def scored (ps : List Perf) : State :=
  let s := playing ps
  { s with score := { s.score with cells := [(19, 1)] } }

/-- The part with method 0 valid: plain hunting on four bells. -/
def hunting : State :=
  { aired with methods := aired.methods.set 0 { Method.initial with valid := true, lead := [0b0000, 0b1001], bob := some 0b0011 } }

/-! ## WellFormed refuses what cannot be sent -/

theorem test_wf_tag : WellFormed (.identify { link := .panel, tag := 256 }) = false := by decide
theorem test_wf_noticeRead : WellFormed (.noticeRead h 256) = false := by decide
theorem test_wf_noticeMask : WellFormed (.noticeMask h [2 ^ 48] []) = false ∧ WellFormed (.noticeMask h [] [2 ^ 48]) = false := by decide
theorem test_wf_noticeClear : WellFormed (.noticeClear h (some (List.replicate 249 1))) = false := by decide
theorem test_wf_unknownKind : WellFormed (.unknownKind h 256) = false ∧ WellFormed (.unknownKind h 0x01) = false := by decide
theorem test_wf_time : WellFormed (.timeSet h 2025 6 1 (2 ^ 48)) = false ∧ WellFormed (.zoneSet h (2 ^ 47)) = false := by decide
theorem test_wf_calendar : WellFormed (.classWrite h 0 (some (2 ^ 48)) 0 0) = false ∧ WellFormed (.weekdayWrite h [2 ^ 48]) = false
    ∧ WellFormed (.calendarWrite h 6 1 (some 0) 1) = false ∧ WellFormed (.calendarDelete h 256 1 none) = false
    ∧ WellFormed (.calendarRead h 0 (2 ^ 48) 1) = false := by decide
theorem test_wf_timer : WellFormed (.timerStart h 1 (2 ^ 48) 0 0 0 0) = false := by decide
theorem test_wf_dials : WellFormed (.dialConfig h 1 0 500 500 (2 ^ 48) 0) = false
    ∧ WellFormed (.dialSetPosition h 1 (2 ^ 48) none) = false := by decide
theorem test_wf_score : WellFormed (.scoreWindow h 0 (2 ^ 48) 1 24) = false ∧ WellFormed (.scoreWrite h 0 256 []) = false
    ∧ WellFormed (.scoreRead h (2 ^ 48) 1 1) = false ∧ WellFormed (.scoreProtect h 0 1 (2 ^ 48)) = false := by decide
theorem test_wf_tunes : WellFormed (.tuneWrite h 0 65536 0 1 0 1 500 0 0) = false
    ∧ WellFormed (.tuneWrite h 0 0 0 1 0 1 500 128 0) = false ∧ WellFormed (.chimeWrite h 0 1 2 [3] 1 none) = false
    ∧ WellFormed (.chimeWrite h 0 1 0 [] 1 (some 255)) = false := by decide
theorem test_wf_performances : WellFormed (.playTune h 0 (some (2 ^ 47)) none 0) = false
    ∧ WellFormed (.toll h 1 1 1000 1 0 (some (2 ^ 48)) 0) = false ∧ WellFormed (.clockstrikeConfig h 1 1 (2 ^ 48) 0) = false
    ∧ WellFormed (.silenceWrite h 0 1 0 0 (2 ^ 48) 0) = false := by decide
theorem test_wf_hammers : WellFormed (.hammerConfig h 1 65536 400 60 1) = false ∧ WellFormed (.strikeQueueRead h (2 ^ 48) 1) = false
    ∧ WellFormed (.testStroke h 1 (2 ^ 48)) = false := by decide
theorem test_wf_ringing : WellFormed (.methodWrite h 0 4 [1, 2, 3] 0 2 [0, 0] none none) = false
    ∧ WellFormed (.methodWrite h 0 4 [1, 2, 3, 4] 0 2 [0, 0] (some 0xFFFF) none) = false
    ∧ WellFormed (.touchStart h 0 1 200 2 2 100 [(2 ^ 48, 0)]) = false := by decide
theorem test_wf_swings : WellFormed (.swingConfig h 1 1 65536 10 4 90 20 1) = false ∧ WellFormed (.swingStart h [(1, 2 ^ 48)] 0) = false
    ∧ WellFormed (.swingStop h (some [2 ^ 48])) = false ∧ WellFormed (.swingProgramWrite h 1 [(2 ^ 48, 0)] 0) = false
    ∧ WellFormed (.swingRead h 1 (2 ^ 48)) = false := by decide
theorem test_wf_lights : WellFormed (.allowanceSet h (2 ^ 48)) = false ∧ WellFormed (.circuitConfig h 1 256 0 0) = false
    ∧ WellFormed (.sceneWrite h 0 256 []) = false ∧ WellFormed (.sceneRead h (2 ^ 48) 1) = false
    ∧ WellFormed (.sceneApply h 0 (2 ^ 48)) = false ∧ WellFormed (.lightMode h 0 (2 ^ 48) 1) = false
    ∧ WellFormed (.duskWrite h 0 [(2 ^ 48, 0)]) = false ∧ WellFormed (.duskRead h 0 (2 ^ 48)) = false
    ∧ WellFormed (.scheduleWrite h 0 1 0 0 32768 0 0) = false ∧ WellFormed (.scheduleRead h 0 (2 ^ 48)) = false := by decide
theorem test_wf_events : WellFormed (.timerExpired 3) = false ∧ WellFormed (.dialImpulseEnd 5 true) = false
    ∧ WellFormed (.dueStart 256) = false ∧ WellFormed (.hammerPulseEnd 25 true) = false ∧ WellFormed (.staggerEnd 13) = false
    ∧ WellFormed (.fadeStep 17) = false := by decide
theorem test_wf_accepts : WellFormed (.identify h) = true ∧ WellFormed (.tuneWrite h 31 1023 255 255 255 16 3000 (-11) 1) = true
    ∧ WellFormed .rowEmission = true := by decide

/-! ## Worked values of the manual -/

/-- R166: the check value of the CRC over the nine ASCII digits. -/
theorem test_crc : crc16 [0x31, 0x32, 0x33, 0x34, 0x35, 0x36, 0x37, 0x38, 0x39] = 0x29B1 := by decide
/-- No row of the table of operations has bits. -/
theorem test_tableWord : decodeTableWord 8 0x01 = none := by decide
/-- R185: frames whose bytes are written out from the rule's field order and widths: TIME-SET to 2025-06-01 at 53,970,000
ms, TIMER-START of timer 2 for 172,800 s with scene 63 over 600 s, SILENCE-WRITE of entry 15, LIGHT-MODE PARTIAL. -/
theorem test_payloads :
    decodeRequest h 0x10 [0x07, 0xE9, 6, 1, 0, 0, 0x03, 0x37, 0x84, 0x50] = .request (.timeSet h 2025 6 1 53970000)
      ∧ decodeRequest h 0x18 [2, 0x02, 0xA3, 0x00, 0x20, 3, 63, 0x02, 0x58] = .request (.timerStart h 2 172800 32 3 63 600)
      ∧ decodeRequest h 0x46 [15, 1, 0x05, 0x00, 0x01, 0x68, 0xFF, 0x3F] = .request (.silenceWrite h 15 1 1280 360 255 63)
      ∧ decodeRequest h 0x74 [1, 14, 3] = .request (.lightMode h 1 14 3) := by decide
/-- R166, R169, R185: the replies with the most fields fit a frame, which holds at most 248 bytes of payload and 6 others. -/
theorem test_reply_lengths :
    ((answered s0 (exec (.lightRead h) s0)).panel.reply.bind Reply.frame).map List.length = some 250
      ∧ ((answered s0 (exec (.swingRead h 1 6) s0)).panel.reply.bind Reply.frame).map List.length = some 188 := by decide
/-- R66, R185: an empty queue reads as its count 0, the next id 1 and 8 free places. -/
theorem test_queue_reply :
    ((answered s0 (exec (.queueRead h) s0)).panel.reply.map (fun r => r.body.bytes)) = some [0, 1, 8] := by decide
/-- R171, R172: IDENTIFY's last byte is the key's place in the list of R172, CHAMBER or PANEL. -/
theorem test_identify_key :
    ((answered turned (exec (.identify h) turned)).panel.reply.bind (fun r => r.body.bytes.getLast?)) = some 0 := by decide
/-- R187: a byte of 0xE4 carries the cells 3, 2, 1, 0. -/
theorem test_scoreByte : (List.range 4).map (fun k => ((0xE4 : Byte).extractLsb' (6 - 2 * k) 2).toNat) = [3, 2, 1, 0] := by decide
/-- R1: 2000-01-01 is day 0, a Saturday. -/
theorem test_epoch : dayNumber 2000 1 1 = 0 ∧ weekdayOf 0 = 6 := by decide
/-- R22's example: a TIME-SET to 14:59:30.000 on 2025-06-01 sets the empty marker to quarter 59 of that day. -/
theorem test_timeSet_marker :
    (answered s0 (exec (.timeSet h 2025 6 1 53970000) s0)).time.marker = some (9283 * 96 + 59) := by decide
/-- R4: 30 February is refused. -/
theorem test_timeSet_refused :
    ((answered s0 (exec (.timeSet h 2025 2 30 0) s0)).panel.reply.map (·.status)) = some .badValue := by decide
/-- "Return after a supply failure": H = 130 at 05:47 is behind by 217 and in CATCH-UP. -/
theorem test_dial_catchUp :
    let d : Dial := { Dial.initial with pos := 130, known := true, cfg := { Dial.initial.cfg with wait := 60 } }
    let x := d.settle .isSet (5 * 3600000 + 47 * 60000) 0
    x.phase = .catchUp ∧ x.target = 347 ∧ x.due = true := by decide
/-- R158: with the range first 14, last 3, PARTIAL forces the ten circuits 4 to 13. -/
theorem test_lightMode_wraps :
    (numbers 1 16).filter (fun c => ((answered s0 (exec (.lightMode h 1 14 3) s0)).circuit c).forced)
      = [4, 5, 6, 7, 8, 9, 10, 11, 12, 13] := by decide
/-- R90: a pulse of strength 1 of a width of 60 ms lasts 30 ms, of strength 3 60 ms. -/
theorem test_testStroke_pulse :
    ((answered kept (exec (.testStroke h 20 1) (hammer20 kept .inhibited))).hammer 20).pulseEnds = some 30
      ∧ ((answered kept (exec (.testStroke h 20 3) (hammer20 kept .inhibited))).hammer 20).pulseEnds = some 60 := by decide
/-- R72: each part is tested for silence before either is tested against its hammers, so the omission of the chime
for its withdrawn bell 20 is reported after that of the silenced strike. -/
theorem test_dueStart_order :
    let e := 9283 * 96 + 52
    let p := perf 1 (.clock e (some (chiming 0)) (some (blow 0))) .waiting false 0
    let s1 := hammer20 { aired with score := { aired.score with cells := [(19, 1)] } } .withdrawn
    let s := { s1 with timers := s1.timers.set 0 { ends := some 1000, mask := 1, action := .none },
                       arbiter := { s1.arbiter with queue := [p] } }
    ((nth (answered s (exec (.dueStart 1) s)).details 8).map (·.detail))
      = some (.performanceOmitted 1 .clock .withdrawn .chime (some e) 0 0) := by decide
/-- R16 and "A calendar": the entry with the year comes before ANY, and ANY before the weekday default. -/
theorem test_dayClass :
    let c : Calendar := { s0.calendar with
      entries := [{ month := 12, day := 25, year := none, cls := 3 }, { month := 12, day := 25, year := some 2025, cls := 4 }] }
    classOf c (dayNumber 2025 12 25) = (4, .year) ∧ classOf c (dayNumber 2026 12 25) = (3, .any)
      ∧ classOf c (dayNumber 2025 12 24) = (0, .weekday) := by decide
/-- R183: in MAINTENANCE a PLAY-TUNE is refused. -/
theorem test_playTune_refused :
    ((answered kept (exec (.playTune h 0 none none 0) kept)).panel.reply.map (·.status)) = some .refusedMode := by decide

/-- R15, R185: a CALENDAR-WRITE whose operation byte is 2 is refused with the number of entries, 0 after reset. -/
theorem test_calendar_operation :
    ((takeFrame .panel 0x16 7 [2, 12, 25, 0, 0, 1] s0).panel.reply.map (fun r => (r.status, r.body)))
      = some (.badValue, .count 0) := by decide

/-! ## Witnesses: states and operands that meet the hypotheses of the statements -/

/-- A check of what the statements about swing bells ask of a state: the ties, the raise queue, and nothing left over. -/
def calm (s : State) : Bool :=
  decide ((∀ c ∈ numbers 1 12, within 1 24 (s.swing c).cfg.bell = true)
      ∧ (∀ c ∈ numbers 1 12, ∀ d ∈ numbers 1 12, c ≠ d → (s.swing c).cfg.bell ≠ (s.swing d).cfg.bell))
    && decide (s.allowance.queue.Nodup ∧ (∀ c ∈ s.allowance.queue, c ∈ numbers 1 12 ∧ (s.swing c).state = .queued)
      ∧ ∀ c ∈ numbers 1 12, (s.swing c).state = .queued → c ∈ s.allowance.queue)
    && decide (s.allowance.headDue = false ∧ s.allowance.releaseDue = false)

theorem of_calm {s : State} (hs : calm s = true) : tiesOk s ∧ raiseQueueOk s ∧ nothingDue s := by
  simp only [calm, Bool.and_eq_true, decide_eq_true_eq] at hs
  obtain ⟨⟨ht, hn, hq, hr⟩, hd⟩ := hs
  exact ⟨ht, ⟨hn, fun c => ⟨hq c, fun hc => hr c hc.1 hc.2⟩⟩, hd⟩

/-- A check of the queue of performances. -/
def queueFine (s : State) : Bool :=
  let q := s.arbiter.queue
  decide (q.length ≤ 8 ∧ q.Pairwise (fun a b => a.before b = true) ∧ (q.map (·.id)).Nodup
    ∧ (∀ p ∈ q, 1 ≤ p.id ∧ p.id ≤ 255) ∧ 1 ≤ s.arbiter.nextId ∧ s.arbiter.nextId ≤ 255
    ∧ (q.filter (·.state == .active)).length ≤ 1 ∧ (q.filter (·.cls == .touch)).length ≤ 1
    ∧ ∀ p ∈ q, p.isClock = true → p.state ≠ .paused)

theorem of_queueFine {s : State} (hs : queueFine s = true) : queueOk s := by
  simp only [queueFine, decide_eq_true_eq] at hs
  exact hs

theorem witness_StepRunsFrontCommand :
    { s0 with pending := [.lightRead h, .rowEmission] }.pending = .lightRead h :: [.rowEmission] := rfl

/-- An event due; none due with the count stopped, and running. -/
theorem witness_StepsNeverStop :
    s0.pending = [] ∧ timeCommand { s0 with elapsed := 2000 } = some (.withdrawConfirmTimeout 1)
      ∧ timeCommand s0 = none ∧ s0.time.stopped = false
      ∧ timeCommand { s0 with time := { s0.time with stopped := true } } = none := by decide

/-- A request taken, and one answered with a status other than OK. -/
theorem witness_RequestsAreAnswered :
    IsRequest (.timeSet h 2025 2 30 0) h 0x10 ∧ Taken h s0
      ∧ ∃ t r, exec (.timeSet h 2025 2 30 0) s0 = .next t ∧ (t.link h.link).reply = some r ∧ r.status ≠ .ok :=
  ⟨⟨rfl, rfl, fun _ _ e => nomatch e⟩, ⟨rfl, rfl⟩, _, _, rfl, rfl, by decide⟩

theorem witness_RequestsNotTaken :
    (IsRequest (.timeRead h) h 0x12 ∧ s0.power.operating = true
        ∧ ((answered s0 (exec (.timeRead h) s0)).link h.link).reply ≠ none)
      ∧ { s0 with power := { s0.power with operating := false } }.power.operating = false
      ∧ isBlockEvent .rowEmission = true :=
  ⟨⟨⟨rfl, rfl, fun _ _ e => nomatch e⟩, rfl, by decide⟩, rfl, rfl⟩

theorem witness_IdentifyAndLinkStats : Taken h s0 ∧ Taken hc s0 ∧ namesRequest 0 = false ∧ namesRequest 255 = false :=
  ⟨⟨rfl, rfl⟩, ⟨rfl, rfl⟩, rfl, rfl⟩

/-- A kind unmasked, one masked and latched, one masked and transient, on the links after reset. -/
theorem witness_NoticeRaised :
    nth (s0.link .panel).unmasked 1 = true ∧ (nth (s0.link .chamber).unmasked 1 = false ∧ latched 1 = true)
      ∧ (nth (s0.link .panel).unmasked 7 = false ∧ latched 7 = false) ∧ 18 ∈ numbers 1 18 := by decide

theorem witness_NoticeRequests :
    Taken h s0 ∧ (([1] : List Nat).length ≤ 18 ∧ ([18, 7] : List Nat).length ≤ 18
        ∧ (∀ k ∈ ([1] : List Nat) ++ [18, 7], 1 ≤ k ∧ k ≤ 18) ∧ (∀ k ∈ ([1] : List Nat), k ∉ ([18, 7] : List Nat)))
      ∧ (∀ ks, some [1, 18] = some ks → ks ≠ [] ∧ ks.length ≤ 18 ∧ ∀ k ∈ ks, 1 ≤ k ∧ k ≤ 18)
      ∧ 1 ≤ 1 ∧ 18 ≤ 18 := by
  refine ⟨⟨rfl, rfl⟩, by decide, ?_, by decide⟩
  intro ks e
  cases e
  decide

/-- The receiver's states, with the length byte at its bounds, a last and an earlier byte of a body, and the two
bytes of a CRC that does not match. -/
theorem witness_ReceiverBytesAndDiscards :
    ((receiving .hunt []).link .panel).receiver.state = .hunt ∧ ((receiving .length []).link .panel).receiver.kept = []
      ∧ ((receiving .body [2, 1]).link .panel).receiver.kept = 2 :: [1] ∧ ([1] : List Byte).length + 1 = (2 : Byte).toNat
      ∧ ([1] : List Byte).length + 1 < (250 : Byte).toNat
      ∧ ((receiving .check [2, 1, 7, 0]).link .panel).receiver.kept = [2, 1, 7] ++ [0]
      ∧ maskBytes (crc16 [2, 1, 7]) ≠ [0, 1] ∧ (0x7E : Byte) ∉ ([2, 1, 7] : List Byte) ++ [0, 1]
      ∧ (1 : Byte).toNat < 2 ∧ 250 < (251 : Byte).toNat
      ∧ ({ receiving .body [2] with elapsed := 51 }.link .panel).receiver.lastByte + 50 < 51 := by decide

/-- A bad CRC among whose kept bytes stands a start byte, from which the next frame begins. -/
theorem witness_ReceiverBytesAndDiscards_rescan :
    let s := receiving .check [3, 1, 0x7E, 2, 5]
    s.power.operating = true ∧ (s.link .panel).receiver.state = .check
      ∧ (s.link .panel).receiver.kept = [3, 1, 0x7E, 2] ++ [5]
      ∧ ([3, 1, 0x7E, 2] : List Byte).length = (([3, 1, 0x7E, 2] : List Byte).headD 0).toNat + 1
      ∧ maskBytes (crc16 [3, 1, 0x7E, 2]) ≠ [5, 6]
      ∧ ((answered s (exec (.receiveByte .panel 6) s)).link .panel).receiver
          = { state := .check, kept := [2, 5, 6], lastByte := 0 } := by decide

/-- A frame of the greatest length; frames that spell a request, an unknown kind, a wrong length and a wrong value. -/
theorem witness_FrameIsTakenWhole :
    s0.power.operating = true ∧ (s0.link .panel).receiver.state = .hunt ∧ 255 < 256
      ∧ (List.replicate 248 (0 : Byte)).length ≤ 248
      ∧ (decodeRequest h 0x01 [] = .request (.identify h) ∧ namesRequest 0xEE = false ∧ decodeRequest h 0x01 [0] = .badLength
        ∧ decodeRequest h 0x06 [2] = .badValue ∧ decodeRequest h 0x16 [2, 12, 25, 0, 0, 1] = .badValue) := by decide

theorem witness_DecodeOfEncode :
    let i : Instr := .faultClearSwing h 12
    WellFormed i = true ∧ headerOf i = some h ∧ kindCode i = some 0x08 ∧ encodePayload i = some [3, 12] := by decide

theorem witness_KeyResetAndRun :
    (s0.withLink .panel { s0.panel with reply := some { kind := 0x87, tag := 7, status := .ok, body := .none } }).panel.reply
        = some { kind := 0x87, tag := 7, status := .ok, body := .none }
      ∧ kept.maintenance = true ∧ aired.maintenance = false ∧ Taken h kept ∧ Taken h aired :=
  ⟨rfl, rfl, rfl, ⟨rfl, rfl⟩, ⟨rfl, rfl⟩⟩

theorem witness_MaintenanceAndOutOfOperation_off : s0.power.operating = true ∧ s0.power.supply = true ∧ s0.power.failInput = false := by decide

/-- The supply-fail input, the reset line, the supply, and both the input and the line, still to be released. -/
theorem witness_RestartWhenReleased :
    let off := fun (p : Power) => { s0 with power := { p with operating := false } }
    (off { s0.power with failInput := true }).power = { s0.power with operating := false, failInput := true }
      ∧ (off { s0.power with resetLine := true }).power = { s0.power with operating := false, resetLine := true }
      ∧ (off { s0.power with supply := false }).power = { s0.power with operating := false, supply := false }
      ∧ (off { s0.power with failInput := true, resetLine := true }).power.resetLine = true := by decide

/-- A day that does not exist; the present instant again; the last instant of the range; a new instant from UNSET. -/
theorem witness_TimeAndZoneSet :
    monthLength 2025 2 < 29 ∧ (1 ≤ 1 ∧ 1 ≤ monthLength 2025 6 ∧ aired.time.validity = .isSet
        ∧ dayNumber 2025 6 1 * 86400000 + 43200000 = aired.time.instant)
      ∧ (31 ≤ monthLength 2099 12 ∧ dayNumber 2099 12 31 * 86400000 + 86399999 ≠ aired.time.instant)
      ∧ s0.time.validity = .unset
      ∧ (s0.time.marker = none ∧ s0.arbiter.queue = [] ∧ aired.time.marker.isSome = true)
      ∧ (let z : Int := max (-120) (min 120 (-500))
         z ≠ 0 ∧ -720 ≤ aired.time.zone + z ∧ aired.time.zone + z ≤ 720 ∧ 0 ≤ (aired.time.instant : Int) + z * 60000
           ∧ (aired.time.instant : Int) + z * 60000 ≤ 3155759999999)
      ∧ ({ aired with time := { aired.time with zone := 720 } }.time.zone + 1 > 720) := by decide

/-- The part before its first TIME-SET with eight classes that neither strike nor chime. -/
def quiet : State :=
  { s0 with calendar := { s0.calendar with
      classes := Vector.replicate 8 { chimeSet := none, strikeHours := false, chimeQuarters := false } } }

/-- No class builds an event: the premise of the marker's equality, at every quarter. -/
theorem witness_TimeAndZoneSet_quiet :
    Taken h quiet ∧ quiet.time.validity = .unset ∧ queueOk quiet
      ∧ ∀ n, firstOf (planChime quiet n) (planStrike quiet n) = none := by
  have silent : ∀ k, slot quiet.calendar.classes k
      = { chimeSet := none, strikeHours := false, chimeQuarters := false } := by
    intro k
    unfold slot
    split
    · simp [quiet]
    · rfl
  refine ⟨⟨rfl, rfl⟩, rfl, by unfold queueOk; decide, fun n => ?_⟩
  simp [planChime, planStrike, silent, firstOf]

theorem witness_ReferenceSettingsAndRangeEnd :
    Taken h s0 ∧ (let s := { aired with elapsed := 150001, time := { aired.time with refState := .locked } }
        s.power.operating = true ∧ s.time.refState = .locked ∧ s.time.lastPulse + 150000 < s.elapsed)
      ∧ (let s := { aired with time := { aired.time with slew := -1, instant := 999 } }
         s.time.stopped = false ∧ s.time.secondServed = false ∧ s.time.slew < 0 ∧ s.time.instant % 1000 = 999)
      ∧ (let s := { aired with time := { aired.time with slew := 1, instant := 998 } }
         0 < s.time.slew ∧ s.time.instant % 1000 = 998 ∧ s.time.instant + 2 ≤ 3155759999999)
      ∧ { aired with time := { aired.time with instant := 3155759999999 } }.time.instant = 3155759999999 :=
  ⟨⟨rfl, rfl⟩, by decide, by decide, by decide, rfl⟩

/-- OFF, and SEEKING with validity UNSET; errors of 2,000 and 2,001 early and late; a step past the range's end. -/
theorem witness_ReferencePulse :
    s0.time.refState = .seeking ∧ s0.time.validity = .unset
      ∧ (let error := fun (m : Nat) => if m < 30000 then (m : Int) else (m : Int) - 60000
         error 2000 = 2000 ∧ error 2001 = 2001 ∧ error 58000 = -2000 ∧ error 57999 = -2001)
      ∧ { aired with time := { aired.time with refState := .off } }.time.refState = .off
      ∧ aired.time.refState ≠ .off
      ∧ (3155759990000 % 60000 = 50000 ∧ (3155759990000 : Int) + 10000 > 3155759999999) := by decide

theorem witness_DayClasses :
    (let e : CalEntry := { month := 2, day := 29, year := none, cls := 7 }
     calendarOk [e] ∧ e.month = (dateOf (dayNumber 2024 2 29)).month ∧ e.day = (dateOf (dayNumber 2024 2 29)).day)
      ∧ aired.calendar.todayDay ≠ aired.time.instant / 86400000
      ∧ ([0, 0, 0, 0, 0, 7, 7] : List Nat).length = 7 ∧ (∀ k ∈ ([0, 0, 0, 0, 0, 7, 7] : List Nat), k ≤ 7)
      ∧ Taken h s0 ∧ 7 ≤ 7 ∧ ∀ k, some 7 = some k → k ≤ 7 := by
  refine ⟨⟨List.pairwise_singleton _ _, rfl, rfl⟩, by decide, rfl, by decide, ⟨rfl, rfl⟩, by decide, ?_⟩
  intro k e
  cases e
  decide

/-- A table with room, and one of 64 entries with no entry of the key. -/
theorem witness_CalendarKeepsKeyOrder :
    Taken h s0 ∧ calendarOk s0.calendar.entries ∧ 29 ≤ monthLength ((none : Option Nat).getD 2000) 2
      ∧ s0.calendar.entries.length < 64
      ∧ (let es : List CalEntry := (List.range 64).map (fun k => { month := 1 + k / 28, day := 1 + k % 28, year := none, cls := 0 })
         64 ≤ es.length ∧ (∀ x ∈ es, x.key ≠ ({ month := 12, day := 31, year := none, cls := 0 } : CalEntry).key)
           ∧ ∃ x ∈ es, x.key = ({ month := 1, day := 1, year := none, cls := 3 } : CalEntry).key) :=
  ⟨⟨rfl, rfl⟩, List.Pairwise.nil, by decide, by decide, by decide⟩

/-- A month, a day and a class outside their ranges. -/
theorem witness_CalendarKeepsKeyOrder_refused :
    Taken h s0 ∧ ¬(13 ≤ 12) ∧ ¬(30 ≤ monthLength ((none : Option Nat).getD 2000) 2) ∧ ¬(8 ≤ 7) := ⟨⟨rfl, rfl⟩, by decide⟩

/-- The four actions at the bounds of their arguments, and a timer that runs out now with each. -/
theorem witness_TimerStartAndExpiry :
    Taken h s0 ∧ 63 < 64 ∧ (1 ≤ 4 ∧ 4 ≤ 4 ∧ 63 ≤ 63)
      ∧ (let s := s0.withTimer 2 { ends := some 0, mask := 63, action := .startProgram 4 }
         s.power.operating = true ∧ (s.timer 2).ends = some 0 ∧ 0 ≤ s.elapsed ∧ (s.timer 2).action = .startProgram 4)
      ∧ (let s := kept.withTimer 1 { ends := some 0, mask := 0, action := .none }
         (s.timer 1).ends = some 0 ∧ (s.timer 1).action = .none ∧ s.maintenance = true) :=
  ⟨⟨rfl, rfl⟩, by decide, by decide, by decide, by decide⟩

theorem witness_TimerStopAndRead : Taken h s0 ∧ (2 = 1 ∨ 2 = 2) ∧ (3 ≠ 1 ∧ 3 ≠ 2) ∧ (s0.timer 1).ends = none := by
  exact ⟨⟨rfl, rfl⟩, by decide, by decide, by decide⟩

/-! ### States in which the invariants hold, and a step of them -/

theorem witness_MaintenanceAndOutOfOperation : Taken h aired ∧ aired.maintenance = false ∧ tiesOk aired ∧ raiseQueueOk aired ∧ nothingDue aired :=
  ⟨⟨rfl, rfl⟩, rfl, of_calm (by decide)⟩

/-- The same with an ACTIVE toll and a WAITING clock event in the queue, and bell 3 CLEARING with its hammer WITHDRAWN. -/
theorem witness_MaintenanceAndOutOfOperation_busy :
    let c := perf 2 (.clock one none (some (blow (aired.now + 62000)))) .waiting false (aired.now + 60000)
    let s0 := swing3 (playing [perf 1 tolling .active true aired.now, c]) .clearing
    let s := s0.withHammer 3 { s0.hammer 3 with state := .withdrawn, confirm := true }
    (tiesOk s ∧ raiseQueueOk s ∧ nothingDue s) ∧ Taken h s ∧ s.maintenance = false
      ∧ (∃ p ∈ s.arbiter.queue, (p.isClock && p.state == .waiting) = false)
      ∧ (∃ p ∈ s.arbiter.queue, (p.isClock && p.state == .waiting) = true ∧ p.event = some one)
      ∧ (s.swing 3).state = .clearing ∧ (s.hammer (s.swing 3).cfg.bell).state = .withdrawn
      ∧ (s.hammer (s.swing 3).cfg.bell).confirm = true ∧ (s.hammer 24).state = .ready :=
  ⟨of_calm (by decide), ⟨rfl, rfl⟩, rfl, by decide, by decide, by decide, by decide, by decide, by decide⟩

theorem witness_ScoreMemoryStaysInForm : scoreOk aired ∧ ∃ t, step aired = .next t :=
  ⟨⟨by decide, fun l => by cases l <;> (unfold Window.inMemory; decide)⟩, _, rfl⟩

theorem witness_PerformanceQueueStaysInOrder :
    queueOk (playing [perf 2 .touch .waiting true aired.now, perf 1 tolling .active true aired.now])
      ∧ ∃ t, step (playing [perf 2 .touch .waiting true aired.now, perf 1 tolling .active true aired.now]) = .next t :=
  ⟨of_queueFine (by decide), _, rfl⟩

theorem witness_TruthMapCounts :
    let s := { aired with touch := { aired.touch with phase := .changes, marks := some [0, 3], changedRows := 2, falseRows := 1 } }
    queueOk s ∧ truthOk s ∧ ∃ t, step s = .next t := by
  refine ⟨of_queueFine (by decide), ⟨fun ms e => ?_, by decide⟩, _, rfl⟩
  cases e
  decide

theorem witness_RaiseQueueIsTheQueuedChannels :
    tiesOk (queued3 aired) ∧ raiseQueueOk (queued3 aired) ∧ nothingDue (queued3 aired) ∧ ∃ t, step (queued3 aired) = .next t := by
  obtain ⟨a, b, c⟩ := of_calm (s := queued3 aired) (by decide)
  exact ⟨a, b, c, _, rfl⟩

theorem witness_HammersStayClearOfSwingingBells :
    tiesOk aired ∧ raiseQueueOk aired ∧ nothingDue aired ∧ hammersClear aired ∧ ∃ t, step aired = .next t := by
  obtain ⟨a, b, c⟩ := of_calm (s := aired) (by decide)
  exact ⟨a, b, c, by unfold hammersClear Hammer.clearOf; decide, _, rfl⟩

theorem witness_CommitmentWithinAllowance :
    withinAllowance aired ∧ loadsOk aired ∧ tiesOk aired ∧ raiseQueueOk aired ∧ nothingDue aired ∧ ∃ t, step aired = .next t := by
  obtain ⟨a, b, c⟩ := of_calm (s := aired) (by decide)
  refine ⟨by unfold withinAllowance; decide, ⟨by decide, ?_⟩, a, b, c, _, rfl⟩
  intro k hk f hf
  have none_ : ∀ k ∈ numbers 1 16, (aired.circuit k).fade = none := by decide
  rw [none_ k hk] at hf
  cases hf

theorem witness_NoticeSetsStayApart : noticesOk aired ∧ ∃ t, step aired = .next t :=
  ⟨⟨by unfold LinkState.noticesOk; decide, by unfold LinkState.noticesOk; decide⟩, _, rfl⟩

/-! ### Dials, the score, performances -/

/-- A dial that is held; one on time, ahead by its whole limit, behind by one step, and ahead by more than its limit. -/
theorem witness_DialDecisionsAndImpulses :
    let d : Dial := { Dial.initial with known := true, cfg := { Dial.initial.cfg with wait := 60 } }
    let n := dialSteps d.cfg.kind
    ({ d with hold := true }.impulse = none ∧ { d with hold := true }.hold = true)
      ∧ (d.fault = false ∧ d.hold = false ∧ d.pos < n ∧ dialTarget d.cfg.kind 0 = 0)
      ∧ (60 < n ∧ (60 + n - 0) % n = d.cfg.wait) ∧ ((0 + n - 719) % n = 1 ∧ d.cfg.wait < (719 + n - 0) % n)
      ∧ (d.cfg.wait < (61 + n - 0) % n ∧ 1 < (0 + n - 61) % n)
      ∧ (let s := aired.withDial 4 { d with due := true, target := 1 }
         s.power.operating = true ∧ dialTarget (s.dial 4).cfg.kind s.time.instant ≠ (s.dial 4).target
           ∧ (s.dial 4).due = true ∧ (s.dial 4).impulse = none ∧ s.time.validity = .isSet)
      ∧ (let s := { aired.withDial 1 { d with impulse := some { polarity := .pos, ends := 500 }, lastEnd := 0 } with elapsed := 500 }
         (s.dial 1).impulse = some { polarity := .pos, ends := 500 } ∧ 500 ≤ s.elapsed ∧ (s.dial 1).impulse ≠ none) := by decide

theorem witness_DialDecisionsAndImpulses_due :
    let s := { aired.withDial 4 { Dial.initial with known := true, due := true, lastEnd := 0 } with elapsed := 500 }
    (s.dial 4).lastEnd + (s.dial 4).cfg.gap ≤ s.elapsed := by decide

/-- R27's table: one channel for each row, and one held while its impulse, begun in CATCH-UP, is in progress. -/
theorem witness_DialDecisionsAndImpulses_state :
    let d : Dial := { Dial.initial with known := true, phase := .catchUp }
    let going := { d with hold := true, impulse := some { polarity := .pos, ends := 500 } }
    (going.fault = false ∧ going.impulse ≠ none ∧ going.stateIn .unset = .catchUp)
      ∧ { going with fault := true }.stateIn .isSet = .fault
      ∧ (d.fault = false ∧ d.impulse = none ∧ { d with hold := true, known := false }.stateIn .unset = .held)
      ∧ { d with known := false }.stateIn .unset = .unknown
      ∧ (d.hold = false ∧ d.known = true ∧ d.stateIn .unset = .idle ∧ d.stateIn .isSet = .catchUp) := by decide

/-- R26: the targets at 00:00, at 12:01 and in the last half-minute of the day. -/
theorem test_dial_targets :
    dialTarget .minute 86400000 = 0 ∧ dialTarget .minute 43260000 = 1 ∧ dialTarget .minute 86399999 = 719
      ∧ dialTarget .half 43260000 = 2 ∧ dialTarget .half 86399999 = 1439 := by decide

/-- The states of a dial channel that DIAL-CONFIG and DIAL-SET-POSITION tell apart. -/
theorem witness_DialConfigAndRequests :
    let d : Dial := { Dial.initial with known := true }
    Taken h aired ∧ 1 ≤ 4 ∧ 4 ≤ 4 ∧ d.stateIn .isSet ∈ [DialState.running, .wait, .catchUp]
      ∧ d.stateIn .unset ∈ [DialState.running, .wait, .catchUp, .idle]
      ∧ (aired.dial 4).stateIn aired.time.validity ∈ [DialState.held, .unknown, .idle, .fault]
      ∧ (aired.dial 4).cfg.kind = .minute ∧ (aired.dial 4).impulse = none ∧ (aired.dial 4).hold = false :=
  ⟨⟨rfl, rfl⟩, by decide⟩

theorem witness_ScoreWindowReadAndProtect :
    Taken h s0 ∧ (1023 ≤ 1023 ∧ 1 ≤ 1 ∧ 1 ≤ 24 ∧ 24 ≤ 24) ∧ ¬(1 ≤ 0) ∧ scoreOk s0 :=
  ⟨⟨rfl, rfl⟩, by decide, by decide, ⟨by decide, fun l => by cases l <;> (unfold Window.inMemory; decide)⟩⟩

/-- A write of 200 cells, one of 201, one whose length does not fit, and one that would go on with no stream open. -/
theorem witness_ScoreWriteStores :
    Taken h s0 ∧ scoreOk s0 ∧ 200 < 201 ∧ (200 ≤ 200 ∧ (List.replicate 50 (0 : Byte)).length = (200 + 3) / 4)
      ∧ (List.replicate 49 (0 : Byte)).length ≠ (200 + 3) / 4 ∧ (s0.link h.link).window.stream = false
      ∧ s0.score.protectedRows.contains 0 = false :=
  ⟨⟨rfl, rfl⟩, ⟨by decide, fun l => by cases l <;> (unfold Window.inMemory; decide)⟩, by decide, by decide, by decide, rfl, rfl⟩

/-- A tune that no position lists, one that a position lists, and lists that fit and that do not. -/
theorem witness_TunesAndChimes :
    Taken h tuned ∧ 31 ≤ 31 ∧ (∀ k, k ≤ 7 → ∀ p, p ≤ 4 → 31 ∉ (nth (slot tuned.chimes k) p).tunes)
      ∧ (slot tuned.tunes 0).valid = true ∧ (slot tuned.tunes 31).valid = false
      ∧ (let cs := setSlot tuned.chimes 7 (setNth (slot tuned.chimes 7) 4 { tunes := [0], pointer := 0, step := 1 })
         0 ∈ (nth (slot cs 7) 4).tunes) :=
  ⟨⟨rfl, rfl⟩, by decide, by decide, by decide, by decide, by decide⟩

/-- A valid tune and a bell at their bounds; the key turned, MAINTENANCE, validity UNSET, a full queue and an empty one. -/
theorem witness_QueueingRequests :
    Taken h tuned ∧ queueOk tuned ∧ (slot tuned.tunes 0).valid = true ∧ h.link = tuned.key ∧ tuned.maintenance = false
      ∧ tuned.time.validity = .isSet ∧ tuned.arbiter.queue.length < 8 ∧ activePerf tuned = none
      ∧ nowSilenced tuned .tune = false ∧ tuneLacks tuned oneRow = false ∧ (tuned.hammer 24).usable = true
      ∧ h.link ≠ turned.key ∧ kept.maintenance = true ∧ s0.time.validity = .unset
      ∧ (playing ((numbers 1 8).map (fun k => perf k tolling .waiting true aired.now))).arbiter.queue.length = 8
      ∧ queueOk (playing ((numbers 1 8).map (fun k => perf k tolling .waiting true aired.now))) :=
  ⟨⟨rfl, rfl⟩, of_queueFine (by decide), by decide, rfl, rfl, rfl, by decide, rfl, by decide, by decide, by decide, by decide, rfl,
    rfl, rfl, of_queueFine (by decide)⟩

/-- A tune that is not valid, one past the last, bells outside 1..24, and a flag that is neither 0 nor 1. -/
theorem witness_QueueingRequests_refused :
    Taken h tuned ∧ h.link = tuned.key ∧ tuned.maintenance = false ∧ tuned.time.validity = .isSet
      ∧ ¬(31 ≤ 31 ∧ (slot tuned.tunes 31).valid = true) ∧ ¬(32 ≤ 31)
      ∧ ¬(1 ≤ 0 ∧ 0 ≤ 24 ∧ 0 ≤ 1) ∧ ¬(1 ≤ 25 ∧ 25 ≤ 24 ∧ 1 ≤ 1) ∧ ¬(1 ≤ 24 ∧ 24 ≤ 24 ∧ 2 ≤ 1)
      ∧ (1 ≤ 24 ∧ 24 ≤ 24 ∧ 1 ≤ 1) := ⟨⟨rfl, rfl⟩, by decide⟩

theorem witness_ClockEventsHushAndDeadline_deadline :
    let s := playing [perf 1 tolling .waiting true aired.now]
    Taken h s ∧ queueOk s ∧ s.power.operating = true ∧ perf 1 tolling .waiting true aired.now ∈ s.arbiter.queue
      ∧ (perf 1 tolling .waiting true aired.now).isClock = false
      ∧ (perf 1 tolling .waiting true aired.now).deadline ≤ s.time.instant :=
  ⟨⟨rfl, rfl⟩, of_queueFine (by decide), rfl, List.mem_singleton_self _, rfl, by decide⟩

/-- HUSH with the ACTIVE toll's entry still in the strike queue, with none, and with a tune and a clock event waiting. -/
theorem witness_ClockEventsHushAndDeadline_hush :
    let c := perf 3 (.clock one none (some (blow (aired.now + 62000)))) .waiting false (aired.now + 60000)
    let s := playing [perf 1 tolling .active true aired.now, perf 2 (.tune 0 oneRow) .waiting true aired.now, c]
    Taken h s ∧ queueOk s ∧ (∀ p ∈ s.arbiter.queue, hushRemoves p = false → p.state = .waiting → s.now < p.dueStart)
      ∧ (∃ p ∈ s.arbiter.queue, hushable false p = true ∧ hasEntries s p.id = false)
      ∧ (∀ p ∈ s.arbiter.queue, hushable false p = true → hasEntries { s with strikes := [entry 1] } p.id = true)
      ∧ (s.arbiter.queue.filter hushRemoves).map (·.id) = [2] ∧ nth (s.link .chamber).unmasked 9 = true :=
  ⟨⟨rfl, rfl⟩, of_queueFine (by decide), by decide, by decide, by decide, by decide, by decide⟩

theorem witness_SettingsAndSilence : Taken h s0 ∧ 24 ≤ 24 ∧ 15 ≤ 15 ∧ 255 < 256 ∧ 63 < 64 ∧ 15 < 16 ∧ 63 < 64 :=
  ⟨⟨rfl, rfl⟩, by decide⟩

/-- 45 s before a quarter the next event can be built; with a full queue it cannot be kept. -/
theorem witness_ClockEventsHushAndDeadline_build :
    let s := { aired with time := { aired.time with instant := (9283 * 96 + 52) * 900000 - 45000, marker := some (9283 * 96 + 51) } }
    s.power.operating = true ∧ nextBuild s = some (9283 * 96 + 52) ∧ s.arbiter.queue.length < 8
      ∧ (planStrike s (9283 * 96 + 52)).isSome = true ∧ planChime s (9283 * 96 + 52) = none
      ∧ firstOf none (planStrike s (9283 * 96 + 52)) = some (((9283 * 96 + 52) * 900000 : Nat) : Int) := by decide

/-- No event can be built at 12:00 with its own event served, though the strike of 13:00 comes after the marker. -/
theorem witness_ClockEventsHushAndDeadline_none :
    nextBuild aired = none ∧ aired.time.validity = .isSet ∧ aired.arbiter.clockStrike.gap ≤ 10000
      ∧ (∀ k ∈ numbers 0 31, let t := (slot aired.tunes k).snap
          t.intro ≤ 255 ∧ t.body ≤ 255 ∧ t.coda ≤ 255 ∧ t.passes ≤ 16 ∧ t.beat ≤ 3000)
      ∧ aired.time.marker = some (one - 4) ∧ one - 4 < one ∧ one * 900000 ≤ 3155759999999
      ∧ (planStrike aired one).isSome = true := by decide

/-- A class that chimes the quarters: the chime of 12:15 in time, both parts of 13:00 too close, and a full queue. -/
theorem witness_ClockEventsHushAndDeadline_chime :
    let s1 : State :=
      { tuned with
        calendar := { tuned.calendar with
          classes := tuned.calendar.classes.set 0 { chimeSet := some 0, strikeHours := true, chimeQuarters := true } }
        chimes := setSlot tuned.chimes 0
          (setNth (setNth (slot tuned.chimes 0) 1 { tunes := [0], pointer := 0, step := 1 }) 4 { tunes := [0], pointer := 0, step := 1 }) }
    let at_ := fun (n m : Nat) => { s1 with time := { s1.time with instant := n, marker := some m } }
    let q := at_ ((one - 3) * 900000 - 45000) (one - 4)
    let z := at_ (one * 900000 - 2001) (one - 1)
    let l := at_ (one * 900000 - 1999) (one - 1)
    (nextBuild q = some (one - 3) ∧ ((planChime q (one - 3)).map (·.first)) = some ((((one - 3) * 900000 : Nat)) : Int)
        ∧ planStrike q (one - 3) = none ∧ nextBuild q ≠ some one)
      ∧ (nextBuild z = some one ∧ (planChime z one).any (fun c => tooLate z c.first) = true
        ∧ (planStrike z one).any (fun k => tooLate z k.first) = false ∧ ((planStrike z one).map (·.count)) = some 1)
      ∧ (nextBuild l = some one ∧ (planChime l one).any (fun c => tooLate l c.first) = true
        ∧ (planStrike l one).any (fun k => tooLate l k.first) = true)
      ∧ (let f := l.withQueue ((numbers 1 8).map (fun k => perf k tolling .waiting true aired.now))
         nextBuild f = some one ∧ 8 ≤ f.arbiter.queue.length)
      ∧ nextBuild (at_ (one * 900000) one) = none := by decide

/-- A toll at its due start with nothing ACTIVE and behind a toll; a clock event with a strike part behind a toll that
gives way, after the served marker. -/
theorem witness_DueStartArbitration :
    let p := perf 1 tolling .waiting false aired.now
    let k : StrikePart := { bell := 24, strength := 3, count := 1, interval := 2500, first := aired.now + 2000 }
    let c := perf 2 (.clock (9283 * 96 + 49) none (some k)) .waiting false aired.now
    let a := perf 3 tolling .active true aired.now
    (queueOk (playing [p]) ∧ p ∈ (playing [p]).arbiter.queue ∧ activePerf (playing [p]) = none
        ∧ nowSilenced (playing [p]) .toll = false ∧ ((playing [p]).hammer 20).usable = true)
      ∧ (queueOk (playing [c, a]) ∧ c ∈ (playing [c, a]).arbiter.queue ∧ (∃ m, (playing [c, a]).time.marker = some m ∧ m < 9283 * 96 + 49)
        ∧ activePerf (playing [c, a]) = some a ∧ a.yieldsToClock = true ∧ eventSilenced (playing [c, a]) (9283 * 96 + 49) .hour = false
        ∧ ((playing [c, a]).hammer 24).usable = true) :=
  ⟨⟨of_queueFine (by decide), by decide, by decide, by decide, by decide⟩,
    ⟨of_queueFine (by decide), by decide, ⟨_, rfl, by decide⟩, by decide, by decide, by decide, by decide⟩⟩

/-- What the test at a due start omits: in MAINTENANCE, silenced, lacking its hammer, at the marker; both parts of a clock
event, and one of them with the other starting or meeting a toll that does not give way. -/
theorem witness_DueStartArbitration_omissions :
    let p := perf 1 tolling .waiting false aired.now
    let t := perf 1 .touch .waiting false aired.now
    let c := perf 1 (.clock one (some (chiming (aired.now + 2000))) (some (blow (aired.now + 2000)))) .waiting false aired.now
    let deaf := perf 2 (.toll 20 1 1000 2 true) .active true aired.now
    let lost := hammer20 (scored [c]) .withdrawn
    let met := hammer20 (scored [c, deaf]) .withdrawn
    let mute := (scored [c]).withHammer 24 { (scored [c]).hammer 24 with state := .withdrawn }
    (queueOk (playing [p]) ∧ p.startDue (playing [p]).now = true ∧ nowSilenced (hushed (playing [p])) .toll = true
        ∧ nowSilenced (playing [p]) .toll = false ∧ ((hammer20 (playing [p]) .withdrawn).hammer 20).usable = false)
      ∧ (queueOk (playing [t]) ∧ nowSilenced (hushed (playing [t])) .touch = true)
      ∧ (queueOk (hushed (scored [c])) ∧ (∀ a ∈ [c], heldBack (scored [c]) a = false)
        ∧ eventSilenced (hushed (scored [c])) one .quarters = true ∧ eventSilenced (hushed (scored [c])) one .hour = true
        ∧ (scored [c]).time.marker = some (one - 4))
      ∧ (eventSilenced lost one .quarters = false ∧ tuneLacks lost (chiming 0).snap = true ∧ (lost.hammer 24).usable = true
        ∧ activePerf lost = none)
      ∧ (queueOk met ∧ activePerf met = some deaf ∧ deaf.yieldsToClock = false ∧ tuneLacks met (chiming 0).snap = true
        ∧ (met.hammer 24).usable = true ∧ ∀ a ∈ met.arbiter.queue, heldBack met a = false)
      ∧ (tuneLacks mute (chiming 0).snap = false ∧ (mute.hammer 24).usable = false ∧ eventSilenced mute one .quarters = false) :=
  ⟨⟨of_queueFine (by decide), by decide, by decide, by decide, by decide⟩, ⟨of_queueFine (by decide), by decide⟩,
    ⟨of_queueFine (by decide), by decide, by decide, by decide, by decide⟩, by decide,
    ⟨of_queueFine (by decide), by decide, by decide, by decide, by decide, by decide⟩, by decide⟩

theorem witness_TollStrokeEmitted :
    let p := perf 1 tolling .active true aired.now
    let s := playing [p]
    s.power.operating = true ∧ queueOk s ∧ p ∈ s.arbiter.queue ∧ p.state = .active ∧ p.source = tolling ∧ p.origin = some aired.now
      ∧ p.cursor + 1 < 2 ∧ p.stopped = none ∧ heldBack s p = false ∧ s.strikes.length < 48
      ∧ aired.now - ((s.hammer 20).lead : Int) ≤ (s.time.instant : Int) + 1500
      ∧ (s.hammer 20).usable = true ∧ ((hammer20 s .fault).hammer 20).usable = false :=
  ⟨rfl, of_queueFine (by decide), by decide, rfl, rfl, rfl, by decide, rfl, by decide, by decide, by decide, by decide, by decide⟩

/-- Rows of each class: the one row of a tune, which ends it once taken; a toll's stroke with one to follow; the chime row
before an hour stroke; a row of a touch, and the row at the maximum of changed rows. -/
theorem witness_RowEmission :
    let tune := perf 1 (.tune 0 oneRow) .active true aired.now
    let toll := perf 1 tolling .active true aired.now
    let clock := perf 1 (.clock one (some (chiming aired.now)) (some (blow (aired.now + 2000)))) .active true aired.now
    let touch := perf 1 .touch .active true (aired.now - 1800)
    let u : Touch :=
      { hunting.touch with
        status := .ringing, id := 1, snap := slot hunting.methods 0, beat := 200, opening := 2, maximum := 1, phase := .changes
        row := [1, 2, 3, 4], rowNumber := some 1, leadNumber := 1, changeIndex := 1, marks := some [0] }
    let ringing : State := { hunting.withQueue [touch] with touch := u }
    (queueOk (scored [tune]) ∧ emissible (scored [tune]) tune = true ∧ (rowAt (scored [tune]) tune).strokes.length = 1)
      ∧ (emissible (playing [tune]) tune = true ∧ (rowAt (playing [tune]) tune).strokes = [])
      ∧ (queueOk (playing [toll]) ∧ emissible (playing [toll]) toll = true)
      ∧ (queueOk (scored [clock]) ∧ emissible (scored [clock]) clock = true ∧ clock.advance = atRow clock 0 true
        ∧ (rowAt (scored [clock]) clock.advance).landing = aired.now + 2000)
      ∧ (queueOk ringing ∧ emissible ringing touch = true ∧ (rowAt ringing touch).strokes.map (·.bell) = [2, 1, 4, 3]
        ∧ u.take.changedRows = 1) :=
  ⟨⟨of_queueFine (by decide), by decide, by decide⟩, by decide, ⟨of_queueFine (by decide), by decide⟩,
    ⟨of_queueFine (by decide), by decide, by decide, by decide⟩, ⟨of_queueFine (by decide), by decide, by decide, by decide⟩⟩

/-- Rows that wait: stopped, with nothing left, holding back, too early by 1 ms, and with 48 entries in the strike queue;
strokes of each way of booking: outside 1..24, on a hammer withdrawn, slipping by more than its limit, and in time. -/
theorem witness_RowEmission_waits :
    let toll := perf 1 tolling .active true aired.now
    let c := { perf 2 (.clock one none (some (blow (aired.now + 1000)))) .waiting true aired.now with firstLanding := aired.now + 1000 }
    let late := { toll with origin := some (aired.now + 1601) }
    let busy := { playing [toll] with strikes := List.replicate 48 (entry 2) }
    let stroke := fun (b : Int) => ({ bell := b, strength := 3, wanted := aired.now + 100 } : Stroke)
    let full := { aired with strikes := [entry 1] }
    (queueOk (playing [{ toll with stopped := some .hushed }]) ∧ remains (playing [toll]) (atRow toll 2 false) = false)
      ∧ (queueOk (playing [c, toll]) ∧ heldBack (playing [c, toll]) toll = true)
      ∧ (earliestWanted (playing [late]) (rowAt (playing [late]) late) = aired.now + 1501)
      ∧ (queueOk busy ∧ 48 < (rowAt busy toll).strokes.length + busy.strikes.length)
      ∧ ((stroke 0).inRange = false ∧ (stroke 25).inRange = false ∧ (stroke 24).inRange = true
        ∧ ((hammer20 aired .withdrawn).hammer 20).usable = false
        ∧ bookedUntil full 20 = some (aired.now + 500) ∧ actuationFor full (stroke 20) - wantedActuation full (stroke 20) = 500
        ∧ actuationFor full (stroke 24) = wantedActuation full (stroke 24)) :=
  ⟨⟨of_queueFine (by decide), by decide⟩, ⟨of_queueFine (by decide), by decide⟩, by decide, ⟨of_queueFine (by decide), by decide⟩,
    by decide⟩

/-- Steps of an hour by ZONE-SET, forward past a waiting clock event and back, with an ACTIVE clock and with a hold. -/
theorem witness_StepAndResumption :
    let c := perf 2 (.clock one none (some (blow (aired.now + 62000)))) .waiting false (aired.now + 60000)
    let toll := perf 1 tolling .active true aired.now
    let k := perf 3 (.clock (one - 4) none (some (blow aired.now))) .active true aired.now
    let q := { perf 4 (.tune 0 oneRow) .paused true aired.now with origin := some aired.now }
    let s := playing [k, q, c]
    let held := playing [toll, { c with firstLanding := aired.now }]
    Taken h s ∧ queueOk s ∧ nothingDue s ∧ s.time.validity = .isSet ∧ s.time.marker = some (one - 4) ∧ s.allowance.queue = []
      ∧ (-120 ≤ 60 ∧ (60 : Int) ≤ 120 ∧ s.time.zone + 60 ≤ 720 ∧ s.time.instant + 3600000 ≤ 3155759999999)
      ∧ (-720 ≤ s.time.zone + (-120) ∧ (0 : Int) ≤ (s.time.instant : Int) + (-120) * 60000)
      ∧ (activePerf s = some k ∧ k.isClock = true
        ∧ s.arbiter.queue.find? (fun p => p.state == .paused && p.stopped.isNone) = some q ∧ q.isClock = false)
      ∧ (queueOk held ∧ activePerf held = some toll ∧ heldBack held toll = true ∧ toll.origin ≠ none)
      ∧ (let p := playing [c]
         let passed := { p with time := { p.time with instant := p.time.instant + 3600000 } }
         passedEvents passed = [one]) :=
  ⟨⟨rfl, rfl⟩, of_queueFine (by decide), ⟨rfl, rfl⟩, rfl, rfl, rfl, by decide, by decide, by decide,
    ⟨of_queueFine (by decide), by decide, by decide, by decide⟩, by decide⟩

/-- The last entry of a clock's last stroke, with a toll PAUSED and with one WAITING; and the clock event of a hold that is
silenced at its due start. -/
theorem witness_StepAndResumption_offered :
    let k := { atRow (perf 1 (.clock one none (some (blow aired.now))) .active true aired.now) 1 true with stopped := none }
    let paused := { perf 2 tolling .paused true aired.now with origin := some aired.now }
    let waits := perf 2 tolling .waiting true aired.now
    let s := { playing [k, paused] with strikes := [entry 1] }
    let w := { playing [k, waits] with strikes := [entry 1] }
    let c := { perf 3 (.clock one none (some (blow (aired.now + 1000)))) .waiting false aired.now with firstLanding := aired.now + 1000 }
    let toll := perf 4 tolling .active true aired.now
    let held := hushed (playing [c, toll])
    (queueOk s ∧ (entry 1).actuation ≤ s.time.instant ∧ (s.hammer 20).state = .ready ∧ remains s k = false ∧ k.isClock = true
        ∧ s.arbiter.queue.find? (fun x => x.state == .paused && x.stopped.isNone) = some paused)
      ∧ (queueOk w ∧ w.maintenance = false ∧ w.arbiter.queue.find? (fun x => x.state == .paused && x.stopped.isNone) = none
        ∧ w.arbiter.queue.find? (fun x => x.state == .waiting && decide (x.dueStart ≤ (w.time.instant : Int))) = some waits
        ∧ nowSilenced w .toll = false ∧ (w.hammer 20).usable = true)
      ∧ (queueOk held ∧ c.startDue held.now = true ∧ eventSilenced held one .hour = true ∧ activePerf held = some toll
        ∧ heldBack held toll = true ∧ ∀ x ∈ held.arbiter.queue, x.isClock = true → x.state = .waiting → x = c) :=
  ⟨⟨of_queueFine (by decide), by decide, by decide, by decide, by decide, by decide⟩,
    ⟨of_queueFine (by decide), by decide, by decide, by decide, by decide, by decide⟩,
    ⟨of_queueFine (by decide), by decide, by decide, by decide, by decide, by decide⟩⟩

/-! ### Hammers and ringing -/

theorem witness_HammerRequestsAndBooking :
    Taken h aired ∧ Taken h kept ∧ 1 ≤ 24 ∧ 24 ≤ 24 ∧ (20 + 30 < 120) ∧ (120 ≤ 20 + 100)
      ∧ (∀ e ∈ aired.strikes, e.bell ≠ 24) ∧ (aired.hammer 24).state = .ready ∧ ((hammer20 kept .inhibited).hammer 20).state = .inhibited
      ∧ (hammer20 kept .inhibited).maintenance = true ∧ bookedUntil (hammer20 kept .inhibited) 20 = none
      ∧ (∃ e ∈ ({ aired with strikes := [entry 1] }).strikes, e.bell = 20) :=
  ⟨⟨rfl, rfl⟩, ⟨rfl, rfl⟩, by decide, by decide, by decide, by decide, by decide, by decide, by decide, rfl, by decide, by decide⟩

/-- A RECOVERING hammer whose recovery end lies ahead, and one whose has come. -/
theorem witness_HammerRequestsAndBooking_recovering :
    let at_ := fun (r : Int) => aired.withHammer 24 { aired.hammer 24 with state := .recovering, recoveryEnd := some r }
    (Taken h (at_ (aired.now + 1)) ∧ ((at_ (aired.now + 1)).hammer 24).state = .recovering
        ∧ ((at_ (aired.now + 1)).hammer 24).recoveryEnd = some (aired.now + 1) ∧ (aired.time.instant : Int) < aired.now + 1)
      ∧ (∀ e ∈ (at_ aired.now).strikes, e.bell ≠ 24) ∧ ((at_ aired.now).hammer 24).recoveryEnd = some aired.now
      ∧ aired.now ≤ ((at_ aired.now).time.instant : Int) :=
  ⟨⟨⟨rfl, rfl⟩, by decide⟩, by decide⟩

/-- Hammer 24 in each state that the withdraw and engage requests tell apart, and a performance that a withdraw request
leaves with nothing. -/
theorem witness_HammerRequestsAndBooking_states :
    let at_ := fun (x : HammerState) => (aired.withHammer 24 { aired.hammer 24 with state := x }).hammer 24
    let p := atRow (perf 1 tolling .active true aired.now) 2 false
    let s := { playing [p] with strikes := [entry 1] }
    (at_ .striking).state = .striking ∧ (at_ .withdrawing).fitted = true ∧ (at_ .withdrawing).watch = none
      ∧ (at_ .withdrawing).withdrawOutput = false ∧ (at_ .fault).faultCause ≠ some .engage ∧ (at_ .withdrawn).confirm = false
      ∧ (queueOk s ∧ p ∈ s.arbiter.queue ∧ remains s p = false ∧ (∀ k ∈ s.strikes, k.id = p.id → k.bell = 20)
        ∧ (s.strikes.filter (fun e => e.bell == 20)).getLast? = some (entry 1)) :=
  ⟨by decide, by decide, by decide, by decide, by decide, by decide, of_queueFine (by decide), by decide, by decide, by decide,
    by decide⟩

theorem witness_StrikeEntryTaken :
    let s := { playing [perf 1 tolling .active true aired.now] with strikes := [entry 1, entry 1] }
    s.power.operating = true ∧ queueOk s ∧ s.strikes = entry 1 :: [entry 1] ∧ (entry 1).actuation ≤ s.time.instant
      ∧ (s.hammer 20).state = .ready ∧ (∃ r ∈ [entry 1], r.id = (entry 1).id)
      ∧ ((hammer20 s .inhibited).hammer 20).state ∈ [HammerState.withdrawing, .withdrawn, .engaging, .inhibited, .fault]
      ∧ (let p := { perf 1 tolling .active true aired.now with cursor := 2 }
         remains (playing [p]) p = false ∧ ∀ r ∈ ([] : List Entry), r.id ≠ 1) :=
  ⟨rfl, of_queueFine (by decide), rfl, by decide, by decide, by decide, by decide, by decide⟩

/-- The first entry's hammer RECOVERING and STRIKING, each to be READY at this moment, and STRIKING with its fault input
asserted as its pulse ends. -/
theorem witness_StrikeEntryTaken_ends :
    let s := { playing [perf 1 tolling .active true aired.now] with strikes := [entry 1, entry 1] }
    let at_ := fun (x : HammerState) (f : Bool) => s.withHammer 20
      { s.hammer 20 with state := x, pulseEnds := some 0, recoveryEnd := some aired.now, faultInput := f }
    (queueOk s ∧ (at_ .recovering false).maintenance = false ∧ ((at_ .recovering false).hammer 20).state = .recovering
        ∧ ((at_ .recovering false).hammer 20).recoveryEnd = some aired.now)
      ∧ ((at_ .striking false).hammer 20).state = .striking ∧ ((at_ .striking false).hammer 20).pulseEnds = some 0
      ∧ ((at_ .striking false).hammer 20).faultInput = false ∧ ((at_ .striking true).hammer 20).faultInput = true
      ∧ nothingDue (at_ .striking true) :=
  ⟨⟨of_queueFine (by decide), by decide⟩, by decide, by decide, by decide, by decide, ⟨rfl, rfl⟩⟩

theorem witness_HammerPulses :
    let s := aired.withHammer 24 { aired.hammer 24 with state := .striking, pulseEnds := some 0, recoveryEnd := some aired.now }
    let w := aired.withHammer 24 { aired.hammer 24 with state := .withdrawing, pulseEnds := some 0 }
    let r := aired.withHammer 24 { aired.hammer 24 with state := .recovering, recoveryEnd := some aired.now }
    s.power.operating = true ∧ nothingDue s ∧ (s.hammer 24).state = .striking ∧ (s.hammer 24).pulseEnds = some 0
      ∧ (s.hammer 24).recoveryEnd = some aired.now ∧ ((w.hammer 24).state = .withdrawing ∧ (w.hammer 24).withdrawOutput = false
      ∧ (w.hammer 24).confirm = false ∧ (w.hammer 24).pulseEnds = some 0)
      ∧ ((r.hammer 24).state = .recovering ∧ aired.now ≤ (r.time.instant : Int)) :=
  ⟨rfl, ⟨rfl, rfl⟩, by decide, by decide, by decide, by decide, by decide⟩

/-- The end of a pulse that was in flight at a withdraw request, with the confirm input asserted already, of a bell whose
channel waits in CLEARING and of one with no channel. -/
theorem witness_HammerPulses_withdrawing :
    let at_ := fun (b : Nat) (s : State) => s.withHammer b
      { s.hammer b with state := .withdrawing, withdrawOutput := false, confirm := true, pulseEnds := some 0 }
    let s := at_ 3 (swing3 aired .clearing)
    (nothingDue s ∧ (s.hammer 3).state = .withdrawing ∧ (s.hammer 3).withdrawOutput = false ∧ (s.hammer 3).confirm = true
        ∧ (s.hammer 3).pulseEnds = some 0 ∧ tiedChannel s 3 = some 3 ∧ (s.swing 3).state = .clearing)
      ∧ tiedChannel (at_ 24 aired) 24 = none ∧ ((at_ 24 aired).hammer 24).confirm = true :=
  ⟨⟨⟨rfl, rfl⟩, by decide⟩, by decide⟩

theorem witness_HammerConfirms :
    let w := (swing3 aired .clearing)
    let e := (swing3 aired .restoring).withHammer 3 { aired.hammer 3 with state := .engaging, confirm := true }
    w.power.operating = true ∧ tiedChannel w 3 = some 3 ∧ nothingDue w ∧ (w.hammer 3).state = .withdrawing
      ∧ (w.hammer 3).withdrawOutput = true ∧ (w.hammer 3).watch ≠ none ∧ (w.swing 3).state = .clearing
      ∧ (tiedChannel e 3 = some 3 ∧ (e.hammer 3).state = .engaging ∧ (e.hammer 3).actuatorFault = false ∧ (e.swing 3).state = .restoring)
      ∧ ((aired.withHammer 3 { aired.hammer 3 with state := .withdrawn }).hammer 3).fitted = true :=
  ⟨rfl, by decide, ⟨rfl, rfl⟩, by decide, by decide, by decide, by decide, by decide, by decide⟩

/-- A WITHDRAWING hammer, its watch running, whose channel is SETTLING. -/
theorem witness_HammerConfirms_settling :
    let s := swing3 aired .settling
    s.power.operating = true ∧ tiedChannel s 3 = some 3 ∧ (s.hammer 3).state = .withdrawing ∧ (s.hammer 3).withdrawOutput = true
      ∧ (s.hammer 3).watch ≠ none ∧ (s.swing 3).state ≠ .clearing := by decide

theorem witness_HammerWatchesRunOut :
    let w := { swing3 aired .clearing with elapsed := 2000 }
    let e := { (swing3 aired .restoring).withHammer 3 { aired.hammer 3 with state := .engaging, confirm := true } with elapsed := 2000 }
    (w.power.operating = true ∧ 3 ∈ numbers 1 12 ∧ (w.swing 3).cfg.bell = 3 ∧ (w.hammer 3).watch = some 2000 ∧ 2000 ≤ w.elapsed
        ∧ (w.hammer 3).state = .withdrawing ∧ (w.swing 3).state = .clearing)
      ∧ (tiesOk w ∧ raiseQueueOk w ∧ nothingDue w) ∧ (tiesOk e ∧ raiseQueueOk e ∧ nothingDue e)
      ∧ (e.hammer 3).state = .engaging ∧ (e.hammer 3).watch = some 2000 ∧ (e.swing 3).state = .restoring
      ∧ (swing3 aired .settling).swing 3 = { (aired.swing 3) with cfg := { (aired.swing 3).cfg with fitted := true } } :=
  ⟨by decide, of_calm (by decide), of_calm (by decide), by decide, by decide, by decide, by decide⟩

theorem witness_FaultClearNamesItsBlock :
    Taken h s0 ∧ (0 : Byte).toNat < 1 ∧ 4 < (5 : Byte).toNat ∧ 24 < (25 : Byte).toNat ∧ 12 < (13 : Byte).toNat :=
  ⟨⟨rfl, rfl⟩, by decide⟩

theorem witness_FaultClearEffects :
    Taken h aired ∧ nothingDue aired ∧ ((aired.withDial 4 { aired.dial 4 with fault := true }).dial 4).fault = true
      ∧ ((hammer20 aired .fault).hammer 20).state = .fault ∧ tiedChannel (hammer20 aired .fault) 20 = none
      ∧ (aired.hammer 24).state ∈ [HammerState.ready, .striking, .recovering, .inhibited]
      ∧ (aired.hammer 1).state ∈ [HammerState.withdrawing, .withdrawn, .engaging]
      ∧ ((swing3 aired .fault).swing 3).state = .fault ∧ tiesOk (swing3 aired .fault) ∧ nothingDue (swing3 aired .fault) :=
  ⟨⟨rfl, rfl⟩, ⟨rfl, rfl⟩, by decide, by decide, by decide, by decide, by decide, by decide, (of_calm (by decide)).1, ⟨rfl, rfl⟩⟩

/-- Changes of four bells: none, two and four places made; rows of rounds. -/
theorem witness_RowsChangesAndRanks :
    changeValid (rounds 4).length 0 = true ∧ changeValid (rounds 4).length 0b1001 = true ∧ changeValid (rounds 4).length 0b1111 = true
      ∧ [2, 1, 4, 3].Perm (rounds 4) ∧ rank [2, 1, 4, 3] ≠ rank (rounds 4) := by decide

/-- A touch about to take the last opening row, a changed row, a row that a bob changes, and the return to rounds. -/
theorem witness_RowsChangesAndRanks_touch :
    let u : Touch :=
      { hunting.touch with
        snap := slot hunting.methods 0, opening := 2, phase := .opening, row := [1, 2, 3, 4], rowNumber := some 0
        calls := [{ lead := 1, kind := .bob }], leadNumber := 1, changeIndex := 1, marks := some [] }
    let v := { u with phase := .changes, rowNumber := some 1, marks := some [0] }
    u.nextRowNumber + 1 = u.opening ∧ (u.take.phase = .changes ∧ u.take.marks = some [0]) ∧ v.form = [2, 1, 4, 3]
      ∧ ({ v with changeIndex := 2 }.form = applyChange 0b0011 [1, 2, 3, 4] ∧ { v with changeIndex := 2 }.take.nextCall = 1)
      ∧ { v with row := [2, 1, 4, 3] }.form = rounds 4 := by decide

/-- A lead of 2 and of 32 changes that are valid, one with a change that is not, and the bells of a method. -/
theorem witness_MethodAndSwingRecords_methods :
    7 ≤ 7 ∧ ([21, 22, 23, 24] : List Nat).Nodup ∧ (List.replicate 32 (0 : BitVec 16)).length = 32
      ∧ changeValid 4 0 = true ∧ changeValid 4 0b1001 = true ∧ changeValid 4 0b0001 = false := by decide

/-- A channel that is not DOWN, one that is, a bell tied to another channel and one tied to none, and lists of entries. -/
theorem witness_MethodAndSwingRecords :
    Taken h aired ∧ (aired.swing 12).state ≠ .down ∧ ((swing3 aired .down).swing 3).state = .down ∧ ((swing3 aired .down).swing 3).start = none
      ∧ (∃ d ∈ numbers 1 12, d ≠ 3 ∧ (aired.swing d).cfg.bell = 12) ∧ ¬(∃ d ∈ numbers 1 12, d ≠ 3 ∧ (aired.swing d).cfg.bell = 24)
      ∧ ([(12, 120000)].map (·.1)).Nodup ∧ ¬([(12, 0), (12, 0)].map (·.1)).Nodup := ⟨⟨rfl, rfl⟩, by decide⟩

theorem witness_TouchStartSetsContext :
    Taken h hunting ∧ queueOk hunting ∧ h.link = hunting.key ∧ hunting.maintenance = false ∧ hunting.time.validity = .isSet
      ∧ (slot hunting.methods 0).valid = true ∧ [(1, 0), (9999, 0)].Pairwise (fun a b => a.1 < b.1)
      ∧ (∀ c ∈ [(1, 0), (9999, 0)], 1 ≤ c.1 ∧ c.1 ≤ 9999
        ∧ (c.2 = 0 ∧ (slot hunting.methods 0).bob.isSome = true ∨ c.2 = 1 ∧ (slot hunting.methods 0).single.isSome = true))
      ∧ (∀ p ∈ hunting.arbiter.queue, p.cls ≠ .touch) ∧ hunting.arbiter.queue.length < 8 ∧ nowSilenced hunting .touch = false
      ∧ activePerf hunting = none
      ∧ (∃ p ∈ (playing [perf 1 .touch .waiting true aired.now]).arbiter.queue, p.cls = .touch) :=
  ⟨⟨rfl, rfl⟩, of_queueFine (by decide), rfl, rfl, rfl, by decide, by decide, by decide, by decide, by decide, by decide, by decide,
    by decide⟩

/-- Each refusal of TOUCH-START: a method number, a record that is not valid, leads out of order, a single that the method
lacks, and a full queue; and the touch silenced at once. -/
theorem witness_TouchStartSetsContext_refused :
    Taken h hunting ∧ ¬(8 ≤ 7) ∧ (slot hunting.methods 1).valid = false ∧ ¬[(2, 0), (1, 0)].Pairwise (fun a b => a.1 < b.1)
      ∧ (slot hunting.methods 0).single.isSome = false ∧ h.link ≠ turned.key ∧ s0.time.validity = .unset
      ∧ (let s := hunting.withQueue ((numbers 1 8).map (fun k => perf k tolling .waiting true aired.now))
         queueOk s ∧ s.arbiter.queue.length = 8 ∧ ∀ p ∈ s.arbiter.queue, p.cls ≠ .touch)
      ∧ (queueOk (hushed hunting) ∧ nowSilenced (hushed hunting) .touch = true ∧ activePerf (hushed hunting) = none) :=
  ⟨⟨rfl, rfl⟩, by decide, by decide, by decide, by decide, by decide, rfl, ⟨of_queueFine (by decide), by decide, by decide⟩,
    of_queueFine (by decide), by decide, by decide⟩

/-! ### Swing bells -/

/-- A start of channel 3 at once, and after 120 s, with the key, the mode and the silence as each test wants them. -/
theorem witness_SwingStarts :
    let s := swing3 aired .down
    Taken h s ∧ (tiesOk s ∧ raiseQueueOk s ∧ nothingDue s) ∧ [(3, 0), (4, 120000)] ≠ ([] : List (Nat × Nat))
      ∧ (∀ e ∈ [(3, 0), (4, 120000)], e.1 ∈ numbers 1 12) ∧ ([(3, 0), (4, 120000)].map (·.1)).Nodup
      ∧ h.link = s.key ∧ s.maintenance = false ∧ swingSilenced s = false
      ∧ (s.swing 3).cfg.fitted = true ∧ (s.swing 3).state = .down ∧ (s.swing 3).start = none ∧ (s.swing 4).cfg.fitted = false
      ∧ h.link ≠ turned.key ∧ kept.maintenance = true
      ∧ swingSilenced (s.withTimer 1 { ends := some 1, mask := 63, action := .none }) = true :=
  ⟨⟨rfl, rfl⟩, of_calm (by decide), by decide, by decide, by decide, rfl, rfl, by decide, by decide, by decide, by decide, by decide,
    by decide, rfl, by decide⟩

/-- Lists that are empty, too long, name channel 0 or 13, or name one twice; program numbers outside 1..4, and an empty
program. -/
theorem witness_SwingStarts_refused :
    Taken h aired ∧ h.link = aired.key ∧ aired.maintenance = false
      ∧ 12 < ((numbers 0 12).map (fun c => (c, 0))).length ∧ 0 ∉ numbers 1 12 ∧ 13 ∉ numbers 1 12
      ∧ ¬([(3, 0), (3, 5)].map (·.1)).Nodup ∧ 0 ∉ numbers 1 4 ∧ 5 ∉ numbers 1 4 ∧ 4 ∈ numbers 1 4
      ∧ (nth aired.programs 4).entries = [] := ⟨⟨rfl, rfl⟩, by decide⟩

theorem witness_SwingStop :
    Taken h (queued3 aired) ∧ (tiesOk (queued3 aired) ∧ raiseQueueOk (queued3 aired) ∧ nothingDue (queued3 aired))
      ∧ ((some [3]).getD (numbers 1 12)).Nodup ∧ (numbers 1 12).Nodup ∧ (∀ c ∈ numbers 1 12, c ∈ numbers 1 12)
      ∧ ((queued3 aired).swing 3).state = .queued ∧ calm (swing3 aired .clearing) = true ∧ calm (swing3 aired .raising) = true
      ∧ calm (swing3 aired .down) = true :=
  ⟨⟨rfl, rfl⟩, of_calm (by decide), by decide, by decide, fun _ hc => hc, by decide, by decide, by decide, by decide⟩

/-- A stagger that ends now, with the queue empty and not, where the load fits and where it does not; a head that has
waited 120 s. -/
theorem witness_StaggerEndAndRefusal :
    let p : StartPending := { ends := 0, duration := 0, program := 0, request := 1, place := 0 }
    let d := swing3 aired .down
    let s := d.withSwing 3 { d.swing 3 with start := some p }
    let r := { queued3 aired with elapsed := 120000 }
    (s.power.operating = true ∧ (s.swing 3).state = .down ∧ (s.swing 3).start = some p ∧ p.ends ≤ s.elapsed ∧ startsBehind s p = false
        ∧ swingSilenced s = false ∧ s.allowance.queue = [] ∧ (s.swing 3).cfg.raiseLoad + commitment s ≤ s.allowance.units)
      ∧ (tiesOk s ∧ raiseQueueOk s ∧ nothingDue s)
      ∧ (s.hammer 3).fitted = true ∧ (s.hammer 3).confirm = false
      ∧ ((s.withHammer 3 { s.hammer 3 with state := .ready }).hammer 3).state ∈ [HammerState.ready, .recovering, .inhibited]
      ∧ ({ s with allowance := { s.allowance with units := 9 } }).allowance.units < (s.swing 3).cfg.raiseLoad + commitment s
      ∧ (r.allowance.queue.head? = some 3 ∧ r.allowance.headSince + 120000 ≤ r.elapsed) ∧ (tiesOk r ∧ raiseQueueOk r ∧ nothingDue r) :=
  ⟨by decide, of_calm (by decide), by decide, by decide, by decide, by decide, by decide, of_calm (by decide)⟩

theorem witness_SwingSensorsAct :
    (swing3 aired .raising).power.operating = true ∧ 3 ∈ numbers 1 12 ∧ ((swing3 aired .raising).swing 3).cfg.fitted = true
      ∧ (tiesOk (swing3 aired .raising) ∧ raiseQueueOk (swing3 aired .raising) ∧ nothingDue (swing3 aired .raising))
      ∧ ((swing3 aired .raising).swing 3).arcSeen = false ∧ calm (swing3 aired .swinging) = true
      ∧ calm (swing3 aired .lowering) = true ∧ calm (swing3 aired .settling) = true ∧ calm (swing3 aired .restoring) = true
      ∧ calm (swing3 aired .down) = true ∧ calm (queued3 aired) = true ∧ calm (swing3 aired .fault) = true :=
  ⟨rfl, by decide, by decide, of_calm (by decide), by decide, by decide, by decide, by decide, by decide, by decide, by decide, by decide⟩

/-- A RAISING channel whose third half-swing with an arc has just ended. -/
theorem witness_SwingSensorsAct_third :
    let r := swing3 aired .raising
    let s := r.withSwing 3 { r.swing 3 with arcSeen := true, arcRun := 2 }
    s.power.operating = true ∧ (tiesOk s ∧ raiseQueueOk s ∧ nothingDue s) ∧ (s.swing 3).cfg.fitted = true
      ∧ (s.swing 3).state = .raising ∧ (s.swing 3).arcSeen = true ∧ 2 ≤ (s.swing 3).arcRun :=
  ⟨rfl, of_calm (by decide), by decide⟩

/-- A channel that is not fitted, and numbers outside 1..12. -/
theorem witness_SwingSensorsAct_unfitted :
    aired.power.operating = true ∧ (aired.swing 3).cfg.fitted = false ∧ 0 ∉ numbers 1 12 ∧ 13 ∉ numbers 1 12 := by decide

/-- Each watch of a channel, running out now in the state it belongs to. -/
theorem witness_SwingWatchesRunOut :
    let at_ := fun (x : SwingState) => let s := swing3 aired x
      s.withSwing 3 { s.swing 3 with raiseEnds := some 0, durationEnds := some 0, settleEnds := some 0, passEnds := some 0 }
    ((at_ .raising).power.operating = true ∧ 3 ∈ numbers 1 12 ∧ 0 ≤ (at_ .raising).elapsed)
      ∧ (tiesOk (at_ .raising) ∧ raiseQueueOk (at_ .raising) ∧ nothingDue (at_ .raising))
      ∧ ((at_ .raising).swing 3).raiseEnds = some 0 ∧ ((at_ .raising).swing 3).passEnds = some 0 ∧ ((at_ .raising).swing 3).drive = none
      ∧ (calm (at_ .swinging) = true ∧ ((at_ .swinging).swing 3).durationEnds = some 0)
      ∧ (calm (at_ .lowering) = true ∧ ((at_ .lowering).swing 3).passEnds = some 0)
      ∧ (calm (at_ .settling) = true ∧ ((at_ .settling).swing 3).settleEnds = some 0
        ∧ ((at_ .settling).hammer 3).state ∈ [HammerState.withdrawing, .withdrawn] ∧ ((at_ .settling).hammer 3).confirm = false)
      ∧ (let s := (swing3 aired .raising)
         (s.withSwing 3 { s.swing 3 with drive := some { direction := .back, ends := 0 } }).swing 3
           = { s.swing 3 with drive := some { direction := .back, ends := 0 } }) :=
  ⟨by decide, of_calm (by decide), by decide, by decide, by decide, by decide, by decide, by decide, by decide⟩

/-- A SWINGING channel whose duration has run out, with a last pass 4 s ago and with one 1 ms later. -/
theorem witness_SwingWatchesRunOut_pass :
    let at_ := fun (p : Nat) => let w := swing3 { aired with elapsed := 5000 } .swinging
      w.withSwing 3 { w.swing 3 with durationEnds := some 5000, passEnds := some (p + 4000), lastPass := some p }
    (calm (at_ 1000) = true ∧ ((at_ 1000).swing 3).state = .swinging ∧ ((at_ 1000).swing 3).durationEnds = some 5000
        ∧ 1000 + 4000 ≤ (at_ 1000).elapsed)
      ∧ (calm (at_ 1001) = true ∧ (at_ 1001).elapsed < 1001 + 4000) := by decide

/-- R122, R127, R145, R147: a raise limit and a pass watch that have both run out. The yielded circuit is restored while the
hold load is still committed, so it is held and LOAD-HELD is raised, and the hold load of SETTLING then frees the rest. -/
theorem test_lowering_frees_twice :
    let w := swing3 { aired with elapsed := 5000 } .raising
    let x : Circuit := { w.circuit 1 with maxDraw := 60, preYield := some 255 }
    let s := (w.withCircuit 1 x).withSwing 3 { w.swing 3 with raiseEnds := some 5000, lastPass := some 1000 }
    let t := answered s (exec (.raiseLimitEnd 3) s)
    (t.swing 3).state = .settling ∧ (nth t.details 15).isSome = true ∧ (t.circuit 1).target = 255
      ∧ (t.circuit 1).desired = none := by decide

/-! ### Loads and lights -/

/-- An allowance below the commitment, at it, and raised; a circuit that would draw too much; circuits forced, yielded and
neither. -/
theorem witness_AllowanceCircuitsAndGrants :
    let s := swing3 aired .raising
    Taken h s ∧ nothingDue s ∧ (min 1000 9 < commitment s) ∧ (commitment s ≤ min 1000 10 ∧ min 1000 10 ≤ s.allowance.units)
      ∧ s.allowance.units < min 1000 1001
      ∧ (let x : Circuit := { aired.circuit 16 with output := 255, target := 255 }
         let s := aired.withCircuit 16 x
         let draw := fun (d : Nat) => commitment s - x.share + ({ x with maxDraw := min 200 d } : Circuit).share
         s.allowance.units < draw 61 ∧ draw 60 ≤ s.allowance.units ∧ x.share ≤ ({ x with maxDraw := 60 } : Circuit).share)
      ∧ (let x : Circuit := { aired.circuit 16 with output := 255, target := 255, maxDraw := 20 }
         ({ x with maxDraw := 10 } : Circuit).share < x.share)
      ∧ (aired.circuit 16).forced = false ∧ (aired.circuit 16).preYield = none
      ∧ ({ aired.circuit 16 with forced := true } : Circuit).forced = true
      ∧ ({ aired.circuit 16 with preYield := some 255 } : Circuit).preYield = some 255
      ∧ ({ aired.circuit 16 with preYield := some 255, forced := true } : Circuit).forced = true ∧ 0 ∉ numbers 1 16
      ∧ 17 ∉ numbers 1 16 :=
  ⟨⟨rfl, rfl⟩, ⟨rfl, rfl⟩, by decide, by decide, by decide, by decide, by decide, by decide, by decide, rfl, rfl, rfl,
    by decide, by decide⟩

/-- A head that does not fit and then does, with a circuit that yields to it; a rise of the allowance that restores a
yielded circuit and then a held one; and two held circuits. -/
theorem witness_AllowanceCircuitsAndGrants_release :
    let x : Circuit := { aired.circuit 1 with output := 255, target := 255, maxDraw := 60, yields := true }
    let s := (queued3 aired).withCircuit 1 x
    let y := aired.withCircuit 1 { x with output := 0, target := 0, preYield := some 255 }
    let z := y.withCircuit 2 { x with output := 0, target := 0, desired := some 255 }
    let w := z.withCircuit 1 { x with output := 0, target := 0, desired := some 255 }
    (s.allowance.queue.head? = some 3 ∧ s.allowance.units < (s.swing 3).cfg.raiseLoad + commitment s
        ∧ (x.yields && x.preYield.isNone && decide (0 < x.share) && decide (x.floor < x.target)) = true)
      ∧ (let q := queued3 aired
         (tiesOk q ∧ raiseQueueOk q ∧ nothingDue q) ∧ q.allowance.units < 1000 ∧ (q.swing 3).cfg.raiseLoad + commitment q ≤ 1000
           ∧ (∀ k ∈ numbers 1 16, (q.circuit k).desired = none) ∧ (q.hammer 3).state ∈ [HammerState.withdrawing]
           ∧ ((q.withHammer 3 { q.hammer 3 with state := .ready }).hammer 3).state ∈ [HammerState.ready, .recovering, .inhibited])
      ∧ ((tiesOk z ∧ raiseQueueOk z ∧ nothingDue z) ∧ z.allowance.queue = [] ∧ (z.circuit 1).preYield = some 255
        ∧ (∀ k ∈ numbers 1 16, k ≠ 1 → (z.circuit k).preYield = none) ∧ (∀ k ∈ numbers 1 16, k ≠ 2 → (z.circuit k).desired = none)
        ∧ (∀ k ∈ numbers 1 12, (z.swing k).state ≠ .clearing ∧ (z.swing k).state ≠ .raising))
      ∧ ((tiesOk w ∧ raiseQueueOk w ∧ nothingDue w) ∧ (∀ k ∈ numbers 1 16, (w.circuit k).preYield = none)
        ∧ ∀ k ∈ numbers 1 16, k ≠ 1 → k ≠ 2 → (w.circuit k).desired = none) :=
  ⟨by decide, ⟨of_calm (by decide), by decide⟩, ⟨of_calm (by decide), by decide⟩, of_calm (by decide), by decide⟩

/-- Three held circuits and two yielded ones, with no raise pending, and behind a head that does not fit. -/
theorem witness_AllowanceCircuitsAndGrants_many :
    let x : Circuit := { aired.circuit 1 with maxDraw := 60, yields := true }
    let at_ := fun (s : State) =>
      [1, 2, 3].foldl (fun s c => s.withCircuit c { x with desired := some 255 })
        ([15, 16].foldl (fun s c => s.withCircuit c { x with preYield := some 255 }) s)
    let s := at_ aired
    let q := at_ (queued3 { aired with allowance := { aired.allowance with units := 0, yieldOrdered := true } })
    (tiesOk s ∧ raiseQueueOk s ∧ nothingDue s) ∧ (commitment s ≤ 1000 ∧ s.allowance.units < 1000 ∧ s.allowance.queue = [])
      ∧ (tiesOk q ∧ raiseQueueOk q ∧ nothingDue q)
      ∧ (q.allowance.units < 9 ∧ commitment q ≤ 9 ∧ q.allowance.queue.head? = some 3
        ∧ 9 < (q.swing 3).cfg.raiseLoad + commitment q ∧ q.allowance.yieldOrdered = true) :=
  ⟨of_calm (by decide), by decide, of_calm (by decide), by decide⟩

theorem witness_LightingRecords :
    Taken h s0 ∧ 63 ≤ 63 ∧ (List.replicate 8 sceneOff).length ≤ 8 ∧ (List.replicate 7 sceneOff).length ≠ 8 ∧ 63 < 64
      ∧ (52 ≤ 52 ∧ 52 + [(1439, 0)].length ≤ 53) ∧ 47 ≤ 47 ∧ 255 < 256 ∧ 2 ≤ 2
      ∧ (63 < 64 ∧ 8 < 9 ∧ 53 < 52 + [(1439, 0), (0, 0)].length ∧ 47 < 48 ∧ 2 < 3 ∧ 52 < 53) :=
  ⟨⟨rfl, rfl⟩, by decide⟩

/-- The mode in force and another; a fade whose next step, its last, has come; a minute boundary. -/
theorem witness_LightModeFadesAndSchedule :
    Taken h aired ∧ nothingDue aired ∧ (1 ≤ 14 ∧ 14 ≤ 16 ∧ 1 ≤ 3)
      ∧ (aired.lights.mode = .lit ∧ aired.lights.first = 1 ∧ aired.lights.last = 16)
      ∧ (let s := { aired.withCircuit 16 { aired.circuit 16 with fade := some { start := 0, done := 9, total := 10, began := 0 } } with
                    elapsed := 1000 }
         s.power.operating = true ∧ 16 ∈ numbers 1 16 ∧ nothingDue s
           ∧ (s.circuit 16).fade = some { start := 0, done := 9, total := 10, began := 0 } ∧ 0 + (9 + 1) * 100 ≤ s.elapsed)
      ∧ (let s := { aired with time := { aired.time with instant := aired.time.instant + 60000 } }
         s.time.validity = .isSet ∧ s.time.minuteMark < s.time.instant / 60000) :=
  ⟨⟨rfl, rfl⟩, ⟨rfl, rfl⟩, by decide, by decide, ⟨rfl, by decide, ⟨rfl, rfl⟩, by decide, by decide⟩, by decide⟩

/-- A circuit that leaves DARK for its desired level and one for its target, with no channel in the raise queue. -/
theorem witness_LightModeFadesAndSchedule_lit :
    let s := (aired.withCircuit 1 { aired.circuit 1 with forced := true, target := 20, desired := some 255 }).withCircuit 16
      { aired.circuit 16 with forced := true, target := 20 }
    Taken h s ∧ nothingDue s ∧ s.allowance.queue.head? = none ∧ (s.circuit 1).forced = true ∧ (s.circuit 16).forced = true
      ∧ aired.lights.mode ≠ .partialRange := ⟨⟨rfl, rfl⟩, ⟨rfl, rfl⟩, by decide⟩

/-- A TIME-SET from UNSET and zone offsets at their bounds; the end of the range; a recovery with nothing else asserted. -/
theorem witness_LightModeFadesAndSchedule_restored :
    Taken h s0 ∧ nothingDue s0 ∧ (1 ≤ 29 ∧ 29 ≤ monthLength 2024 2 ∧ s0.time.validity = .unset)
      ∧ (aired.time.zone + 120 ≤ 720 ∧ -720 ≤ aired.time.zone + (-120) ∧ aired.time.instant + 120 * 60000 ≤ 3155759999999)
      ∧ (let s := { aired with time := { aired.time with instant := 3155759999999 } }
         s.power.operating = true ∧ nothingDue s ∧ s.time.stopped = false)
      ∧ (let s := { aired with power := { aired.power with operating := false, failInput := true } }
         s.power.supply = true ∧ s.power.failInput = true ∧ s.power.resetLine = false ∧ s.power.lost = false) :=
  ⟨⟨rfl, rfl⟩, ⟨rfl, rfl⟩, by decide, by decide, ⟨rfl, ⟨rfl, rfl⟩, rfl⟩, by decide⟩

/-- The first and the last day that stand on an entry, and a day between two. -/
theorem witness_DuskAndDawnMinutes : (1 ≤ 1 ∧ 366 ≤ 366) ∧ (366 - 1) / 7 = 52 ∧ (364 - 1) / 7 < 52 ∧ (365 - 1) / 7 = 52 := by decide

end Sys2Proof.Tests
end

/-! SUPPORT. The reading rules that the statements of the tower time chapter share. -/

namespace Sys2Proof.Machine

open Sys2Proof

/-! ## Tables -/

theorem within_iff (lo hi x : Nat) : within lo hi x = true ↔ lo ≤ x ∧ x ≤ hi := by simp [within]

theorem mem_numbers (lo hi x : Nat) : x ∈ numbers lo hi ↔ lo ≤ x ∧ x ≤ hi := by
  simp only [numbers, List.mem_map, List.mem_range]
  constructor
  · rintro ⟨k, hk, rfl⟩
    omega
  · rintro ⟨h1, h2⟩
    exact ⟨x - lo, by omega, by omega⟩

/-- A table numbered from 1, read entry by entry. -/
theorem toList_eq_map_nth {α : Type} {n : Nat} [Inhabited α] (v : Vector α n) : v.toList = (numbers 1 n).map (nth v) := by
  apply List.ext_getElem
  · simp [numbers]
  · intro i h1 h2
    have hi : i < n := by simpa using h1
    simp [numbers, nth, hi]

theorem exists_nth_of_mem {α : Type} {n : Nat} [Inhabited α] {v : Vector α n} {x : α} (hx : x ∈ v.toList) :
    ∃ i ∈ numbers 1 n, nth v i = x := by
  simpa only [toList_eq_map_nth, List.mem_map] using hx

theorem exists_slot_of_mem {α : Type} {n : Nat} [Inhabited α] {v : Vector α n} {x : α} (hx : x ∈ v.toList) :
    ∃ i, i < n ∧ slot v i = x := by
  obtain ⟨i, hi, rfl⟩ := exists_nth_of_mem hx
  rw [mem_numbers] at hi
  exact ⟨i - 1, by omega, by simp [slot, nth, hi, show i - 1 < n by omega]⟩

theorem timer_withTimer_ne (s : State) (n n' : Nat) (t : Timer) (h : n ≠ n') : (s.withTimer n t).timer n' = s.timer n' :=
  nth_setNth_ne _ _ _ _ h

/-! ## Requests that are taken -/

/-- A request that is taken leaves what its block's rule gives of the state with the link's stream closed (R43, R169). -/
theorem answers_of_taken {i : Instr} {h : Header} {kind : Nat} {body : State → Answer} {s : State} (a : Answer) (ht : Taken h s)
    (hk : kind ≠ 0x31) (he : exec i s = .next (takeRequest h kind body s)) (ha : body (closed h s) = a) :
    answers i h kind s a.status a.body a.state := by
  have hr := takeRequest_taken h kind body s ht.1 ht.2 hk
  rw [answers, he, hr, ← ha]
  rfl

@[simp] theorem closed_elapsed (h : Header) (s : State) : (closed h s).elapsed = s.elapsed := closeStream_elapsed _ _
@[simp] theorem closed_time (h : Header) (s : State) : (closed h s).time = s.time := closeStream_time _ _
@[simp] theorem closed_calendar (h : Header) (s : State) : (closed h s).calendar = s.calendar := closeStream_calendar _ _
@[simp] theorem closed_timers (h : Header) (s : State) : (closed h s).timers = s.timers := closeStream_timers _ _
@[simp] theorem closed_arbiter (h : Header) (s : State) : (closed h s).arbiter = s.arbiter := closeStream_arbiter _ _
@[simp] theorem closed_timer (h : Header) (s : State) (n : Nat) : (closed h s).timer n = s.timer n := by simp [State.timer]

/-- Settles O59: the state after reset is a literal, so each default is read off it, table by table. -/
theorem resetLeavesTheDefaults : Obligations.ResetLeavesTheDefaults := by
  unfold Obligations.ResetLeavesTheDefaults
  refine ⟨by decide, by decide, by decide, ⟨fun r c => rfl, by decide⟩, by decide, by decide, by decide, by decide, by decide, by decide, ?_⟩
  intro l
  cases l <;> decide

/-- The seconds a timer has left, as TIMER-STOP and TIMER-READ give them (R20). -/
theorem remaining_of_running {t : Timer} {e : Nat} (elapsed : Nat) (h : t.ends = some e) :
    t.remaining elapsed = (e - elapsed + 999) / 1000 := by
  simp [Timer.remaining, h, ceilDiv]

theorem remaining_of_idle {t : Timer} (elapsed : Nat) (h : t.ends = none) : t.remaining elapsed = 0 := by
  simp [Timer.remaining, h]

/-- With the table disabled and both timers IDLE no class is silenced. -/
theorem silenced_of_idle {s : State} (ht : ∀ n ∈ numbers 1 2, (s.timer n).ends = none)
    (hs : ∀ j, (slot s.arbiter.silence j).enable = false) (k : SilenceClass) (m c : Nat) : silenced s k m c = false := by
  have table : tableSilences s k m c = false := by
    refine List.any_eq_false.mpr fun x hx => ?_
    obtain ⟨j, -, rfl⟩ := exists_slot_of_mem hx
    simp [Silence.silences, hs j]
  have timers : timersSilence s k = false := by
    refine List.any_eq_false.mpr fun x hx => ?_
    obtain ⟨n, hn, rfl⟩ := exists_nth_of_mem hx
    have hi : (nth s.timers n).ends = none := ht n hn
    simp [hi]
  simp [silenced, table, timers]

/-- Settles O20, by what the two requests answer once they are taken; no class is silenced when both timers are IDLE. -/
theorem timerStopAndRead : Obligations.TimerStopAndRead := by
  unfold Obligations.TimerStopAndRead
  intro h s ht left
  have remaining_left (n : Nat) : (s.timer n).remaining s.elapsed = left n := by
    cases he : (s.timer n).ends with
    | none => simp [left, he, remaining_of_idle]
    | some e => simp [left, he, remaining_of_running]
  refine ⟨fun n hn => ⟨?_, ?_⟩, fun n h1 h2 => ?_, ?_⟩
  · have hw : within 1 2 n = true := by rw [within_iff]; omega
    refine answers_of_taken (accept ((closed h s).withTimer n { s.timer n with ends := none })
      (.timerStop (s.timer n).ends.isSome (left n))) ht (by decide) rfl ?_
    simp [timerStopAnswer, hw, remaining_left]
  · intro m hm k d e hne hidle hoff
    refine silenced_of_idle (fun j hj => ?_) (by simpa using hoff) k d e
    rw [mem_numbers] at hm hj
    by_cases hjn : j = n
    · subst hjn
      rw [timer_withTimer_self _ _ _ (by rw [within_iff]; omega)]
    · have : j = m := by omega
      subst this
      rw [timer_withTimer_ne _ _ _ _ (Ne.symm hjn), closed_timer, hidle]
  · have hw : within 1 2 n = false := by rw [Bool.eq_false_iff, ne_eq, within_iff]; omega
    refine answers_of_taken (refuse (closed h s) .badValue) ht (by decide) rfl ?_
    simp [timerStopAnswer, hw]
  · refine answers_of_taken (accept (closed h s) (.timers ((numbers 1 2).map
      (fun n => ((s.timer n).ends.isSome, left n, (s.timer n).mask, (s.timer n).action))))) ht (by decide) rfl ?_
    have each : (fun n => ((s.timer n).ends.isSome, left n, (s.timer n).mask, (s.timer n).action))
        = (fun t : Timer => (t.ends.isSome, t.remaining s.elapsed, t.mask, t.action)) ∘ nth s.timers := by
      funext n
      simp [← remaining_left, State.timer]
    rw [each, ← List.map_map, ← toList_eq_map_nth]
    simp [timerReadAnswer]

end Sys2Proof.Machine

namespace Sys2Proof.Machine

open Sys2Proof

theorem timerAction?_of_code {action arg fade : Nat} {a : TimerAction}
    (h : action = 0 ∧ a = .none ∨ action = 1 ∧ 1 ≤ arg ∧ arg ≤ 4 ∧ a = .startProgram arg ∨ action = 2 ∧ a = .stopSwing
      ∨ action = 3 ∧ arg ≤ 63 ∧ a = .applyScene arg (min 600 fade)) : timerAction? action arg fade = some a := by
  rcases h with ⟨rfl, rfl⟩ | ⟨rfl, h1, h2, rfl⟩ | ⟨rfl, rfl⟩ | ⟨rfl, h1, rfl⟩
  · rfl
  · simp [timerAction?, (within_iff 1 4 arg).mpr ⟨h1, h2⟩]
  · rfl
  · simp [timerAction?, (within_iff 0 63 arg).mpr ⟨Nat.zero_le _, h1⟩, clamp]

/-- A timer whose count has run out expires (R19). -/
theorem exec_timerExpired {n e : Nat} {s : State} (ho : s.power.operating = true) (hn : n = 1 ∨ n = 2)
    (he : (s.timer n).ends = some e) (hle : e ≤ s.elapsed) : exec (.timerExpired n) s = .next (expireTimer n s) := by
  have hw : within 1 2 n = true := by rw [within_iff]; omega
  have due : timerDue s n = true := by simp [timerDue, hw, ranOut, he, hle]
  have run : exec (.timerExpired n) s
      = .next (whenOperating (fun s => if timerDue s n then expireTimer n s else s) s) := rfl
  rw [run, whenOperating_true _ _ ho, if_pos due]

/-- What an expiring timer leaves, from what its action does once the timer is IDLE (R19). -/
theorem expireTimer_eq {n : Nat} {s t : State} {a : TimerAction} {o : TimerOutcome} (ha : (s.timer n).action = a)
    (hp : performAction a (s.withTimer n { s.timer n with ends := none }) = (t, o)) :
    expireTimer n s = raise (.timerExpired n a o) t := by
  subst ha
  simp only [expireTimer, hp]

/-- A timer's start of a program, by what refuses it (R135). -/
theorem timerStartProgram_cases (k : Nat) (s : State) :
    (s.maintenance = true → timerStartProgram k s = (omitProgram .mode k s, .status .refusedMode []))
      ∧ (s.maintenance = false → (nth s.programs k).entries = [] → timerStartProgram k s = (s, .status .notFound []))
      ∧ (s.maintenance = false → (nth s.programs k).entries ≠ [] → swingSilenced s = true →
        timerStartProgram k s = (omitProgram .silence k s, .status .refusedSilence []))
      ∧ (s.maintenance = false → (nth s.programs k).entries ≠ [] → swingSilenced s = false →
        timerStartProgram k s = ((startSwings (nth s.programs k).entries (nth s.programs k).duration k s).1,
          .status .ok ((nth s.programs k).entries.map (fun e => (e.1, startStatus s e.1))))) := by
  refine ⟨fun hm => ?_, fun hm he => ?_, fun hm he hs => ?_, fun hm he hs => ?_⟩
  · simp [timerStartProgram, hm]
  · simp [timerStartProgram, hm, he]
  · simp [timerStartProgram, hm, he, hs]
  · simp [timerStartProgram, hm, he, hs, startSwings]

/-- Settles O19, by the four actions of an expiring timer and, for a program, by what refuses its start. -/
theorem timerStartAndExpiry : Obligations.TimerStartAndExpiry := by
  unfold Obligations.TimerStartAndExpiry
  refine ⟨?_, ?_⟩
  · intro h n duration mask action arg fade a s ht hn hm ha d
    have hw : within 1 2 n = true := by rw [within_iff]; omega
    refine answers_of_taken (accept ((closed h s).withTimer n
      { ends := some (s.elapsed + d * 1000), mask := BitVec.ofNat 6 mask, action := a }) (.seconds d)) ht (by decide) rfl ?_
    simp [timerStartAnswer, silenceMask?, hm, timerAction?_of_code ha, hw, d, clamp]
  · intro n e s ho hn he hle idle a
    have run := exec_timerExpired ho hn he hle
    have perform {b : TimerAction} {t : State} {o : TimerOutcome} (hb : a = b) (hp : performAction b idle = (t, o)) :
        exec (.timerExpired n) s = .next (raise (.timerExpired n b o) t) := by
      rw [run, expireTimer_eq hb hp]
    refine ⟨fun ha => perform ha rfl, fun ha => ?_, fun k f ha => ?_, fun k ha => ?_⟩
    · rw [perform ha rfl, ha]
    · rw [perform ha rfl, ha]
    · intro p dropped
      obtain ⟨mode, empty, silence, start⟩ := timerStartProgram_cases k idle
      refine ⟨fun hm => ?_, fun hm hp => ?_, fun hm hp hs => ?_, fun hm hp hs => ?_⟩
      · rw [perform ha (mode hm), ha]; rfl
      · rw [perform ha (empty hm hp), ha]
      · rw [perform ha (silence hm hp hs), ha]; rfl
      · rw [perform ha (start hm hp hs), ha]; rfl

/-! ## The calendar -/

theorem CalEntry.key_inj {e f : CalEntry} : e.key = f.key ↔ e.month = f.month ∧ e.day = f.day ∧ e.year.getD 0 = f.year.getD 0 := by
  simp [CalEntry.key]

/-- `keyBefore` is the lexicographic order of month, day and year. -/
theorem keyBefore_iff (a b : Nat × Nat × Nat) :
    keyBefore a b = true ↔ a.1 < b.1 ∨ a.1 = b.1 ∧ (a.2.1 < b.2.1 ∨ a.2.1 = b.2.1 ∧ a.2.2 < b.2.2) := by
  simp [keyBefore]

theorem keyBefore_irrefl (a : Nat × Nat × Nat) : keyBefore a a ≠ true := by
  rw [Ne, keyBefore_iff]
  omega

theorem keyBefore_trans {a b c : Nat × Nat × Nat} (hab : keyBefore a b = true) (hbc : keyBefore b c = true) :
    keyBefore a c = true := by
  rw [keyBefore_iff] at *
  omega

theorem keyBefore_of_not {a b : Nat × Nat × Nat} (hne : a ≠ b) (h : keyBefore a b ≠ true) : keyBefore b a = true := by
  rw [Ne, keyBefore_iff] at h
  rw [keyBefore_iff]
  have : ¬(a.1 = b.1 ∧ a.2.1 = b.2.1 ∧ a.2.2 = b.2.2) := fun ⟨h1, h2, h3⟩ => hne (Prod.ext h1 (Prod.ext h2 h3))
  omega

/-- A table in key order holds one entry of a key (R15). -/
theorem calendarOk_unique {es : List CalEntry} (h : calendarOk es) {e f : CalEntry} (he : e ∈ es) (hf : f ∈ es)
    (hk : e.key = f.key) : e = f := by
  induction es with
  | nil => cases he
  | cons x xs ih =>
    obtain ⟨hx, hxs⟩ := List.pairwise_cons.mp h
    have apart (g : CalEntry) (hg : g ∈ xs) : x.key ≠ g.key := fun hkg => keyBefore_irrefl _ (hkg ▸ hx g hg)
    rcases List.mem_cons.mp he with rfl | he'
    · rcases List.mem_cons.mp hf with rfl | hf'
      · rfl
      · exact absurd hk (apart f hf')
    · rcases List.mem_cons.mp hf with rfl | hf'
      · exact absurd hk.symm (apart e he')
      · exact ih hxs he' hf'

/-- The first entry of a date with year `y` (ANY: `none`) in a table in key order is the only one (R15, R16). -/
theorem find?_date {es : List CalEntry} (h : calendarOk es) {e : CalEntry} (he : e ∈ es) (t : Date) (y : Option Nat)
    (hm : e.month = t.month) (hd : e.day = t.day) (hy : e.year = y) :
    es.find? (fun e => e.month == t.month && e.day == t.day && e.year == y) = some e := by
  cases hf : es.find? (fun e => e.month == t.month && e.day == t.day && e.year == y) with
  | none => exact absurd (List.find?_eq_none.mp hf e he) (by simp [hm, hd, hy])
  | some f =>
    have hp := List.find?_some hf
    simp only [Bool.and_eq_true, beq_iff_eq] at hp
    obtain ⟨⟨hfm, hfd⟩, hfy⟩ := hp
    have hk : f.key = e.key := CalEntry.key_inj.mpr ⟨hfm.trans hm.symm, hfd.trans hd.symm, by rw [hfy, hy]⟩
    rw [calendarOk_unique h (List.mem_of_find?_eq_some hf) he hk]

/-- No entry of a date with year `y` stands in the table. -/
theorem find?_date_none {es : List CalEntry} (t : Date) (y : Option Nat)
    (h : ∀ f ∈ es, f.month = t.month ∧ f.day = t.day → f.year ≠ y) :
    es.find? (fun e => e.month == t.month && e.day == t.day && e.year == y) = none := by
  refine List.find?_eq_none.mpr fun f hf => ?_
  simp only [Bool.and_eq_true, beq_iff_eq, not_and]
  exact fun hmd => h f hf hmd

theorem renewToday_eq (s : State) :
    renewToday s = { s with
      calendar := { s.calendar with
        today := (classOf s.calendar (s.time.instant / 86400000)).1
        source := (classOf s.calendar (s.time.instant / 86400000)).2
        todayDay := s.time.instant / 86400000 } } := rfl

theorem renewIfDue_of_due {s : State} (h : s.calendar.todayDay ≠ s.time.instant / 86400000) : renewIfDue s = renewToday s := by
  have hd : renewalDue s = true := by simpa [renewalDue, dayOf, Config.dayMs] using h
  rw [renewIfDue, if_pos hd]

theorem renewIfDue_of_not_due {s : State} (h : s.calendar.todayDay = s.time.instant / 86400000) : renewIfDue s = s := by
  have hd : renewalDue s = false := by simpa [renewalDue, dayOf, Config.dayMs] using h
  simp [renewIfDue, hd]

@[simp] theorem flag?_toNat (b : Bool) : flag? b.toNat = some b := by cases b <;> rfl

/-- Settles O17: in a table in key order the entry that a search for a date finds is the only one of its key. -/
theorem dayClasses : Obligations.DayClasses := by
  unfold Obligations.DayClasses
  refine ⟨⟨?_, ?_, ?_⟩, ?_⟩
  · intro c d ok on
    refine ⟨fun e he hon hy => ?_, fun e he hon hy hno => ?_, fun hno => ?_⟩
    · simp only [classOf, find?_date ok he _ _ hon.1 hon.2 hy]
    · simp only [classOf, find?_date_none (dateOf d) _ hno, find?_date ok he _ _ hon.1 hon.2 hy]
    · simp only [classOf, find?_date_none (dateOf d) _ (fun f hf hon => (hno f hf hon).1),
        find?_date_none (dateOf d) _ (fun f hf hon => (hno f hf hon).2)]
      rfl
  · intro s ho hd d
    have run : exec .dayClassRenewal s = .next (whenOperating renewIfDue s) := rfl
    rw [run, whenOperating_true _ _ ho, renewIfDue_of_due hd, renewToday_eq]
  · intro h cs s ht hlen hle
    have fits : cs.all (within 0 7) = true := List.all_eq_true.mpr fun k hk => (within_iff 0 7 k).mpr ⟨Nat.zero_le _, hle k hk⟩
    let s1 : State := { closed h s with calendar := { s.calendar with weekdays := ⟨cs.toArray, by simp [hlen]⟩ } }
    refine ⟨(renewToday s1).calendar, ?_, ?_, ?_, ?_, ?_⟩
    · refine answers_of_taken (accept { closed h s with calendar := (renewToday s1).calendar } .none) ht (by decide) rfl ?_
      simp [weekdayWriteAnswer, hlen, fits, renewToday_eq, s1]
    all_goals simp [renewToday_eq, s1]
    rfl
  · intro h s ht
    refine ⟨fun record set hours quarters hr hset => ?_, fun start count => ⟨?_, ?_, ?_⟩⟩
    · have fits : (within 0 7 record && set.all (within 0 7)) = true := by
        cases set <;> simp_all [within]
      refine ⟨{ s.calendar with
        classes := setSlot s.calendar.classes record { chimeSet := set, strikeHours := hours, chimeQuarters := quarters } },
        ?_, rfl, slot_setSlot_self _ _ _ (by omega), fun r hne => slot_setSlot_ne _ _ _ _ (Ne.symm hne)⟩
      refine answers_of_taken (accept { closed h s with calendar := _ } .none) ht (by decide) rfl ?_
      simp [classWriteAnswer, fits]
    · exact answers_of_taken (accept (closed h s) (.classes s.calendar.classes.toList)) ht (by decide) rfl
        (by simp [calendarReadAnswer])
    · exact answers_of_taken (accept (closed h s) (.weekdays s.calendar.weekdays.toList)) ht (by decide) rfl
        (by simp [calendarReadAnswer])
    · exact answers_of_taken (accept (closed h s) (.calendar _ _)) ht (by decide) rfl (by simp [calendarReadAnswer, clamp])
end Sys2Proof.Machine

namespace Sys2Proof.Machine

open Sys2Proof

theorem mem_putEntry_imp {e y : CalEntry} {es : List CalEntry} (hy : y ∈ putEntry e es) : y = e ∨ y ∈ es := by
  induction es with
  | nil => exact .inl (List.mem_singleton.mp hy)
  | cons x xs ih =>
    rw [putEntry] at hy
    split at hy
    · exact (List.mem_cons.mp hy).imp id (List.mem_cons_of_mem x)
    · split at hy
      · exact List.mem_cons.mp hy
      · rcases List.mem_cons.mp hy with rfl | hy'
        · exact .inr List.mem_cons_self
        · exact (ih hy').imp id (List.mem_cons_of_mem x)

/-- Writing an entry keeps the key order (R15). -/
theorem calendarOk_putEntry {es : List CalEntry} (h : calendarOk es) (e : CalEntry) : calendarOk (putEntry e es) := by
  induction es with
  | nil => exact List.pairwise_singleton _ _
  | cons x xs ih =>
    obtain ⟨hx, hxs⟩ := List.pairwise_cons.mp h
    rw [putEntry]
    split
    case isTrue hk => exact List.pairwise_cons.mpr ⟨fun y hy => hk ▸ hx y hy, hxs⟩
    case isFalse hk =>
      split
      case isTrue hb =>
        refine List.pairwise_cons.mpr ⟨fun y hy => ?_, h⟩
        rcases List.mem_cons.mp hy with rfl | hy'
        · exact hb
        · exact keyBefore_trans hb (hx y hy')
      case isFalse hb =>
        refine List.pairwise_cons.mpr ⟨fun y hy => ?_, ih hxs⟩
        rcases mem_putEntry_imp hy with rfl | hy'
        · exact keyBefore_of_not hk hb
        · exact hx y hy'

/-- The table with an entry written holds it, and every entry of another key (R15). -/
theorem mem_putEntry {es : List CalEntry} (h : calendarOk es) (e y : CalEntry) :
    y ∈ putEntry e es ↔ y = e ∨ (y ∈ es ∧ y.key ≠ e.key) := by
  induction es with
  | nil => simp [putEntry]
  | cons x xs ih =>
    obtain ⟨hx, hxs⟩ := List.pairwise_cons.mp h
    have after_x (hb : x.key = e.key ∨ keyBefore e.key x.key = true) (z : CalEntry) (hz : z ∈ xs) : z.key ≠ e.key := by
      intro hk
      have hxz := hx z hz
      rcases hb with hb | hb
      · exact keyBefore_irrefl _ (hb ▸ hk ▸ hxz)
      · exact keyBefore_irrefl _ (keyBefore_trans hb (hk ▸ hxz))
    rw [putEntry]
    split
    case isTrue hk =>
      have others := after_x (.inl hk.symm)
      simp only [List.mem_cons]
      constructor
      · rintro (rfl | hy)
        · exact .inl rfl
        · exact .inr ⟨.inr hy, others y hy⟩
      · rintro (rfl | ⟨rfl | hy, hne⟩)
        · exact .inl rfl
        · exact absurd hk.symm hne
        · exact .inr hy
    case isFalse hk =>
      split
      case isTrue hb =>
        have others := after_x (.inr hb)
        simp only [List.mem_cons]
        constructor
        · rintro (rfl | rfl | hy)
          · exact .inl rfl
          · exact .inr ⟨.inl rfl, Ne.symm hk⟩
          · exact .inr ⟨.inr hy, others y hy⟩
        · rintro (rfl | ⟨hy, -⟩)
          · exact .inl rfl
          · exact .inr hy
      case isFalse hb =>
        rw [List.mem_cons, List.mem_cons, ih hxs]
        constructor
        · rintro (rfl | rfl | ⟨hy, hne⟩)
          · exact .inr ⟨.inl rfl, Ne.symm hk⟩
          · exact .inl rfl
          · exact .inr ⟨.inr hy, hne⟩
        · rintro (rfl | ⟨rfl | hy, hne⟩)
          · exact .inr (.inl rfl)
          · exact .inl rfl
          · exact .inr (.inr ⟨hy, hne⟩)

theorem keyFits_iff (month day : Nat) (year : Option Nat) : keyFits month day year = true ↔
    1 ≤ month ∧ month ≤ 12 ∧ (∀ y, year = some y → 2000 ≤ y ∧ y ≤ 2099) ∧ 1 ≤ day ∧ day ≤ monthLength (year.getD 2000) month := by
  simp only [keyFits, dayExists, Bool.and_eq_true, within_iff, Option.all_eq_true, and_assoc]

/-- Some entry of the table has this key. -/
theorem any_key_iff (es : List CalEntry) (k : Nat × Nat × Nat) : es.any (fun x => x.key == k) = true ↔ ∃ x ∈ es, x.key = k := by
  simp

/-- The class of a date rests on the entries and the weekday defaults (R16). -/
theorem classOf_congr {c c' : Calendar} (he : c.entries = c'.entries) (hw : c.weekdays = c'.weekdays) (d : Nat) :
    classOf c d = classOf c' d := by
  simp only [classOf, he, hw]

/-- An accepted operation leaves the table given, with today's class renewed (R15, R16). -/
theorem acceptEntries_leaves (h : Header) (es : List CalEntry) (s : State) :
    ∃ t, acceptEntries es (closed h s) = accept t (.count es.length)
      ∧ t = { closed h s with calendar := t.calendar }
      ∧ t.calendar = { s.calendar with
          entries := es, today := t.calendar.today, source := t.calendar.source, todayDay := t.calendar.todayDay }
      ∧ (t.calendar.today, t.calendar.source) = classOf t.calendar (s.time.instant / 86400000)
      ∧ t.calendar.todayDay = s.time.instant / 86400000 := by
  refine ⟨_, rfl, ?_⟩
  simp only [renewToday_eq, closed_calendar, closed_time, true_and, and_true]
  exact classOf_congr rfl rfl _

/-- CALENDAR-WRITE of an entry that fits, with room for it or in place of one with its key (R15). -/
theorem calendarWriteAnswer_of_room {month day cls : Nat} {year : Option Nat} {s : State}
    (fits : keyFits month day year = true) (hc : within 0 7 cls = true)
    (room : s.calendar.entries.length < 64
      ∨ ∃ x ∈ s.calendar.entries, x.key = CalEntry.key { month := month, day := day, year := year, cls := cls }) :
    calendarWriteAnswer month day year cls s
      = acceptEntries (putEntry { month := month, day := day, year := year, cls := cls } s.calendar.entries) s := by
  rw [← any_key_iff] at room
  have takes : (s.calendar.entries.any
      (fun x => x.key == CalEntry.key { month := month, day := day, year := year, cls := cls })
        || decide (s.calendar.entries.length < Config.calendarPlaces)) = true := by
    rw [Bool.or_eq_true, decide_eq_true_eq]
    exact room.symm
  simp only [calendarWriteAnswer, fits, hc]
  rw [if_neg (by simp), if_pos takes]

/-- CALENDAR-WRITE of an entry that fits, with the table full and none of its key (R15). -/
theorem calendarWriteAnswer_of_full {month day cls : Nat} {year : Option Nat} {s : State}
    (fits : keyFits month day year = true) (hc : within 0 7 cls = true) (full : 64 ≤ s.calendar.entries.length)
    (none : ∀ x ∈ s.calendar.entries, x.key ≠ CalEntry.key { month := month, day := day, year := year, cls := cls }) :
    calendarWriteAnswer month day year cls s = refuseEntries s .full := by
  have takes : ¬(s.calendar.entries.any
      (fun x => x.key == CalEntry.key { month := month, day := day, year := year, cls := cls })
        || decide (s.calendar.entries.length < Config.calendarPlaces)) = true := by
    rw [Bool.or_eq_true, decide_eq_true_eq, any_key_iff]
    rintro (⟨x, hx, hk⟩ | hlt)
    · exact none x hx hk
    · exact absurd hlt (Nat.not_lt.mpr full)
  simp only [calendarWriteAnswer, fits, hc]
  rw [if_neg (by simp), if_neg takes]

/-- Settles O18, by induction on the table for the writing of an entry: its members and its order. -/
theorem calendarKeepsKeyOrder : Obligations.CalendarKeepsKeyOrder := by
  unfold Obligations.CalendarKeepsKeyOrder
  refine ⟨?_, ?_⟩
  · intro h month day year cls s ht ok hm1 hm2 hy hd1 hd2 hc e es leaves
    have fits : keyFits month day year = true := (keyFits_iff _ _ _).mpr ⟨hm1, hm2, hy, hd1, hd2⟩
    have classFits : within 0 7 cls = true := (within_iff _ _ _).mpr ⟨Nat.zero_le _, hc⟩
    have deleteKey : CalEntry.key { month := month, day := day, year := year, cls := 0 } = e.key := rfl
    refine ⟨fun room => ?_, fun full none => ?_, fun held => ?_, fun none => ?_⟩
    · obtain ⟨t, hans, hframe, hcal, hcls, hday⟩ := acceptEntries_leaves h (putEntry e es) s
      refine ⟨putEntry e es, t, answers_of_taken (accept t _) ht (by decide) rfl ?_,
        ⟨hframe, hcal, hcls, hday, calendarOk_putEntry ok e⟩, mem_putEntry ok e⟩
      rw [← hans]
      simpa using calendarWriteAnswer_of_room (s := closed h s) fits classFits (by simpa using room)
    · refine answers_of_taken { state := closed h s, status := .full, body := .count es.length } ht (by decide) rfl ?_
      rw [calendarWriteAnswer_of_full fits classFits (by simpa using full) (by simpa using none)]
      simp [refuseEntries, es]
    · obtain ⟨t, hans, hframe, hcal, hcls, hday⟩ := acceptEntries_leaves h (es.filter (fun x => x.key != e.key)) s
      refine ⟨_, t, answers_of_taken (accept t _) ht (by decide) rfl ?_,
        ⟨hframe, hcal, hcls, hday, List.Pairwise.filter _ ok⟩, fun x => by simp [List.mem_filter]⟩
      rw [← hans]
      simp only [calendarDeleteAnswer, closed_calendar, fits, deleteKey]
      rw [if_neg (by simp), if_pos ((any_key_iff _ _).mpr held)]
    · refine answers_of_taken { state := closed h s, status := .notFound, body := .count es.length } ht (by decide) rfl ?_
      have no : ¬∃ x ∈ es, x.key = e.key := fun ⟨x, hx, hk⟩ => none x hx hk
      rw [← any_key_iff] at no
      simp only [calendarDeleteAnswer, closed_calendar, fits, deleteKey]
      rw [if_neg (by simp), if_neg no]
      simp [refuseEntries, es]
  · intro h month day year cls s ht fits n
    refine ⟨fun bad => ?_, fun bad => ?_⟩
    · refine answers_of_taken { state := closed h s, status := .badValue, body := .count n } ht (by decide) rfl ?_
      have not : ¬(keyFits month day year = true ∧ within 0 7 cls = true) := fun ⟨hk, hw⟩ =>
        bad ⟨(keyFits_iff _ _ _).mp hk, ((within_iff _ _ _).mp hw).2⟩
      rw [← Bool.and_eq_true, Bool.not_eq_true, ← Bool.not_eq_true', Bool.not_and] at not
      simp only [calendarWriteAnswer]
      rw [if_pos not]
      simp [refuseEntries, n]
    · refine answers_of_taken { state := closed h s, status := .badValue, body := .count n } ht (by decide) rfl ?_
      have not : keyFits month day year = false := by
        rw [← Bool.not_eq_true, keyFits_iff]
        exact bad
      simp [calendarDeleteAnswer, not, refuseEntries, n]
end Sys2Proof.Machine

/-! SUPPORT. What the reactions to a step leave as it was (R12, R79): three relations between the state before and after
an operation, each kept from one operation to the next, and the operations of the arbiter, the hammers, the swing
bells, the allowance and the lights that stand in them. -/

namespace Sys2Proof.Machine

open Sys2Proof

/-- A property that every step of a fold gives between the state before and after holds of the whole fold. -/
theorem foldl_rel {α : Type} {R : State → State → Prop} (refl : ∀ s, R s s) (trans : ∀ {s t u}, R s t → R t u → R s u)
    {f : State → α → State} (hf : ∀ s x, R s (f s x)) (xs : List α) (s : State) : R s (xs.foldl f s) := by
  induction xs generalizing s with
  | nil => exact refl s
  | cons x xs ih => exact trans (hf s x) (ih (f s x))

/-- A served marker does not move back (R22). -/
def MarkerForward (s t : State) : Prop := ∀ m, s.time.marker = some m → ∃ k, t.time.marker = some k ∧ m ≤ k

theorem MarkerForward.of_eq {s t : State} (h : t.time.marker = s.time.marker) : MarkerForward s t :=
  fun m hm => ⟨m, h.trans hm, Nat.le_refl m⟩

theorem MarkerForward.trans {s t u : State} (h : MarkerForward s t) (h' : MarkerForward t u) : MarkerForward s u := by
  intro m hm
  obtain ⟨k, hk, hmk⟩ := h m hm
  obtain ⟨l, hl, hkl⟩ := h' k hk
  exact ⟨l, hl, Nat.le_trans hmk hkl⟩

theorem raise_details_ne {d : Detail} {k : Nat} (s : State) (h : d.kind ≠ k) : nth (raise d s).details k = nth s.details k :=
  nth_setNth_ne _ _ _ _ h

theorem raise_details_self {d : Detail} (s : State) (h : within 1 18 d.kind = true) :
    nth (raise d s).details d.kind = some { instant := s.time.instant, detail := d } := nth_setNth_self _ _ _ h

/-! ## What no reaction to a step touches -/

/-- What the step record's statement says no step touches, and what else stays while the blocks react (R12). -/
structure Steady (s t : State) : Prop where
  elapsed : t.elapsed = s.elapsed
  time : t.time = { s.time with marker := t.time.marker }
  calendar : t.calendar = s.calendar
  timers : t.timers = s.timers
  score : t.score = s.score
  tunes : t.tunes = s.tunes
  methods : t.methods = s.methods
  programs : t.programs = s.programs
  power : t.power = s.power
  maintenance : t.maintenance = s.maintenance
  clockStrike : t.arbiter.clockStrike = s.arbiter.clockStrike
  stepRecord : nth t.details 1 = nth s.details 1
  forward : MarkerForward s t

theorem Steady.refl (s : State) : Steady s s where
  elapsed := rfl
  time := rfl
  calendar := rfl
  timers := rfl
  score := rfl
  tunes := rfl
  methods := rfl
  programs := rfl
  power := rfl
  maintenance := rfl
  clockStrike := rfl
  stepRecord := rfl
  forward := .of_eq rfl

theorem Steady.trans {s t u : State} (h : Steady s t) (h' : Steady t u) : Steady s u where
  elapsed := h'.elapsed.trans h.elapsed
  time := h'.time.trans (by rw [h.time])
  calendar := h'.calendar.trans h.calendar
  timers := h'.timers.trans h.timers
  score := h'.score.trans h.score
  tunes := h'.tunes.trans h.tunes
  methods := h'.methods.trans h.methods
  programs := h'.programs.trans h.programs
  power := h'.power.trans h.power
  maintenance := h'.maintenance.trans h.maintenance
  clockStrike := h'.clockStrike.trans h.clockStrike
  stepRecord := h'.stepRecord.trans h.stepRecord
  forward := h.forward.trans h'.forward

theorem Steady.instant {s t : State} (h : Steady s t) : t.time.instant = s.time.instant := by rw [h.time]

theorem Steady.now {s t : State} (h : Steady s t) : t.now = s.now := by rw [State.now, State.now, h.instant]

/-- What the parts of a clock event rest on is the same (R69). -/
structure SamePlans (s t : State) : Prop where
  classes : t.calendar.classes = s.calendar.classes
  entries : t.calendar.entries = s.calendar.entries
  weekdays : t.calendar.weekdays = s.calendar.weekdays
  tunes : t.tunes = s.tunes
  chimes : t.chimes = s.chimes
  clockStrike : t.arbiter.clockStrike = s.arbiter.clockStrike

theorem Steady.samePlans {s t : State} (h : Steady s t) (hc : t.chimes = s.chimes) : SamePlans s t :=
  ⟨by rw [h.calendar], by rw [h.calendar], by rw [h.calendar], h.tunes, hc, h.clockStrike⟩

theorem SamePlans.trans {s t u : State} (h : SamePlans s t) (h' : SamePlans t u) : SamePlans s u :=
  ⟨h'.classes.trans h.classes, h'.entries.trans h.entries, h'.weekdays.trans h.weekdays, h'.tunes.trans h.tunes,
    h'.chimes.trans h.chimes, h'.clockStrike.trans h.clockStrike⟩

theorem SamePlans.planChime {s t : State} (h : SamePlans s t) (n : Nat) : planChime t n = planChime s n := by
  have hat : chimeAt t = chimeAt s := by
    funext k p
    simp only [chimeAt, h.chimes]
  simp only [Machine.planChime, h.classes, classOf_congr h.entries h.weekdays, hat, h.tunes, h.clockStrike]

theorem SamePlans.planStrike {s t : State} (h : SamePlans s t) (n : Nat) : planStrike t n = planStrike s n := by
  simp only [Machine.planStrike, h.classes, classOf_congr h.entries h.weekdays, h.clockStrike]

theorem SamePlans.eventDue {s t : State} (h : SamePlans s t) (n : Nat) : eventDue t n = eventDue s n := by
  rw [Machine.eventDue, Machine.eventDue, h.planChime, h.planStrike]

/-! ## Clock events that lie ahead -/

/-- Every clock event in the queue is WAITING, its build time has come and its due start has not, and it lies after `m`,
from where the marker stands on; no two performances have one id. -/
structure ClocksAhead (m : Nat) (s : State) : Prop where
  marker : ∃ k, s.time.marker = some k ∧ m ≤ k
  ids : (s.arbiter.queue.map (·.id)).Nodup
  ahead : ∀ c ∈ s.arbiter.queue, c.isClock = true →
    c.state = .waiting ∧ s.now < c.dueStart ∧ c.dueStart - 60000 ≤ s.now ∧ ∃ n, c.event = some n ∧ m < n

/-- The marker has moved to no event but one whose build time has come, and the clock events still lie ahead. -/
structure Served (m : Nat) (s t : State) : Prop where
  ahead : ClocksAhead m t
  chimes : t.chimes = s.chimes
  marker : t.time.marker = s.time.marker ∨ ∃ e x, t.time.marker = some e ∧ eventDue s e = some x ∧ x - 60000 ≤ s.now

/-- No clock event waits in the queue. -/
def NoClockWaits (s : State) : Prop := ∀ c ∈ s.arbiter.queue, c.isClock = true → c.state ≠ .waiting

/-- An operation that touches nothing that no step touches, serves no clock event that lies ahead, and leaves an empty
marker empty where no clock event waits. -/
structure Keeps (s t : State) : Prop extends Steady s t where
  served : ∀ m, ClocksAhead m s → Served m s t
  unserved : s.time.marker = none → NoClockWaits s → t.time.marker = none ∧ NoClockWaits t

theorem Keeps.refl (s : State) : Keeps s s :=
  { Steady.refl s with served := fun _ h => ⟨h, rfl, .inl rfl⟩, unserved := fun h h' => ⟨h, h'⟩ }

theorem Keeps.trans {s t u : State} (h : Keeps s t) (h' : Keeps t u) : Keeps s u where
  toSteady := h.toSteady.trans h'.toSteady
  served m hm := by
    obtain ⟨hat, hct, hmt⟩ := h.served m hm
    obtain ⟨hau, hcu, hmu⟩ := h'.served m hat
    refine ⟨hau, hcu.trans hct, ?_⟩
    rcases hmu with hmu | ⟨e, x, he, hx, hle⟩
    · rw [hmu]
      exact hmt
    · rw [(h.samePlans hct).eventDue] at hx
      exact .inr ⟨e, x, he, hx, h.now ▸ hle⟩
  unserved hm hw := by
    obtain ⟨hmt, hwt⟩ := h.unserved hm hw
    exact h'.unserved hmt hwt

theorem Keeps.foldl {α : Type} {f : State → α → State} (hf : ∀ s x, Keeps s (f s x)) (xs : List α) (s : State) :
    Keeps s (xs.foldl f s) := foldl_rel Keeps.refl Keeps.trans hf xs s

theorem Keeps.ite {s t u : State} {p : Prop} [Decidable p] (ht : Keeps s t) (hu : Keeps s u) : Keeps s (if p then t else u) := by
  split
  · exact ht
  · exact hu

/-- An operation on the channels, the touch, the strike queue, the allowance, the lights and the links. -/
theorem Keeps.of_eq {s t : State}
    (h : t = { s with
      dials := t.dials, hammers := t.hammers, strikes := t.strikes, touch := t.touch, swings := t.swings
      startRequests := t.startRequests, allowance := t.allowance, lights := t.lights, panel := t.panel
      chamber := t.chamber }) : Keeps s t := by
  have ht : t.time = s.time := by rw [h]
  have ha : t.arbiter = s.arbiter := by rw [h]
  exact
    { elapsed := by rw [h]
      time := by rw [ht]
      calendar := by rw [h]
      timers := by rw [h]
      score := by rw [h]
      tunes := by rw [h]
      methods := by rw [h]
      programs := by rw [h]
      power := by rw [h]
      maintenance := by rw [h]
      clockStrike := by rw [ha]
      stepRecord := by rw [h]
      forward := .of_eq (by rw [ht])
      served := fun m hm => ⟨⟨by rw [ht]; exact hm.marker, by rw [ha]; exact hm.ids,
        by rw [ha, State.now, ht]; exact hm.ahead⟩, by rw [h], .inl (by rw [ht])⟩
      unserved := fun hm hw => ⟨by rw [ht]; exact hm, by rw [NoClockWaits, ha]; exact hw⟩ }

/-- A notice of any kind but TIME-STEPPED. -/
theorem Keeps.raise (d : Detail) (s : State) (h : d.kind ≠ 1 := by simp [Detail.kind]) : Keeps s (Machine.raise d s) where
  elapsed := rfl
  time := rfl
  calendar := rfl
  timers := rfl
  score := rfl
  tunes := rfl
  methods := rfl
  programs := rfl
  power := rfl
  maintenance := rfl
  clockStrike := rfl
  stepRecord := raise_details_ne s h
  forward := .of_eq rfl
  served _ hm := ⟨⟨hm.marker, hm.ids, hm.ahead⟩, rfl, .inl rfl⟩
  unserved hm hw := ⟨hm, hw⟩

/-- A change of the queue after which its clock events are clock events that stood in it, with the same state, due start
and event, and no two ids are one that were not before; and no clock event has come to wait. -/
structure QueueKept (q q' : List Perf) : Prop where
  kept : (q.map (·.id)).Nodup → (q'.map (·.id)).Nodup
    ∧ ∀ c ∈ q', c.isClock = true →
        ∃ c' ∈ q, c'.isClock = true ∧ c'.state = c.state ∧ c'.dueStart = c.dueStart ∧ c'.event = c.event
  waits : ∀ c ∈ q', c.isClock = true → c.state = .waiting → ∃ c' ∈ q, c'.isClock = true ∧ c'.state = .waiting

theorem QueueKept.filter (f : Perf → Bool) (q : List Perf) : QueueKept q (q.filter f) where
  kept hq := ⟨hq.sublist (List.filter_sublist.map _), fun c hc hk => ⟨c, List.mem_of_mem_filter hc, hk, rfl, rfl, rfl⟩⟩
  waits c hc hk hw := ⟨c, List.mem_of_mem_filter hc, hk, hw⟩

/-- A change of performances that keeps what they are, and of the clock events also the state and the due start. -/
theorem QueueKept.map {f : Perf → Perf} {q : List Perf} (hid : ∀ p, (f p).id = p.id) (hsrc : ∀ p, (f p).source = p.source)
    (hwait : ∀ p, (f p).state = .waiting → p.state = .waiting)
    (hclock : (q.map (·.id)).Nodup → ∀ p ∈ q, p.isClock = true → (f p).state = p.state ∧ (f p).dueStart = p.dueStart) :
    QueueKept q (q.map f) := by
  have clock (p : Perf) (hk : (f p).isClock = true) : p.isClock = true := by simpa [Perf.isClock, Perf.cls, hsrc] using hk
  refine ⟨fun hq => ⟨?_, fun c hc hk => ?_⟩, fun c hc hk hw => ?_⟩
  · have ids : (q.map f).map (·.id) = q.map (·.id) := by simp [Function.comp_def, hid]
    exact ids ▸ hq
  · obtain ⟨p, hp, rfl⟩ := List.mem_map.mp hc
    obtain ⟨hs, hd⟩ := hclock hq p hp (clock p hk)
    exact ⟨p, hp, clock p hk, hs.symm, hd.symm, by simp [Perf.event, hsrc]⟩
  · obtain ⟨p, hp, rfl⟩ := List.mem_map.mp hc
    exact ⟨p, hp, clock p hk, hwait p hw⟩

theorem Keeps.withQueue {s : State} {q : List Perf} (h : QueueKept s.arbiter.queue q) : Keeps s (s.withQueue q) where
  elapsed := rfl
  time := rfl
  calendar := rfl
  timers := rfl
  score := rfl
  tunes := rfl
  methods := rfl
  programs := rfl
  power := rfl
  maintenance := rfl
  clockStrike := rfl
  stepRecord := rfl
  forward := .of_eq rfl
  served m hm := by
    obtain ⟨ids, clocks⟩ := h.kept hm.ids
    refine ⟨⟨hm.marker, ids, fun c hc hk => ?_⟩, rfl, .inl rfl⟩
    obtain ⟨c', hc', hk', hs, hd, he⟩ := clocks c hc hk
    rw [← hs, ← hd, ← he]
    exact hm.ahead c' hc' hk'
  unserved hm hw := by
    refine ⟨hm, fun c hc hk hs => ?_⟩
    obtain ⟨c', hc', hk', hs'⟩ := h.waits c hc hk hs
    exact hw c' hc' hk' hs'

/-- A change of one performance that leaves what it is, its state and its due start. -/
theorem Keeps.updatePerf (id : Nat) {f : Perf → Perf} (s : State) (hid : ∀ p, (f p).id = p.id := by intro p; rfl)
    (hsrc : ∀ p, (f p).source = p.source := by intro p; rfl) (hstate : ∀ p, (f p).state = p.state := by intro p; rfl)
    (hdue : ∀ p, (f p).dueStart = p.dueStart := by intro p; rfl) : Keeps s (Machine.updatePerf id f s) := by
  refine Keeps.withQueue (QueueKept.map (fun p => ?_) (fun p => ?_) (fun p => ?_) (fun _ p _ _ => ?_))
  · split <;> simp [hid]
  · split <;> simp [hsrc]
  · split <;> simp [hstate]
  · split <;> simp [hstate, hdue]

/-- A change of one performance that is no clock event and becomes ACTIVE. -/
theorem Keeps.activate {p : Perf} {f : Perf → Perf} {s : State} (hp : p ∈ s.arbiter.queue) (hk : p.isClock = false)
    (hid : ∀ p, (f p).id = p.id := by intro p; rfl) (hsrc : ∀ p, (f p).source = p.source := by intro p; rfl)
    (hactive : ∀ p, (f p).state = .active := by intro p; rfl) :
    Keeps s (Machine.updatePerf p.id f s) := by
  refine Keeps.withQueue (QueueKept.map (fun p => ?_) (fun p => ?_) (fun p => ?_) (fun hq c hc hkc => ?_))
  · split <;> simp [hid]
  · split <;> simp [hsrc]
  · split <;> simp [hactive]
  · have hne : c.id ≠ p.id := by
      intro he
      have : c = p := List.inj_on_of_nodup_map hq hc hp he
      rw [this, hk] at hkc
      cases hkc
    simp [hne]

theorem Keeps.dropPerf (id : Nat) (s : State) : Keeps s (Machine.dropPerf id s) := Keeps.withQueue (QueueKept.filter _ _)

/-- An operation on a WAITING clock event whose due start has come: where the clock events lie ahead, and where none
waits, there is none. -/
theorem Keeps.of_due_clock {s t : State} {p : Perf} (h : Steady s t) (hp : p ∈ s.arbiter.queue) (hk : p.isClock = true)
    (hw : p.state = .waiting) (hd : p.dueStart ≤ s.now) : Keeps s t where
  toSteady := h
  served m hm := by
    obtain ⟨-, hlt, -⟩ := hm.ahead p hp hk
    exact absurd hd (Int.not_le.mpr hlt)
  unserved _ hno := absurd hw (hno p hp hk)

end Sys2Proof.Machine

namespace Sys2Proof.Machine

open Sys2Proof

/-! ## Offering the hammers -/

/-- What the arbiter does in offering the hammers (R62, R72 to R76): the queue, the marker, a chime pointer, the touch and
the notices 8 and 11 with the links' sets, and nothing else. -/
structure Offers (s t : State) : Prop where
  same : t = { s with
    time := { s.time with marker := t.time.marker }, chimes := t.chimes
    arbiter := { s.arbiter with queue := t.arbiter.queue, nextId := t.arbiter.nextId }
    touch := t.touch, details := t.details, panel := t.panel, chamber := t.chamber }
  details : ∀ k, k ≠ 8 → k ≠ 11 → nth t.details k = nth s.details k
  forward : MarkerForward s t

theorem Offers.refl (s : State) : Offers s s := ⟨rfl, fun _ _ _ => rfl, .of_eq rfl⟩

theorem Offers.trans {s t u : State} (h : Offers s t) (h' : Offers t u) : Offers s u where
  same := h'.same.trans (by rw [h.same])
  details k h8 h11 := (h'.details k h8 h11).trans (h.details k h8 h11)
  forward := h.forward.trans h'.forward

theorem Offers.foldl {α : Type} {f : State → α → State} (hf : ∀ s x, Offers s (f s x)) (xs : List α) (s : State) :
    Offers s (xs.foldl f s) := foldl_rel Offers.refl Offers.trans hf xs s

theorem Offers.ite {s t u : State} {p : Prop} [Decidable p] (ht : Offers s t) (hu : Offers s u) :
    Offers s (if p then t else u) := by
  split
  · exact ht
  · exact hu

theorem Offers.steady {s t : State} (h : Offers s t) : Steady s t where
  elapsed := by rw [h.same]
  time := by rw [h.same]
  calendar := by rw [h.same]
  timers := by rw [h.same]
  score := by rw [h.same]
  tunes := by rw [h.same]
  methods := by rw [h.same]
  programs := by rw [h.same]
  power := by rw [h.same]
  maintenance := by rw [h.same]
  clockStrike := by rw [h.same]
  stepRecord := h.details 1 (by decide) (by decide)
  forward := h.forward

theorem Offers.withQueue (s : State) (q : List Perf) : Offers s (s.withQueue q) := ⟨rfl, fun _ _ _ => rfl, .of_eq rfl⟩

theorem Offers.updatePerf (id : Nat) (f : Perf → Perf) (s : State) : Offers s (updatePerf id f s) := .withQueue _ _

theorem Offers.dropPerf (id : Nat) (s : State) : Offers s (dropPerf id s) := .withQueue _ _

theorem Offers.omitted (p : Perf) (reason : OmitReason) (part : ClockPart) (s : State) : Offers s (omitted p reason part s) :=
  ⟨rfl, fun _ h8 _ => raise_details_ne s (Ne.symm h8), .of_eq rfl⟩

/-- The touch that leaves the queue, if it is one. -/
theorem Offers.endTouch (p : Perf) (how : TouchHow) (reason : Option OmitReason) (s : State) :
    Offers s (endTouch p how reason s) := by
  unfold Machine.endTouch
  exact .ite ⟨rfl, fun _ _ h11 => raise_details_ne _ (Ne.symm h11), .of_eq rfl⟩ (.refl s)

theorem moveMarker_of_none {event : Nat} {s : State} (h : s.time.marker = none) :
    moveMarker event s = { s with time := { s.time with marker := some event } } := by
  simp only [moveMarker, h]

theorem moveMarker_of_lt {event m : Nat} {s : State} (h : s.time.marker = some m) (hlt : m < event) :
    moveMarker event s = { s with time := { s.time with marker := some event } } := by
  simp only [moveMarker, h, if_pos hlt]

theorem moveMarker_of_ge {event m : Nat} {s : State} (h : s.time.marker = some m) (hle : event ≤ m) : moveMarker event s = s := by
  simp only [moveMarker, h, if_neg (Nat.not_lt.mpr hle)]

theorem Offers.moveMarker (event : Nat) (s : State) : Offers s (moveMarker event s) := by
  cases hm : s.time.marker with
  | none =>
    rw [moveMarker_of_none hm]
    exact ⟨rfl, fun _ _ _ => rfl, fun m h => by rw [hm] at h; cases h⟩
  | some k =>
    rcases Nat.lt_or_ge k event with hlt | hge
    · rw [moveMarker_of_lt hm hlt]
      refine ⟨rfl, fun _ _ _ => rfl, fun m h => ⟨event, rfl, ?_⟩⟩
      rw [hm] at h
      cases h
      exact Nat.le_of_lt hlt
    · rw [moveMarker_of_ge hm hge]
      exact .refl s

theorem Offers.serveEvent (p : Perf) (s : State) : Offers s (serveEvent p s) := by
  unfold Machine.serveEvent
  split
  · exact .moveMarker _ s
  · exact .refl s

theorem Offers.endHold (was : Option Nat) (s : State) : Offers s (endHold was s) := by
  unfold Machine.endHold
  split
  · exact .ite (.updatePerf _ _ s) (.refl s)
  · exact .refl s

theorem Offers.leaveOmitted (p : Perf) (s : State) : Offers s (leaveOmitted p s) :=
  ((Offers.dropPerf p.id s).trans (.serveEvent p _)).trans (.endHold _ _)

theorem Offers.omitPerf (p : Perf) (reason : OmitReason) (part : ClockPart) (s : State) : Offers s (omitPerf p reason part s) :=
  ((((Offers.endTouch p _ _ s).trans (.omitted p reason part _)).trans (.dropPerf p.id _)).trans (.serveEvent p _)).trans
    (.endHold _ _)

theorem Offers.advanceChime (set position : Nat) (s : State) : Offers s (advanceChime set position s) := by
  unfold Machine.advanceChime
  exact .ite (.refl s) ⟨rfl, fun _ _ _ => rfl, .of_eq rfl⟩

theorem Offers.startClock (p : Perf) (event : Nat) (chime : Option ChimePart) (strike : Option StrikePart) (s : State) :
    Offers s (startClock p event chime strike s) := by
  cases chime with
  | none => exact (Offers.updatePerf _ _ s).trans (.moveMarker _ _)
  | some c => exact ((Offers.updatePerf _ _ s).trans (.moveMarker _ _)).trans (.advanceChime _ _ _)

theorem Offers.arbitrateClock (p : Perf) (event : Nat) (chime : Option ChimePart) (strike : Option StrikePart)
    (part : ClockPart) (s : State) : Offers s (arbitrateClock p event chime strike part s) := by
  unfold Machine.arbitrateClock
  split
  · exact .startClock _ _ _ _ s
  · exact .ite ((Offers.updatePerf _ _ s).trans (.startClock _ _ _ _ _)) (.omitPerf _ _ _ s)

theorem Offers.partTest {α : Type} (p : Perf) (reason : OmitReason) (part : ClockPart) (fails : α → Bool) (x : Option α)
    (s : State) : Offers s (partTest p reason part fails x s).2 := by
  unfold Machine.partTest
  split
  · exact .omitted p reason part s
  · exact .refl s

theorem Offers.testClock (p : Perf) (event : Nat) (chime : Option ChimePart) (strike : Option StrikePart) (s : State) :
    Offers s (testClock p event chime strike s) := by
  unfold Machine.testClock
  refine .ite (.omitPerf _ _ _ s) ?_
  refine .ite ?_ ?_
  · exact ((((Offers.partTest _ _ _ _ _ s).trans (.partTest _ _ _ _ _ _)).trans (.partTest _ _ _ _ _ _)).trans
      (.partTest _ _ _ _ _ _)).trans (.leaveOmitted p _)
  · exact ((((Offers.partTest _ _ _ _ _ s).trans (.partTest _ _ _ _ _ _)).trans (.partTest _ _ _ _ _ _)).trans
      (.partTest _ _ _ _ _ _)).trans (.arbitrateClock _ _ _ _ _ _)

theorem Offers.startPlain (p : Perf) (s : State) : Offers s (startPlain p s) := by
  unfold Machine.startPlain
  exact .ite ⟨rfl, fun _ _ _ => rfl, .of_eq rfl⟩ (.updatePerf _ _ s)

theorem Offers.testPlain (p : Perf) (k : SilenceClass) (lacks : Bool) (s : State) : Offers s (testPlain p k lacks s) := by
  unfold Machine.testPlain
  refine .ite (.omitPerf _ _ _ s) (.ite (.omitPerf _ _ _ s) ?_)
  split
  · exact .startPlain p s
  · exact .updatePerf _ _ s

theorem Offers.startTest (p : Perf) (s : State) : Offers s (startTest p s) := by
  unfold Machine.startTest
  refine .ite (.omitPerf _ _ _ s) ?_
  split
  · exact .testClock _ _ _ _ s
  · exact .testPlain _ _ _ s
  · exact .testPlain _ _ _ s
  · exact .testPlain _ _ _ s

theorem Offers.offerTo (s : State) (id : Nat) : Offers s (offerTo s id) := by
  unfold Machine.offerTo
  split
  · exact .ite (.startTest _ s) (.refl s)
  · exact .refl s

theorem Offers.offerHammers (clock : Option Int) (s : State) : Offers s (offerHammers clock s) := by
  unfold Machine.offerHammers
  split
  · exact .updatePerf _ _ s
  · exact .foldl Offers.offerTo _ s

/-! ## The arbiter keeps the clock events that lie ahead -/

theorem Perf.event_of_plain {p : Perf} (h : p.isClock = false) : p.event = none := by
  cases hs : p.source <;> simp_all [Perf.isClock, Perf.cls, Source.cls, Perf.event]

theorem serveEvent_of_plain {p : Perf} (h : p.isClock = false) (s : State) : serveEvent p s = s := by
  simp [serveEvent, Perf.event_of_plain h]

theorem Keeps.endTouch (p : Perf) (how : TouchHow) (reason : Option OmitReason) (s : State) :
    Keeps s (endTouch p how reason s) := by
  unfold Machine.endTouch
  exact .ite ((Keeps.of_eq rfl).trans (.raise _ _)) (.refl s)

theorem Keeps.endHold (was : Option Nat) (s : State) : Keeps s (endHold was s) := by
  unfold Machine.endHold
  split
  · exact .ite (.updatePerf _ s) (.refl s)
  · exact .refl s

theorem Keeps.omitPerf {p : Perf} (h : p.isClock = false) (reason : OmitReason) (part : ClockPart) (s : State) :
    Keeps s (omitPerf p reason part s) := by
  simp only [Machine.omitPerf, serveEvent_of_plain h]
  exact (((Keeps.endTouch p _ _ s).trans (.raise _ _)).trans (.dropPerf p.id _)).trans (.endHold _ _)

theorem Keeps.startPlain {p : Perf} {s : State} (hp : p ∈ s.arbiter.queue) (h : p.isClock = false) : Keeps s (startPlain p s) := by
  unfold Machine.startPlain
  have updated := Keeps.activate (s := s)
    (f := fun p => { p with state := .active, tested := true, origin := some (s.now + Config.startAllowance) }) hp h
  exact .ite (updated.trans (.of_eq rfl)) updated

theorem Keeps.testPlain {p : Perf} {s : State} (hp : p ∈ s.arbiter.queue) (h : p.isClock = false) (k : SilenceClass)
    (lacks : Bool) : Keeps s (testPlain p k lacks s) := by
  unfold Machine.testPlain
  refine .ite (.omitPerf h _ _ s) (.ite (.omitPerf h _ _ s) ?_)
  split
  · exact .startPlain hp h
  · exact .updatePerf _ s

/-- The test of a performance whose due start has come (R72). -/
theorem Keeps.startTest {p : Perf} {s : State} (hp : p ∈ s.arbiter.queue) (hw : p.state = .waiting) (hd : p.dueStart ≤ s.now) :
    Keeps s (startTest p s) := by
  cases hk : p.isClock with
  | true => exact .of_due_clock (Offers.startTest p s).steady hp hk hw hd
  | false =>
    unfold Machine.startTest
    refine .ite (.omitPerf hk _ _ s) ?_
    split
    · rename_i hs
      simp [Perf.isClock, Perf.cls, Source.cls, hs] at hk
    · exact .testPlain hp hk _ _
    · exact .testPlain hp hk _ _
    · exact .testPlain hp hk _ _

theorem Keeps.offerTo (s : State) (id : Nat) : Keeps s (offerTo s id) := by
  unfold Machine.offerTo
  split
  · rename_i p hfind _
    split
    · rename_i hdue
      simp only [Bool.and_eq_true, beq_iff_eq, decide_eq_true_eq] at hdue
      exact .startTest (List.mem_of_find?_eq_some hfind) hdue.1 hdue.2
    · exact .refl s
  · exact .refl s

/-- A PAUSED performance resumes (R75): where the clock events lie ahead it is none of them. -/
theorem Keeps.resume {q : Perf} {s : State} (clock : Option Int) (hq : q ∈ s.arbiter.queue) (hs : q.state = .paused) :
    Keeps s (resume clock q s) := by
  cases hk : q.isClock with
  | false => exact .activate hq hk
  | true =>
    refine { (Offers.updatePerf _ _ s).steady with served := fun m hm => ?_, unserved := fun hm hno => ⟨hm, ?_⟩ }
    · obtain ⟨hw, -⟩ := hm.ahead q hq hk
      rw [hs] at hw
      cases hw
    · intro c hc hkc
      obtain ⟨p, hp, rfl⟩ := List.mem_map.mp hc
      split
      · simp [Perf.rebase]
      · rename_i hne
        rw [if_neg hne] at hkc
        exact hno p hp hkc

theorem Keeps.offerHammers (clock : Option Int) (s : State) : Keeps s (offerHammers clock s) := by
  unfold Machine.offerHammers
  split
  · rename_i q hfind
    have hq := List.find?_some hfind
    simp only [Bool.and_eq_true, beq_iff_eq] at hq
    exact .resume clock (List.mem_of_find?_eq_some hfind) hq.1
  · exact .foldl Keeps.offerTo _ s

theorem Keeps.endPerf (p : Perf) (how : How) (s : State) : Keeps s (endPerf p how s) := by
  unfold Machine.endPerf
  exact (((Keeps.ite (.of_eq rfl) (.refl s)).trans (.endTouch p _ _ _)).trans (.raise _ _)).trans (.dropPerf p.id _)

theorem Keeps.checkEnd (s : State) (id : Nat) : Keeps s (checkEnd s id) := by
  unfold Machine.checkEnd
  split
  · refine .ite ?_ (.refl s)
    exact .ite ((Keeps.endPerf _ _ s).trans (.offerHammers _ _)) (.endPerf _ _ s)
  · exact .refl s

/-! ## The hammers and the swing bells -/

theorem Keeps.dropEntry (reason : DropReason) (s : State) (e : Entry) : Keeps s (dropEntry reason s e) :=
  (Keeps.updatePerf e.id s).trans (.raise _ _)

theorem Keeps.dropEntriesFor (bell : Nat) (reason : DropReason) (s : State) : Keeps s (dropEntriesFor bell reason s) :=
  ((Keeps.of_eq rfl).trans (.foldl (Keeps.dropEntry reason) _ _)).trans (.foldl Keeps.checkEnd _ _)

theorem Keeps.withHammer (s : State) (b : Nat) (x : Hammer) : Keeps s (s.withHammer b x) := .of_eq rfl

theorem Keeps.withSwing (s : State) (c : Nat) (x : Swing) : Keeps s (s.withSwing c x) := .of_eq rfl

theorem Keeps.assertWithdraw (b : Nat) (s : State) : Keeps s (assertWithdraw b s).1 := by
  unfold Machine.assertWithdraw
  dsimp only
  split
  · exact .withHammer s b _
  · exact .withHammer s b _

theorem Keeps.withdrawRequest (b : Nat) (s : State) : Keeps s (withdrawRequest b s).1 := by
  have dropped (x : Hammer) : Keeps s (Machine.dropEntriesFor b .withdrawn (s.withHammer b x)) :=
    (Keeps.withHammer s b x).trans (.dropEntriesFor b _ _)
  unfold Machine.withdrawRequest
  dsimp only
  split
  · exact dropped _
  · split
    any_goals exact (dropped _).trans (.assertWithdraw b _)
    · exact dropped _
    · exact .assertWithdraw b s
    · split
      · exact .assertWithdraw b s
      · exact .refl s
    · exact .refl s

theorem Keeps.watchLoad {f : State → State} {s : State} (h : Keeps s (f s)) : Keeps s (watchLoad f s) := by
  rcases watchLoad_cases f s with e | e <;> rw [e]
  · exact h
  · exact h.trans (.of_eq rfl)

theorem Keeps.enterRaising (c : Nat) (s : State) : Keeps s (enterRaising c s) := .of_eq rfl

theorem Keeps.enterFault (c : Nat) (cause : SwingCause) (s : State) : Keeps s (enterFault c cause s) :=
  .watchLoad ((Keeps.withSwing s c _).trans (.raise _ _))

theorem Keeps.enterDown (c : Nat) (s : State) : Keeps s (enterDown c s) :=
  ((Keeps.withSwing s c _).trans (.raise _ _)).trans (.withSwing _ c _)

theorem Keeps.deliver (b : Nat) (a : HammerAnswer) (s : State) : Keeps s (deliver b a s) := by
  unfold Machine.deliver
  split
  · exact .refl s
  · split
    · exact .enterRaising _ s
    any_goals exact .enterFault _ _ s
    · exact .enterDown _ s
    · exact .refl s

theorem Keeps.enterClearing (c : Nat) (s : State) : Keeps s (enterClearing c s) := by
  have requested (b : Nat) (x : Swing) := (Keeps.withSwing s c x).trans (.withdrawRequest b (s.withSwing c x))
  unfold Machine.enterClearing Machine.answering
  dsimp only
  split
  · exact (requested _ _).trans (.deliver _ _ _)
  · exact requested _ _

/-! ## The allowance and the lights -/

/-- What the lights do to the state: circuits, allowance and LOAD-HELD, with the links' sets; the raise queue stays. -/
structure OnlyLights (s t : State) : Prop where
  same : t = { s with
    lights := t.lights, allowance := t.allowance, details := t.details, panel := t.panel, chamber := t.chamber }
  queue : t.allowance.queue = s.allowance.queue
  details : ∀ k, k ≠ 15 → nth t.details k = nth s.details k

theorem OnlyLights.refl (s : State) : OnlyLights s s := ⟨rfl, rfl, fun _ _ => rfl⟩

theorem OnlyLights.trans {s t u : State} (h : OnlyLights s t) (h' : OnlyLights t u) : OnlyLights s u where
  same := h'.same.trans (by rw [h.same])
  queue := h'.queue.trans h.queue
  details k hk := (h'.details k hk).trans (h.details k hk)

theorem OnlyLights.foldl {α : Type} {f : State → α → State} (hf : ∀ s x, OnlyLights s (f s x)) (xs : List α) (s : State) :
    OnlyLights s (xs.foldl f s) := foldl_rel OnlyLights.refl OnlyLights.trans hf xs s

theorem OnlyLights.ite {s t u : State} {p : Prop} [Decidable p] (ht : OnlyLights s t) (hu : OnlyLights s u) :
    OnlyLights s (if p then t else u) := by
  split
  · exact ht
  · exact hu

theorem OnlyLights.keeps {s t : State} (h : OnlyLights s t) : Keeps s t where
  elapsed := by rw [h.same]
  time := by rw [h.same]
  calendar := by rw [h.same]
  timers := by rw [h.same]
  score := by rw [h.same]
  tunes := by rw [h.same]
  methods := by rw [h.same]
  programs := by rw [h.same]
  power := by rw [h.same]
  maintenance := by rw [h.same]
  clockStrike := by rw [h.same]
  stepRecord := h.details 1 (by decide)
  forward := .of_eq (by rw [h.same])
  served m hm := by
    rw [h.same]
    exact ⟨⟨hm.marker, hm.ids, hm.ahead⟩, rfl, .inl rfl⟩
  unserved hm hw := by
    rw [h.same]
    exact ⟨hm, hw⟩

theorem OnlyLights.withCircuit (s : State) (c : Nat) (x : Circuit) : OnlyLights s (s.withCircuit c x) := ⟨rfl, rfl, fun _ _ => rfl⟩

theorem OnlyLights.watchLoad {f : State → State} {s : State} (h : OnlyLights s (f s)) : OnlyLights s (watchLoad f s) := by
  rcases watchLoad_cases f s with e | e <;> rw [e]
  · exact h
  · exact h.trans ⟨rfl, rfl, fun _ _ => rfl⟩

theorem OnlyLights.grant (c d seconds : Nat) (s : State) : OnlyLights s (grant c d seconds s) := by
  unfold Machine.grant
  exact .ite ((OnlyLights.withCircuit s c _).trans ⟨rfl, rfl, fun _ h => raise_details_ne _ (Ne.symm h)⟩) (.withCircuit s c _)

theorem OnlyLights.setCircuit (c d seconds : Nat) (s : State) : OnlyLights s (setCircuit c d seconds s) := by
  refine .watchLoad ?_
  exact .ite ((OnlyLights.withCircuit s c _).trans (.withCircuit _ c _)) ((OnlyLights.withCircuit s c _).trans (.grant _ _ _ _))

theorem OnlyLights.yieldCircuit (s : State) (c : Nat) : OnlyLights s (yieldCircuit s c) := by
  have noted : OnlyLights s { s with allowance := { s.allowance with yieldSet := s.allowance.yieldSet ++ [c] } } :=
    ⟨rfl, rfl, fun _ _ => rfl⟩
  unfold Machine.yieldCircuit
  exact .ite (noted.trans (.watchLoad (.withCircuit _ c _))) (.refl s)

theorem OnlyLights.orderYield (s : State) : OnlyLights s (orderYield s) := by
  have ordered : OnlyLights s { s with allowance := { s.allowance with yieldOrdered := true } } := ⟨rfl, rfl, fun _ _ => rfl⟩
  exact ordered.trans (.foldl OnlyLights.yieldCircuit _ _)

theorem OnlyLights.restoreCircuit (s : State) (c : Nat) : OnlyLights s (restoreCircuit s c) := by
  unfold Machine.restoreCircuit
  dsimp only
  split
  · exact (OnlyLights.withCircuit s c _).trans (.setCircuit _ _ _ _)
  · exact .refl s

theorem OnlyLights.retryCircuit (s : State) (c : Nat) : OnlyLights s (retryCircuit s c) := by
  unfold Machine.retryCircuit
  dsimp only
  split
  · exact .ite (.withCircuit s c _) (.refl s)
  · exact .refl s

theorem OnlyLights.applyScene (scene fade : Nat) (s : State) : OnlyLights s (applyScene scene fade s) :=
  .foldl (fun s c => OnlyLights.setCircuit c _ fade s) _ s

theorem Keeps.admitHead (c : Nat) (s : State) : Keeps s (admitHead c s) := by
  unfold Machine.admitHead Machine.leaveRaise
  exact (Keeps.enterClearing c s).trans (.ite (.of_eq rfl) (.of_eq rfl))

theorem Keeps.tryHeads (n : Nat) (s : State) : Keeps s (tryHeads n s) := by
  induction n generalizing s with
  | zero => exact .refl s
  | succ n ih =>
    unfold Machine.tryHeads
    split
    · exact .refl s
    · exact .ite ((Keeps.admitHead _ s).trans (ih _)) (.ite (.refl s) (OnlyLights.orderYield s).keeps)

theorem Keeps.tryHead (s : State) : Keeps s (tryHead s) := (Keeps.tryHeads 13 s).trans (.of_eq rfl)

theorem OnlyLights.restoring (s : State) :
    OnlyLights s ((numbers 1 16).foldl Machine.retryCircuit
      (if raisePending s then s else (numbers 1 16).foldl Machine.restoreCircuit s)) :=
  (OnlyLights.ite (.refl s) (.foldl OnlyLights.restoreCircuit _ s)).trans (.foldl OnlyLights.retryCircuit _ _)

theorem Keeps.release (s : State) : Keeps s (release s) := by
  have begun : Keeps s { s with allowance := { s.allowance with releaseDue := false } } := .of_eq rfl
  exact (begun.trans (.tryHead _)).trans (OnlyLights.restoring _).keeps

theorem Keeps.workOff (n : Nat) (s : State) : Keeps s (workOff n s) := by
  induction n generalizing s with
  | zero => exact .refl s
  | succ n ih =>
    unfold Machine.workOff
    exact .ite ((Keeps.tryHead s).trans (ih _)) (.ite ((Keeps.release s).trans (ih _)) (.refl s))

theorem Keeps.settleLoad (s : State) : Keeps s (settleLoad s) := (Keeps.workOff 32 s).trans (.of_eq rfl)

/-- With no head in the raise queue only the lights change (R142, R147). -/
theorem OnlyLights.tryHead {s : State} (hq : s.allowance.queue = []) : OnlyLights s (tryHead s) := by
  have idle : tryHeads 13 s = s := by rw [tryHeads, hq]; rfl
  unfold Machine.tryHead
  rw [idle]
  exact ⟨rfl, rfl, fun _ _ => rfl⟩

theorem OnlyLights.release {s : State} (hq : s.allowance.queue = []) : OnlyLights s (release s) := by
  have begun : OnlyLights s { s with allowance := { s.allowance with releaseDue := false } } := ⟨rfl, rfl, fun _ _ => rfl⟩
  exact (begun.trans (.tryHead hq)).trans (.restoring _)

theorem OnlyLights.workOff (n : Nat) {s : State} (hq : s.allowance.queue = []) : OnlyLights s (workOff n s) := by
  induction n generalizing s with
  | zero => exact .refl s
  | succ n ih =>
    unfold Machine.workOff
    refine .ite ?_ (.ite ?_ (.refl s))
    · have h := OnlyLights.tryHead hq
      exact h.trans (ih (h.queue.trans hq))
    · have h := OnlyLights.release hq
      exact h.trans (ih (h.queue.trans hq))

theorem OnlyLights.settleLoad {s : State} (hq : s.allowance.queue = []) : OnlyLights s (settleLoad s) :=
  (OnlyLights.workOff 32 hq).trans ⟨rfl, rfl, fun _ _ => rfl⟩

/-- The scenes that restoration applies, before what they free is worked off. -/
theorem OnlyLights.scenes (ns : List Nat) (s : State) : OnlyLights s (ns.foldl (fun s n => Machine.applyScene n 0 s) s) :=
  .foldl (fun s n => OnlyLights.applyScene n 0 s) ns s

theorem OnlyLights.restoreLights {s : State} (hq : s.allowance.queue = []) : OnlyLights s (restoreLights s) := by
  have h := OnlyLights.scenes (restorationScenes s) s
  exact .ite (h.trans (.settleLoad (h.queue.trans hq))) (.refl s)

theorem Keeps.restoreLights (s : State) : Keeps s (restoreLights s) :=
  .ite ((OnlyLights.scenes _ s).keeps.trans (.settleLoad _)) (.refl s)

end Sys2Proof.Machine

namespace Sys2Proof.Machine

open Sys2Proof

/-! ## Ids and the places of the queue (R60, R61) -/

/-- The ids that follow `n`, nine of them with `n` itself, before one comes again. -/
theorem idAfter_iterate (n i : Nat) (hi : i ≤ 255) :
    idAfter^[i] n = if i = 0 then n else if 255 < n then i else if n + i ≤ 255 then n + i else n + i - 255 := by
  induction i with
  | zero => rfl
  | succ i ih =>
    replace ih := ih (by omega)
    rw [Function.iterate_succ_apply', idAfter, if_neg (Nat.succ_ne_zero i)]
    generalize idAfter^[i] n = k at ih ⊢
    split_ifs at ih ⊢ <;> omega

/-- Where the search for a free id ends on an id in use, all those it passed are in use. -/
theorem mem_of_freeId_mem {used : List Nat} {fuel n : Nat} (h : freeId used fuel n ∈ used) :
    ∀ i ≤ fuel, idAfter^[i] n ∈ used := by
  induction fuel generalizing n with
  | zero =>
    intro i hi
    obtain rfl : i = 0 := by omega
    exact h
  | succ fuel ih =>
    rw [freeId] at h
    by_cases hn : used.contains n
    · rw [if_pos hn] at h
      intro i hi
      cases i with
      | zero => simpa using hn
      | succ i => exact ih h i (by omega)
    · rw [if_neg hn] at h
      exact absurd h (by simpa using hn)

/-- With at most eight performances in the queue the id that the next one takes is free (R60). -/
theorem newId_free {s : State} (h : s.arbiter.queue.length ≤ 8) : newId s ∉ s.arbiter.queue.map (·.id) := by
  intro hmem
  have all := mem_of_freeId_mem hmem
  have nodup : ((List.range 9).map (fun i => idAfter^[i] s.arbiter.nextId)).Nodup := by
    refine List.Nodup.map_on (fun i hi j hj hij => ?_) List.nodup_range
    rw [List.mem_range] at hi hj
    rw [idAfter_iterate _ i (by omega), idAfter_iterate _ j (by omega)] at hij
    split_ifs at hij <;> omega
  have sub : ((List.range 9).map (fun i => idAfter^[i] s.arbiter.nextId)) ⊆ s.arbiter.queue.map (·.id) := by
    intro x hx
    obtain ⟨i, hi, rfl⟩ := List.mem_map.mp hx
    rw [List.mem_range] at hi
    exact all i (by omega)
  have := (List.subperm_of_subset nodup sub).length_le
  simp at this
  omega

/-- A performance joins the queue somewhere between those that stand in it. -/
theorem enqueue_eq (p : Perf) (q : List Perf) : ∃ l r, q = l ++ r ∧ enqueue p q = l ++ p :: r := by
  induction q with
  | nil => exact ⟨[], [], rfl, rfl⟩
  | cons x xs ih =>
    by_cases hb : p.before x
    · exact ⟨[], x :: xs, rfl, by simp [enqueue, hb]⟩
    · obtain ⟨l, r, hq, he⟩ := ih
      exact ⟨x :: l, r, by simp [hq], by simp [enqueue, hb, he]⟩

theorem mem_enqueue (p x : Perf) (q : List Perf) : x ∈ enqueue p q ↔ x = p ∨ x ∈ q := by
  obtain ⟨l, r, hq, he⟩ := enqueue_eq p q
  rw [he, hq]
  simp only [List.mem_append, List.mem_cons]
  tauto

theorem length_enqueue (p : Perf) (q : List Perf) : (enqueue p q).length = q.length + 1 := by
  obtain ⟨l, r, hq, he⟩ := enqueue_eq p q
  rw [he, hq]
  simp only [List.length_append, List.length_cons]
  omega

theorem filter_enqueue {f : Perf → Bool} {p : Perf} (h : f p = false) (q : List Perf) : (enqueue p q).filter f = q.filter f := by
  obtain ⟨l, r, hq, he⟩ := enqueue_eq p q
  rw [he, hq]
  simp [h]

theorem nodup_enqueue {p : Perf} {q : List Perf} (hq : (q.map (·.id)).Nodup) (hp : p.id ∉ q.map (·.id)) :
    ((enqueue p q).map (·.id)).Nodup := by
  obtain ⟨l, r, rfl, he⟩ := enqueue_eq p q
  rw [he, List.map_append, List.map_cons, List.nodup_middle]
  exact List.nodup_cons.mpr ⟨by simpa using hp, by simpa using hq⟩

/-! ## Building the clock events that lie ahead (R68, R69, R79) -/

/-- An event may be built, and its due start is still ahead (R79, step 5). -/
def BuildsAhead (s : State) (n : Nat) : Prop :=
  buildable s n = true ∧ ∃ x, eventDue s n = some x ∧ s.now < x

/-- The WAITING clock event that is built for an event which lands first at `first`. -/
def builtPerf (s : State) (n : Nat) (first : Int) : Perf :=
  waitingPerf (newId s) (.clock n (planChime s n) (planStrike s n)) first 0

theorem buildable_iff (s : State) (n : Nat) : buildable s n = true ↔
    s.time.validity = .isSet ∧ (∃ m, s.time.marker = some m ∧ m < n) ∧ eventQueued s n = false
      ∧ ∃ x, eventDue s n = some x ∧ x - 60000 ≤ s.now := by
  simp [buildable, afterMarker, Option.any_eq_true, Config.buildAhead, and_assoc]

/-- The due start is that of the earlier part (R62, R69). -/
theorem eventDue_eq_some {s : State} {n : Nat} {x : Int} :
    eventDue s n = some x ↔ firstOf (planChime s n) (planStrike s n) = some (x + 2000) := by
  simp only [eventDue, Config.startAllowance, Option.map_eq_some_iff]
  constructor
  · rintro ⟨y, hy, rfl⟩
    simpa using hy
  · intro h
    exact ⟨_, h, by omega⟩

theorem tooLate_eq_false_iff (s : State) (first : Int) : tooLate s first = false ↔ s.now + 2000 ≤ first := by
  rw [tooLate, decide_eq_false_iff_not, Int.not_lt]
  rfl

/-- No part of an event is late when the event's due start is ahead. -/
theorem not_tooLate_of_ahead {s : State} {n : Nat} {x : Int} (hx : eventDue s n = some x) (hlt : s.now < x) :
    (planChime s n).any (fun c => tooLate s c.first) = false ∧ (planStrike s n).any (fun k => tooLate s k.first) = false := by
  rw [eventDue_eq_some] at hx
  cases hc : planChime s n <;> cases hk : planStrike s n <;>
    simp [hc, hk, firstOf, tooLate_eq_false_iff] at hx ⊢ <;> omega

/-- An event whose due start is ahead joins the queue whole, while there is room. -/
theorem buildEvent_ahead {s : State} {n : Nat} {x : Int} (hx : eventDue s n = some x) (hlt : s.now < x)
    (room : s.arbiter.queue.length < 8) : buildEvent n s = joinQueue (builtPerf s n (x + 2000)) s := by
  obtain ⟨hc, hk⟩ := not_tooLate_of_ahead hx hlt
  rw [eventDue_eq_some] at hx
  have full : ¬Config.queuePlaces ≤ s.arbiter.queue.length := Nat.not_le.mpr room
  simp only [buildEvent, if_neg full, hc, hk, Bool.false_eq_true, if_false, hx, latePart, Option.isSome_some, if_true]
  rfl

/-- An event that comes to a full queue is omitted BUSY, and served (R68). -/
theorem buildEvent_busy {s : State} {n : Nat} (full : 8 ≤ s.arbiter.queue.length) :
    buildEvent n s = moveMarker n (raise (.performanceOmitted 0 .clock .busy .whole (some n) 0 0) s) := by
  simp only [buildEvent, if_pos (show Config.queuePlaces ≤ s.arbiter.queue.length from full)]

/-- One candidate of the rebuilding after a step (R79, step 5). -/
def buildOne (s : State) (n : Nat) : State :=
  if buildable s n && (eventDue s n).any (fun d => decide (s.now < d)) then buildEvent n s else s

theorem buildAhead_eq (s : State) : buildAhead s = (candidates s).foldl buildOne s := rfl

/-- What one candidate does: nothing, or its event joins the queue, or it comes to a full one. -/
theorem buildOne_cases (s : State) (n : Nat) :
    (¬BuildsAhead s n ∧ buildOne s n = s)
      ∨ (∃ x, BuildsAhead s n ∧ eventDue s n = some x ∧ s.now < x ∧ s.arbiter.queue.length < 8
        ∧ buildOne s n = joinQueue (builtPerf s n (x + 2000)) s)
      ∨ (BuildsAhead s n ∧ 8 ≤ s.arbiter.queue.length
        ∧ buildOne s n = moveMarker n (raise (.performanceOmitted 0 .clock .busy .whole (some n) 0 0) s)) := by
  have guard : (buildable s n && (eventDue s n).any (fun d => decide (s.now < d))) = true ↔ BuildsAhead s n := by
    simp [BuildsAhead, Option.any_eq_true]
  by_cases h : BuildsAhead s n
  · have built : buildOne s n = buildEvent n s := by rw [buildOne, if_pos (guard.mpr h)]
    obtain ⟨x, hx, hlt⟩ := h.2
    rcases Nat.lt_or_ge s.arbiter.queue.length 8 with room | full
    · exact .inr (.inl ⟨x, h, hx, hlt, room, built.trans (buildEvent_ahead hx hlt room)⟩)
    · exact .inr (.inr ⟨h, full, built.trans (buildEvent_busy full)⟩)
  · exact .inl ⟨h, by rw [buildOne, if_neg (mt guard.mp h)]⟩

/-- The marker moves to an event whose build time has come. -/
theorem Keeps.moveMarker {s : State} {e m : Nat} {x : Int} (hm : s.time.marker = some m) (hx : eventDue s e = some x)
    (hle : x - 60000 ≤ s.now) : Keeps s (moveMarker e s) := by
  rcases Nat.lt_or_ge m e with hlt | hge
  · refine { (Offers.moveMarker e s).steady with served := fun k hk => ?_, unserved := fun hno => ?_ }
    · obtain ⟨l, hl, hkl⟩ := hk.marker
      rw [hm, Option.some.injEq] at hl
      rw [moveMarker_of_lt hm hlt]
      exact ⟨⟨⟨e, rfl, by omega⟩, hk.ids, hk.ahead⟩, rfl, .inr ⟨e, x, rfl, hx, hle⟩⟩
    · rw [hm] at hno
      cases hno
  · rw [moveMarker_of_ge hm hge]
    exact .refl s

theorem Keeps.buildOne (s : State) (n : Nat) : Keeps s (buildOne s n) := by
  rcases buildOne_cases s n with ⟨-, h⟩ | ⟨x, hb, hx, hlt, room, h⟩ | ⟨hb, -, h⟩ <;> rw [h]
  · exact .refl s
  · obtain ⟨hv, ⟨m, hm, hmn⟩, -, y, hy, hle⟩ := (buildable_iff s n).mp hb.1
    refine
      { elapsed := rfl, time := rfl, calendar := rfl, timers := rfl, score := rfl, tunes := rfl, methods := rfl
        programs := rfl, power := rfl, maintenance := rfl, clockStrike := rfl, stepRecord := rfl, forward := .of_eq rfl
        served := fun k hk => ⟨⟨hk.marker, nodup_enqueue hk.ids (newId_free (Nat.le_of_lt room)), fun c hc hkc => ?_⟩, rfl, .inl rfl⟩
        unserved := fun hno => ?_ }
    · rcases (mem_enqueue _ _ _).mp hc with rfl | hc'
      · obtain ⟨l, hl, hkl⟩ := hk.marker
        rw [hm, Option.some.injEq] at hl
        rw [hx, Option.some.injEq] at hy
        have due : (builtPerf s n (x + 2000)).dueStart = x := by
          simp [builtPerf, waitingPerf, Config.startAllowance]
        rw [due]
        exact ⟨rfl, hlt, by rw [hy]; exact hle, n, rfl, by omega⟩
      · exact hk.ahead c hc' hkc
    · rw [hm] at hno
      cases hno
  · obtain ⟨hv, ⟨m, hm, hmn⟩, -, y, hy, hle⟩ := (buildable_iff s n).mp hb.1
    exact (Keeps.raise (.performanceOmitted 0 .clock .busy .whole (some n) 0 0) s).trans (.moveMarker hm hy hle)

theorem Keeps.buildAhead (s : State) : Keeps s (buildAhead s) := .foldl Keeps.buildOne _ s

/-! ## A step at the arbiter (R79) -/

theorem mem_passedEvents (s : State) (n : Nat) :
    n ∈ passedEvents s ↔ n ∈ candidates s ∧ ∃ x, eventDue s n = some x ∧ x ≤ s.now := by
  simp [passedEvents, Option.any_eq_true]

theorem Keeps.omitted (p : Perf) (reason : OmitReason) (part : ClockPart) (s : State) : Keeps s (omitted p reason part s) :=
  .raise _ s

theorem Keeps.skipEvents (waiting : List Perf) (s : State) : Keeps s (skipEvents waiting s) := by
  unfold Machine.skipEvents
  dsimp only
  refine .ite (.refl s) ?_
  split
  · rename_i a z ha hz
    obtain ⟨hcand, x, hx, hle⟩ := (mem_passedEvents s z).mp (List.mem_of_getLast? hz)
    cases hm : s.time.marker with
    | none => simp [candidates, hm] at hcand
    | some m =>
      have raised := Keeps.raise (.clockEventsSkipped (min 65535 (passedEvents s).length) a z) s
      exact (raised.trans (.moveMarker hm hx (by
        show x - 60000 ≤ s.now
        omega))).trans (.foldl (fun s p => Keeps.omitted p .step .whole s) _ _)
  · exact .refl s

theorem Perf.shift_id (d : Int) (p : Perf) : (p.shift d).id = p.id := by
  unfold Perf.shift
  split <;> rfl

theorem Perf.shift_source (d : Int) (p : Perf) : (p.shift d).source = p.source := by
  unfold Perf.shift
  split <;> rfl

theorem Perf.shift_state (d : Int) (p : Perf) : (p.shift d).state = p.state := by
  unfold Perf.shift
  split <;> rfl

theorem Perf.shift_of_clock {p : Perf} (h : p.isClock = true) (d : Int) : p.shift d = p := by simp [Perf.shift, h]

/-- The ACTIVE clock ends, how STEP (R79, step 1). -/
def endClock (s : State) : State :=
  match (activePerf s).filter (·.isClock) with
  | some p => endPerf p .step s
  | none => s

/-- The clock events that stand WAITING in a queue. -/
def waitingClocks (q : List Perf) : List Perf := q.filter (fun p => p.isClock && p.state == .waiting)

/-- The ACTIVE clock has ended, the waiting ones have left, and the rest has moved by the step (R79, steps 1 to 3). -/
def clocksLeft (step : Int) (s : State) : State :=
  let s2 := (endClock s).withQueue ((endClock s).arbiter.queue.filter (fun p => !(p.isClock && p.state == .waiting)))
  shiftStrikes step (s2.withQueue (s2.arbiter.queue.map (Perf.shift step)))

/-- The events that a forward step has passed are omitted (R79, step 4). -/
def passedOmitted (step : Int) (s : State) : State :=
  if 0 < step then skipEvents (waitingClocks s.arbiter.queue) (clocksLeft step s) else clocksLeft step s

/-- The clock events ahead are built afresh, and a hold that has ended is re-based (R79, step 5). -/
def rebuilt (step : Int) (s : State) : State := endHold (holder s) (buildAhead (passedOmitted step s))

theorem arbiterAfterStep_eq (step : Int) (s : State) : arbiterAfterStep step s
    = if ((activePerf s).filter (·.isClock)).isSome then offerHammers none (rebuilt step s) else rebuilt step s := rfl

theorem Keeps.endClock (s : State) : Keeps s (endClock s) := by
  unfold Machine.endClock
  split
  · exact .endPerf _ _ s
  · exact .refl s

theorem Keeps.shiftStrikes (step : Int) (s : State) : Keeps s (shiftStrikes step s) := .of_eq rfl

theorem Keeps.clocksLeft (step : Int) (s : State) : Keeps s (clocksLeft step s) := by
  refine (((Keeps.endClock s).trans (.withQueue (.filter _ _))).trans (.withQueue (.map ?_ ?_ ?_ ?_))).trans (.shiftStrikes _ _)
  · exact Perf.shift_id step
  · exact Perf.shift_source step
  · exact fun p hw => (Perf.shift_state step p).symm.trans hw
  · intro _ p _ hk
    rw [Perf.shift_of_clock hk]
    exact ⟨rfl, rfl⟩

theorem Keeps.passedOmitted (step : Int) (s : State) : Keeps (Machine.clocksLeft step s) (passedOmitted step s) :=
  .ite (.skipEvents _ _) (.refl _)

theorem Keeps.rebuilt (step : Int) (s : State) : Keeps (Machine.clocksLeft step s) (rebuilt step s) :=
  ((Keeps.passedOmitted step s).trans (.buildAhead _)).trans (.endHold _ _)

/-- What follows once the clock events have left. -/
theorem Keeps.after_clocksLeft (step : Int) (s : State) : Keeps (Machine.clocksLeft step s) (arbiterAfterStep step s) := by
  rw [arbiterAfterStep_eq]
  exact .ite ((Keeps.rebuilt step s).trans (.offerHammers _ _)) (.rebuilt step s)

theorem endTouch_arbiter (p : Perf) (how : TouchHow) (reason : Option OmitReason) (s : State) :
    (endTouch p how reason s).arbiter = s.arbiter := by
  unfold endTouch
  split <;> rfl

theorem endPerf_arbiter (p : Perf) (how : How) (s : State) :
    (endPerf p how s).arbiter = { s.arbiter with queue := s.arbiter.queue.filter (·.id != p.id) } := by
  unfold endPerf dropPerf
  simp only [State.withQueue, raise_arbiter, endTouch_arbiter]
  split <;> rfl

theorem clocksLeft_queue (step : Int) (s : State) : (clocksLeft step s).arbiter.queue
    = ((endClock s).arbiter.queue.filter (fun p => !(p.isClock && p.state == .waiting))).map (Perf.shift step) := rfl

theorem mem_clocksLeft {step : Int} {s : State} {c : Perf} (hc : c ∈ (clocksLeft step s).arbiter.queue)
    (hk : c.isClock = true) : c ∈ (endClock s).arbiter.queue ∧ c.state ≠ .waiting := by
  rw [clocksLeft_queue] at hc
  obtain ⟨p, hp, rfl⟩ := List.mem_map.mp hc
  have hkp : p.isClock = true := by simpa [Perf.isClock, Perf.cls, Perf.shift_source] using hk
  rw [Perf.shift_of_clock hkp]
  obtain ⟨hmem, hf⟩ := List.mem_filter.mp hp
  refine ⟨hmem, fun hw => ?_⟩
  simp [hkp, hw] at hf

/-- No clock event waits any more. -/
theorem clocksLeft_noClockWaits (step : Int) (s : State) : NoClockWaits (clocksLeft step s) :=
  fun _ hc hk => (mem_clocksLeft hc hk).2

/-- The only ACTIVE performance of a queue (R61, R62). -/
theorem activePerf_eq {s : State} {a : Perf} (hq : (s.arbiter.queue.filter (·.state == .active)).length ≤ 1)
    (ha : a ∈ s.arbiter.queue) (hs : a.state = .active) : activePerf s = some a := by
  have hmem : a ∈ s.arbiter.queue.filter (·.state == .active) := List.mem_filter.mpr ⟨ha, by simp [hs]⟩
  have single : s.arbiter.queue.filter (·.state == .active) = [a] := by
    obtain ⟨x, hx⟩ := List.length_eq_one_iff.mp (Nat.le_antisymm hq (List.length_pos_of_mem hmem))
    rw [hx] at hmem ⊢
    rw [List.mem_singleton.mp hmem]
  rw [activePerf, ← List.head?_filter, single]
  rfl

/-- In a queue as R61 has it no clock event is left at all. -/
theorem clocksLeft_noClock {s : State} (hq : queueOk s) (step : Int) :
    ∀ c ∈ (clocksLeft step s).arbiter.queue, c.isClock = false := by
  obtain ⟨-, -, -, -, -, -, one, -, paused⟩ := hq
  intro c hc
  by_contra hk
  rw [Bool.not_eq_false] at hk
  obtain ⟨hmem, hw⟩ := mem_clocksLeft hc hk
  have inQueue : c ∈ s.arbiter.queue := by
    unfold endClock at hmem
    split at hmem
    · rw [endPerf_arbiter] at hmem
      exact List.mem_of_mem_filter hmem
    · exact hmem
  have active : c.state = .active := by
    have := paused c inQueue hk
    cases hs : c.state <;> simp_all
  have isActive := activePerf_eq one inQueue active
  simp only [endClock, isActive, Option.filter_some, hk, if_true, endPerf_arbiter] at hmem
  simp at hmem

/-- Once the clock events have left a queue as R61 has it, those that lie ahead can be built. -/
theorem clocksLeft_clocksAhead {s : State} (hq : queueOk s) (step : Int) {m : Nat} (hm : s.time.marker = some m) :
    ClocksAhead m (clocksLeft step s) := by
  obtain ⟨k, hk, hle⟩ := (Keeps.clocksLeft step s).forward m hm
  refine ⟨⟨k, hk, hle⟩, ?_, fun c hc hkc => by rw [clocksLeft_noClock hq step c hc] at hkc; cases hkc⟩
  have ids : ((endClock s).arbiter.queue.map (·.id)).Nodup := by
    obtain ⟨-, -, nodup, -⟩ := hq
    unfold endClock
    split
    · rw [endPerf_arbiter]
      exact nodup.sublist (List.filter_sublist.map _)
    · exact nodup
  rw [clocksLeft_queue]
  have same : ∀ q : List Perf, (q.map (Perf.shift step)).map (·.id) = q.map (·.id) := by
    intro q
    simp [Function.comp_def, Perf.shift_id]
  rw [same]
  exact ids.sublist (List.filter_sublist.map _)

/-- A clock that ends STEP: its entries are removed, and its end is reported (R77, R79, R93). -/
theorem endPerf_clock {p : Perf} (h : p.isClock = true) (s : State) : endPerf p .step s
    = dropPerf p.id (raise (.performanceEnded p.id p.cls .step p.booked p.dropped) (removeEntries p.id s)) := by
  have hc : p.cls = .clock := beq_iff_eq.mp h
  simp [endPerf, endTouch, hc]

theorem endClock_of_clock {s : State} {a : Perf} (ha : activePerf s = some a) (hk : a.isClock = true) :
    endClock s = dropPerf a.id (raise (.performanceEnded a.id a.cls .step a.booked a.dropped) (removeEntries a.id s)) := by
  simp only [endClock, ha, Option.filter_some, hk, if_true]
  exact endPerf_clock hk s

theorem endClock_of_none {s : State} (h : ∀ a, activePerf s = some a → a.isClock = false) : endClock s = s := by
  cases ha : activePerf s with
  | none => simp [endClock, ha]
  | some a => simp only [endClock, ha, Option.filter_some, h a ha, Bool.false_eq_true, if_false]

/-- What the end of the ACTIVE clock leaves as it was. -/
theorem endClock_same (s : State) : endClock s = { s with
    arbiter := { s.arbiter with queue := (endClock s).arbiter.queue }, strikes := (endClock s).strikes
    details := (endClock s).details, panel := (endClock s).panel, chamber := (endClock s).chamber } := by
  by_cases h : ∀ a, activePerf s = some a → a.isClock = false
  · rw [endClock_of_none h]
  · simp only [not_forall, Bool.not_eq_false] at h
    obtain ⟨a, ha, hk⟩ := h
    rw [endClock_of_clock ha hk]
    rfl

theorem clocksLeft_time (step : Int) (s : State) : (clocksLeft step s).time = s.time :=
  (show (endClock s).time = s.time by rw [endClock_same])

theorem clocksLeft_chimes (step : Int) (s : State) : (clocksLeft step s).chimes = s.chimes :=
  (show (endClock s).chimes = s.chimes by rw [endClock_same])

end Sys2Proof.Machine

namespace Sys2Proof.Machine

open Sys2Proof

/-! ## A step record is published (R12) -/

theorem dialsAfterStep_same (before : Validity) (s : State) :
    dialsAfterStep before s = { s with dials := (dialsAfterStep before s).dials } := by
  refine foldl_rel (R := fun s t : State => t = { s with dials := t.dials }) (fun _ => rfl) ?_ ?_ _ s
  · intro s t u h h'
    exact h'.trans (by rw [h])
  · intro s c
    simp only [dialAfterStep, dialFollow, settleDial, State.withDial]
    split
    · split <;> rfl
    · rfl

/-- The state in which the arbiter reacts to a step: today's class is renewed, TIME-STEPPED stands, and the dials have
taken their new targets (R12, R38). -/
def announced (cause : StepCause) (step : Int) (old : Nat) (before : Validity) (s0 : State) : State :=
  dialsAfterStep before
    (raise (.timeStepped step cause old s0.time.instant before s0.time.validity) (markMinute (renewToday s0)))

theorem publishStep_eq (cause : StepCause) (step : Int) (old : Nat) (before : Validity) (s0 : State) :
    publishStep cause step old before s0
      = restoreLights (settleLoad (arbiterAfterStep step (announced cause step old before s0))) := rfl

/-- What stands announced beside the dials, the record and the links' sets. -/
theorem announced_same (cause : StepCause) (step : Int) (old : Nat) (before : Validity) (s0 : State) :
    announced cause step old before s0 = { markMinute (renewToday s0) with
      dials := (announced cause step old before s0).dials, details := (announced cause step old before s0).details
      panel := (announced cause step old before s0).panel, chamber := (announced cause step old before s0).chamber } := by
  have h : announced cause step old before s0 = {
      raise (.timeStepped step cause old s0.time.instant before s0.time.validity) (markMinute (renewToday s0)) with
      dials := (announced cause step old before s0).dials } := dialsAfterStep_same _ _
  rw [h]
  rfl

theorem announced_time (cause : StepCause) (step : Int) (old : Nat) (before : Validity) (s0 : State) :
    (announced cause step old before s0).time = { s0.time with minuteMark := s0.time.instant / 60000 } := by
  rw [announced_same]
  rfl

theorem announced_details (cause : StepCause) (step : Int) (old : Nat) (before : Validity) (s0 : State) :
    (announced cause step old before s0).details
      = setNth s0.details 1 (some
          { instant := s0.time.instant, detail := .timeStepped step cause old s0.time.instant before s0.time.validity }) := by
  rw [announced, dialsAfterStep_same]
  rfl

theorem announced_arbiter (cause : StepCause) (step : Int) (old : Nat) (before : Validity) (s0 : State) :
    (announced cause step old before s0).arbiter = s0.arbiter := by
  rw [announced_same]
  rfl

theorem announced_samePlans (cause : StepCause) (step : Int) (old : Nat) (before : Validity) (s0 : State) :
    SamePlans s0 (announced cause step old before s0) := by
  rw [announced_same]
  exact ⟨rfl, rfl, rfl, rfl, rfl, rfl⟩

theorem announced_calendar (cause : StepCause) (step : Int) (old : Nat) (before : Validity) (s0 : State) :
    (announced cause step old before s0).calendar = (renewToday s0).calendar := by
  rw [announced_same]
  rfl

theorem Keeps.after_arbiter (s : State) : Keeps s (Machine.restoreLights (Machine.settleLoad s)) :=
  (Keeps.settleLoad s).trans (.restoreLights _)

theorem Keeps.publishStep (cause : StepCause) (step : Int) (old : Nat) (before : Validity) (s0 : State) :
    Keeps (announced cause step old before s0) (Machine.publishStep cause step old before s0) := by
  rw [publishStep_eq]
  exact ((Keeps.clocksLeft step _).trans (.after_clocksLeft step _)).trans (.after_arbiter _)

/-- Tower time once a step is published: only the minute mark and the marker are not as the step left them. -/
theorem publishStep_time (cause : StepCause) (step : Int) (old : Nat) (before : Validity) (s0 : State) :
    (publishStep cause step old before s0).time = { s0.time with
      minuteMark := s0.time.instant / 60000, marker := (publishStep cause step old before s0).time.marker } := by
  rw [(Keeps.publishStep cause step old before s0).time, announced_time]

theorem publishStep_elapsed (cause : StepCause) (step : Int) (old : Nat) (before : Validity) (s0 : State) :
    (publishStep cause step old before s0).elapsed = s0.elapsed := by
  rw [(Keeps.publishStep cause step old before s0).elapsed, announced_same]
  rfl

/-- The two states differ in tower time, the timebase, the records of notices and the links only. -/
def SameBlocks (s s0 : State) : Prop :=
  s0 = { s with elapsed := s0.elapsed, time := s0.time, details := s0.details, panel := s0.panel, chamber := s0.chamber }

theorem sameBlocks_closed (h : Header) (s : State) : SameBlocks s (closed h s) := by
  cases hl : h.link <;> simp only [SameBlocks, closed, closeStream, hl] <;> rfl

theorem SameBlocks.samePlans {s s0 : State} (h : SameBlocks s s0) : SamePlans s s0 := by
  have h' : s0 = _ := h
  rw [h']
  exact ⟨rfl, rfl, rfl, rfl, rfl, rfl⟩

/-- A published step stands as its record says, and no step touches the rest (R12). -/
theorem stepped_publishStep {s s0 : State} {new : Nat} {after : Validity} (cause : StepCause) (step : Int)
    (h : SameBlocks s s0) (href : s0.time.refEnabled = s.time.refEnabled) (hi : s0.time.instant = new)
    (hv : s0.time.validity = after) :
    Stepped cause step new after s (publishStep cause step s.time.instant s.time.validity s0) := by
  subst hi hv
  have time := publishStep_time cause step s.time.instant s.time.validity s0
  have keeps := Keeps.publishStep cause step s.time.instant s.time.validity s0
  have cal := keeps.calendar.trans (announced_calendar ..)
  have base := announced_same cause step s.time.instant s.time.validity s0
  refine ⟨by rw [time], by rw [time], ?_, ?_, ?_, ?_, ?_, ?_, ?_, ?_, ?_, ?_, ?_, ?_, ?_, ?_⟩
  · rw [keeps.stepRecord, announced_details]
    exact nth_setNth_self _ _ _ rfl
  · rw [cal]
    exact classOf_congr rfl rfl _
  · rw [cal]
    rfl
  · rw [cal, h]
    rfl
  · rw [cal, h]
    rfl
  · rw [cal, h]
    rfl
  · rw [time]
    exact href
  · rw [keeps.timers, base, h]
    rfl
  · rw [keeps.score, base, h]
    rfl
  · rw [keeps.tunes, base, h]
    rfl
  · rw [keeps.methods, base, h]
    rfl
  · rw [keeps.programs, base, h]
    rfl
  · rw [keeps.power, base, h]
    rfl
  · rw [keeps.maintenance, base, h]
    rfl

/-- An empty marker stays empty: with it no clock event is built, and none waits once they have left. -/
theorem publishStep_marker_none {s0 : State} (cause : StepCause) (step : Int) (old : Nat) (before : Validity)
    (hm : s0.time.marker = none) : (publishStep cause step old before s0).time.marker = none := by
  rw [publishStep_eq]
  have left : (clocksLeft step (announced cause step old before s0)).time.marker = none := by
    rw [clocksLeft_time, announced_time, hm]
  have keeps := (Keeps.after_clocksLeft step (announced cause step old before s0)).trans (.after_arbiter _)
  exact (keeps.unserved left (clocksLeft_noClockWaits _ _)).1

theorem queueOk_congr {s t : State} (h : t.arbiter = s.arbiter) (hq : queueOk s) : queueOk t := by
  simpa only [queueOk, h] using hq

/-- The marker after a step stands where it stood, or at an event whose build time has come; it has not moved back. -/
theorem publishStep_marker {s0 : State} {m : Nat} (cause : StepCause) (step : Int) (old : Nat) (before : Validity)
    (hm : s0.time.marker = some m) :
    ∃ e, (publishStep cause step old before s0).time.marker = some e ∧ m ≤ e
      ∧ (queueOk s0 → e = m ∨ ∃ x : Int, eventDue s0 e = some x ∧ x - 60000 ≤ s0.time.instant) := by
  let u := announced cause step old before s0
  have hmu : u.time.marker = some m := by rw [announced_time, hm]
  obtain ⟨e, he, hle⟩ := (Keeps.publishStep cause step old before s0).forward m hmu
  refine ⟨e, he, hle, fun hq => ?_⟩
  have keeps := (Keeps.after_clocksLeft step u).trans (.after_arbiter _)
  have ahead := clocksLeft_clocksAhead (queueOk_congr (announced_arbiter ..) hq) step hmu
  have left := Keeps.clocksLeft step u
  rw [publishStep_eq] at he
  obtain ⟨-, -, hmark⟩ := keeps.served m ahead
  rw [he, clocksLeft_time, hmu] at hmark
  rcases hmark with heq | ⟨e', x, hes, hx, hxle⟩
  · exact .inl (Option.some.inj heq)
  · rw [Option.some.injEq] at hes
    subst hes
    have plans := (announced_samePlans cause step old before s0).trans (left.toSteady.samePlans (clocksLeft_chimes step u))
    rw [plans.eventDue] at hx
    rw [State.now, clocksLeft_time, announced_time] at hxle
    exact .inr ⟨x, hx, hxle⟩

end Sys2Proof.Machine

namespace Sys2Proof.Machine

open Sys2Proof

/-! ## The reference and the end of the range -/

theorem reachEnd_eq (s : State) : reachEnd s = publishStep .rangeEnd 0 s.time.instant s.time.validity (stopAtEnd s) := rfl

/-- The end of the range with its record: the count has stopped and the marker is empty (R3). -/
theorem reachEnd_stepped {s s1 : State} (h : SameBlocks s s1) (href : s1.time.refEnabled = s.time.refEnabled)
    (hi : s1.time.instant = s.time.instant) (hv : s1.time.validity = s.time.validity) :
    Stepped .rangeEnd 0 3155759999999 .unset s (reachEnd s1) ∧ (reachEnd s1).time.stopped = true
      ∧ (reachEnd s1).time.slew = 0 ∧ (reachEnd s1).time.marker = none ∧ (reachEnd s1).elapsed = s1.elapsed := by
  have time := publishStep_time .rangeEnd 0 s.time.instant s.time.validity (stopAtEnd s1)
  have blocks : SameBlocks s (stopAtEnd s1) := by
    rw [SameBlocks, stopAtEnd, h]
  rw [reachEnd_eq, hi, hv]
  refine ⟨stepped_publishStep .rangeEnd 0 blocks href rfl rfl, ?_, ?_, publishStep_marker_none _ _ _ _ rfl, publishStep_elapsed ..⟩
  · rw [time]
    rfl
  · rw [time]
    rfl

/-- The gap watch has run past 150 s (R11). -/
theorem exec_referenceGap {s : State} (ho : s.power.operating = true) (hl : s.time.refState = .locked)
    (hg : s.time.lastPulse + 150000 < s.elapsed) : exec .referenceGap s = .next (loseReference s) := by
  have due : referenceGapDue s = true := by simp [referenceGapDue, hl, Config.referenceGap, hg]
  have run : exec .referenceGap s
      = .next (whenOperating (fun s => if referenceGapDue s then loseReference s else s) s) := rfl
  rw [run, whenOperating_true _ _ ho, if_pos due]

/-- The last millisecond of an adjusted second is at hand (R9). -/
theorem exec_slewSecondAdjust {s : State} (ho : s.power.operating = true) (hs : s.time.stopped = false)
    (hv : s.time.secondServed = false)
    (hd : s.time.slew < 0 ∧ s.time.instant % 1000 = 999 ∨ 0 < s.time.slew ∧ s.time.instant % 1000 = 998) :
    exec .slewSecondAdjust s = .next (adjustSecond s) := by
  have due : slewDue s = true := by simpa [slewDue, hs, hv] using hd
  have run : exec .slewSecondAdjust s = .next (whenOperating (fun s => if slewDue s then adjustSecond s else s) s) := rfl
  rw [run, whenOperating_true _ _ ho, if_pos due]

/-- The calendar after a renewal where one is due (R16). -/
theorem renewIfDue_eq (s : State) : renewIfDue s = { s with
    calendar := if s.calendar.todayDay = s.time.instant / 86400000 then s.calendar else (renewToday s).calendar } := by
  by_cases h : s.calendar.todayDay = s.time.instant / 86400000
  · rw [renewIfDue_of_not_due h, if_pos h]
  · rw [renewIfDue_of_due h, if_neg h]
    rfl

/-- Settles O15; the record of the end of the range is a published step. -/
theorem referenceSettingsAndRangeEnd : Obligations.ReferenceSettingsAndRangeEnd := by
  unfold Obligations.ReferenceSettingsAndRangeEnd
  refine ⟨fun h s ht => ⟨?_, fun on => ?_⟩, fun s ho => ⟨fun hl hg => ?_, fun hs hv hn hm => ?_, fun hs hv hp hm hle => ?_⟩,
    fun s hs hi => ⟨fun ho => ?_, fun ho => ?_⟩⟩
  · refine answers_of_taken (accept (closed h s) _) ht (by decide) rfl ?_
    simp only [timeReadAnswer, closed_time, closed_calendar]
    rfl
  · intro r
    refine answers_of_taken (accept { closed h s with time := { s.time with refEnabled := on, refState := r } } (.reference r))
      ht (by decide) rfl ?_
    simp only [referenceSetAnswer, flag?_toNat, closed_time]
    rfl
  · exact exec_referenceGap ho hl hg
  · rw [exec_slewSecondAdjust ho hs hv (.inl ⟨hn, hm⟩), adjustSecond, if_pos hn]
  · have inRange : ¬Config.lastInstant < s.time.instant + 2 := Nat.not_lt.mpr hle
    intro day x
    rw [exec_slewSecondAdjust ho hs hv (.inr ⟨hp, hm⟩), adjustSecond, if_neg (Int.not_lt.mpr (Int.le_of_lt hp)),
      if_neg inRange, renewIfDue_eq]
    rfl
  · have due : rangeEndDue s = true := by simp [rangeEndDue, hs, hi, Config.lastInstant]
    have run : exec .rangeEnd s = .next (if rangeEndDue s then
        (if s.power.operating then reachEnd { s with elapsed := s.elapsed + 1 } else stopAtEnd { s with elapsed := s.elapsed + 1 })
        else s) := rfl
    rw [run, if_pos due, ho]
    simp [stopAtEnd, hi, Config.lastInstant]
  · have due : rangeEndDue s = true := by simp [rangeEndDue, hs, hi, Config.lastInstant]
    have run : exec .rangeEnd s = .next (if rangeEndDue s then
        (if s.power.operating then reachEnd { s with elapsed := s.elapsed + 1 } else stopAtEnd { s with elapsed := s.elapsed + 1 })
        else s) := rfl
    have reached := reachEnd_stepped (s := s) (s1 := { s with elapsed := s.elapsed + 1 }) rfl rfl rfl rfl
    rw [run, if_pos due, if_pos ho]
    exact ⟨_, rfl, reached⟩

theorem referencePulse_of_locked {s : State} (h : s.time.refState = .locked) : referencePulse s = lockedPulse s := by
  simp only [referencePulse, h]

theorem referencePulse_of_seeking {s : State} (h : s.time.refState = .seeking) : referencePulse s
    = lockedPulse (raise (.referenceState .seeking .locked false) { s with time := { s.time with refState := .locked } }) := by
  simp only [referencePulse, h]

/-- An error beyond the slew limit steps the instant, or ends the range (R10). -/
theorem correct_of_large {e : Int} (h : e < -2000 ∨ 2000 < e) (s : State) : correct e s
    = stepTo .reference ((s.time.instant : Int) - e).toNat { s with time := { s.time with lastError := some e, slew := 0 } } := by
  rw [correct, if_neg]
  simp only [Config.slewLimit]
  omega

theorem correct_of_small {e : Int} (h1 : -2000 ≤ e) (h2 : e ≤ 2000) (s : State) : correct e s
    = { s with time := { s.time with lastError := some e, slew := -e, secondServed := true } } := by
  rw [correct, if_pos]
  simp only [Config.slewLimit]
  omega

/-- A pulse with the reference LOCKED, from what it measures (R8). -/
theorem lockedPulse_of_set {s : State} (hv : s.time.validity = .isSet) : lockedPulse s
    = correct (referenceError (s.time.instant % 60000)) { s with time := { s.time with lastPulse := s.elapsed } } := by
  simp only [lockedPulse, hv, beq_self_eq_true, if_true]
  rfl

theorem lockedPulse_of_unset {s : State} (hv : s.time.validity = .unset) : lockedPulse s
    = { s with time := { s.time with lastPulse := s.elapsed } } := by
  simp [lockedPulse, hv]

/-- A pulse that steps, from a state that is locked by it or before it: within the range (R10). -/
theorem lockedPulse_steps {s l : State} {e : Int} (hb : SameBlocks s l) (hel : l.elapsed = s.elapsed)
    (ht : l.time = { s.time with refState := .locked }) (hv : s.time.validity = .isSet)
    (he : referenceError (s.time.instant % 60000) = e) (hlarge : e < -2000 ∨ 2000 < e) :
    (((s.time.instant : Int) - e).toNat ≤ 3155759999999 →
        Stepped .reference (-e) ((s.time.instant : Int) - e).toNat .isSet s (lockedPulse l) ∧ (lockedPulse l).time.slew = 0
          ∧ (lockedPulse l).time.lastError = some e ∧ (lockedPulse l).time.lastPulse = s.elapsed
          ∧ (lockedPulse l).time.refState = .locked ∧ (lockedPulse l).time.zone = s.time.zone)
      ∧ (3155759999999 < ((s.time.instant : Int) - e).toNat →
        Stepped .rangeEnd 0 3155759999999 .unset s (lockedPulse l) ∧ (lockedPulse l).time.slew = 0
          ∧ (lockedPulse l).time.stopped = true ∧ (lockedPulse l).time.marker = none) := by
  let l1 : State := { l with time := { l.time with lastPulse := l.elapsed, lastError := some e, slew := 0 } }
  have blocks : SameBlocks s l1 := by rw [SameBlocks]; simp only [l1]; rw [hb]
  have pulse : lockedPulse l = stepTo .reference ((s.time.instant : Int) - e).toNat l1 := by
    rw [lockedPulse_of_set (by rw [ht]; exact hv)]
    simp only [ht, he, correct_of_large hlarge, l1]
  have back : (((s.time.instant : Int) - e).toNat : Int) = s.time.instant - e := by
    unfold referenceError at he
    split at he <;> omega
  rw [pulse]
  refine ⟨fun hle => ?_, fun hlt => ?_⟩
  · let l2 : State := { l1 with time := { l1.time with instant := ((s.time.instant : Int) - e).toNat } }
    have stepped : stepTo .reference ((s.time.instant : Int) - e).toNat l1
        = publishStep .reference (-e) s.time.instant s.time.validity l2 := by
      have hi : l1.time.instant = s.time.instant := by simp only [l1, ht]
      have hval : l1.time.validity = s.time.validity := by simp only [l1, ht]
      rw [stepTo, if_neg (show ¬Config.lastInstant < _ from Nat.not_lt.mpr hle), back, hi, hval,
        show (s.time.instant : Int) - e - s.time.instant = -e by omega]
    have time := publishStep_time .reference (-e) s.time.instant s.time.validity l2
    have blocks2 : SameBlocks s l2 := by rw [SameBlocks]; simp only [l2]; rw [blocks]
    have record := stepped_publishStep (after := .isSet) .reference (-e) blocks2 (by simp only [l2, l1, ht]) rfl
      (by simp only [l2, l1, ht, hv])
    rw [stepped]
    refine ⟨record, ?_, ?_, ?_, ?_, ?_⟩ <;> rw [time] <;> simp only [l2, l1, ht, hel]
  · have ended := reachEnd_stepped blocks (by simp only [l1, ht]) (by simp only [l1, ht]) (by simp only [l1, ht])
    obtain ⟨record, stopped, slew, marker, -⟩ := ended
    rw [stepTo, if_pos (show Config.lastInstant < _ from hlt)]
    exact ⟨record, slew, stopped, marker⟩

end Sys2Proof.Machine

namespace Sys2Proof

open Sys2Proof.Machine

/-- Settles O16, by the reference state in which the pulse comes: in SEEKING it is locked first. -/
theorem referencePulse : Obligations.ReferencePulse := by
  unfold Obligations.ReferencePulse
  intro s ho m e new locked
  have he : referenceError (s.time.instant % 60000) = e := rfl
  have run : exec .referencePulse s = .next (Machine.referencePulse s) := by
    have h : exec .referencePulse s = .next (whenOperating Machine.referencePulse s) := rfl
    rw [h, whenOperating_true _ _ ho]
  have lock (hr : s.time.refState ≠ .off) : Machine.referencePulse s = lockedPulse locked ∧ SameBlocks s locked
      ∧ locked.elapsed = s.elapsed ∧ locked.time = { s.time with refState := .locked } := by
    cases hs : s.time.refState with
    | off => exact absurd hs hr
    | seeking =>
      have hl : locked = raise (.referenceState .seeking .locked false) { s with time := { s.time with refState := .locked } } := by
        simp only [locked, hs]
      rw [hl]
      exact ⟨referencePulse_of_seeking hs, rfl, rfl, rfl⟩
    | locked =>
      have hl : locked = s := by simp only [locked, hs]
      rw [hl]
      exact ⟨referencePulse_of_locked hs, rfl, rfl, by rw [← hs]⟩
  refine ⟨fun hoff => ?_, fun hr hv => ?_, fun hr hv h1 h2 => ?_, fun hr hv hlarge hle => ?_, fun hr hv hlarge hlt => ?_⟩
  · rw [run]
    simp only [Machine.referencePulse, hoff]
  · obtain ⟨hp, -, hel, ht⟩ := lock hr
    rw [run, hp, lockedPulse_of_unset (by rw [ht]; exact hv), hel]
  · obtain ⟨hp, -, hel, ht⟩ := lock hr
    have hi : referenceError (locked.time.instant % 60000) = e := by rw [ht]; exact he
    rw [run, hp, lockedPulse_of_set (by rw [ht]; exact hv), hi, correct_of_small h1 h2, hel]
  · obtain ⟨hp, hb, hel, ht⟩ := lock hr
    obtain ⟨inRange, -⟩ := lockedPulse_steps hb hel ht hv he hlarge
    exact ⟨_, run.trans (congrArg _ hp), inRange hle⟩
  · obtain ⟨hp, hb, hel, ht⟩ := lock hr
    obtain ⟨-, ended⟩ := lockedPulse_steps hb hel ht hv he hlarge
    exact ⟨_, run.trans (congrArg _ hp), ended hlt⟩

end Sys2Proof

namespace Sys2Proof.Machine

open Sys2Proof

/-! ## Setting the time (R4, R5) -/

/-- The build time of an event lies 60 s before its due start (R68). -/
theorem builtAt_of_eventDue {s : State} {n : Nat} {x : Int} (h : eventDue s n = some x) :
    (firstOf (planChime s n) (planStrike s n)).map (· - 62000) = some (x - 60000) := by
  rw [eventDue_eq_some] at h
  rw [h]
  simp only [Option.map_some, Option.some.injEq]
  omega

theorem dayExists_iff (y m d : Nat) : dayExists y m d = true ↔ 1 ≤ d ∧ d ≤ monthLength y m := within_iff _ _ _

/-- An accepted TIME-SET that changes something publishes a step (R4). -/
theorem timeSetAnswer_of_step {year month day ms : Nat} {s : State} (new : Nat)
    (hnew : new = dayNumber (clamp 2000 2099 year) (clamp 1 12 month) day * 86400000 + clamp 0 86399999 ms)
    (hd : dayExists (clamp 2000 2099 year) (clamp 1 12 month) day = true)
    (hc : s.time.validity = .unset ∨ new ≠ s.time.instant) :
    timeSetAnswer year month day ms s
      = accept (publishStep .timeSet ((new : Int) - s.time.instant) s.time.instant s.time.validity (setTime new s))
          (.timeSet ((new : Int) - s.time.instant) s.time.instant new) := by
  have changes : ¬(s.time.validity == .isSet && new == s.time.instant) = true := by
    rw [Bool.and_eq_true, beq_iff_eq, beq_iff_eq]
    rintro ⟨hv, hi⟩
    rcases hc with hu | hne
    · rw [hu] at hv
      cases hv
    · exact hne hi
  subst hnew
  simp only [timeSetAnswer, hd, Bool.not_true, Bool.false_eq_true, if_false]
  exact if_neg changes

/-- ZONE-SET that is accepted with a change publishes a step (R5). -/
theorem zoneSetAnswer_of_step {minutes z : Int} {s : State} (hz : z = clampInt (-120) 120 minutes)
    (hv : s.time.validity = .isSet) (h0 : z ≠ 0) (h1 : -720 ≤ s.time.zone + z) (h2 : s.time.zone + z ≤ 720)
    (h3 : 0 ≤ (s.time.instant : Int) + z * 60000) (h4 : (s.time.instant : Int) + z * 60000 ≤ 3155759999999) :
    zoneSetAnswer minutes s
      = accept (publishStep .zoneSet (z * 60000) s.time.instant s.time.validity
          { s with time := { s.time with zone := s.time.zone + z, instant := ((s.time.instant : Int) + z * 60000).toNat } })
        (.zone z (s.time.zone + z) s.time.instant ((s.time.instant : Int) + z * 60000).toNat) := by
  have inRange : ¬(s.time.zone + z < -720 ∨ 720 < s.time.zone + z ∨ (s.time.instant : Int) + z * 60000 < 0
      ∨ (Config.lastInstant : Int) < (s.time.instant : Int) + z * 60000) := by
    simp only [Config.lastInstant]
    omega
  simp only [zoneSetAnswer, ← hz, hv]
  rw [if_neg (by decide), if_neg h0, if_neg inRange]

/-- Settles O14. An accepted setting publishes a step from the state with its new time; what the marker does is what every
published step does with it. -/
theorem timeAndZoneSet : Obligations.TimeAndZoneSet := by
  unfold Obligations.TimeAndZoneSet
  refine ⟨fun h year month day ms s ht => ?_, fun h minutes s ht => ?_⟩
  · intro y m new set built
    refine ⟨fun bad => ?_, fun h1 h2 hv hsame => ?_, fun h1 h2 hc => ?_⟩
    · have no : dayExists (clamp 2000 2099 year) (clamp 1 12 month) day = false := by
        rw [← Bool.not_eq_true, dayExists_iff]
        rintro ⟨h1, h2⟩
        rcases bad with rfl | hlt
        · omega
        · exact absurd h2 (Nat.not_le.mpr hlt)
      refine answers_of_taken (refuse (closed h s) .badValue) ht (by decide) rfl ?_
      simp only [timeSetAnswer, no]
      rfl
    · refine answers_of_taken (accept (closed h s) (.timeSet 0 new new)) ht (by decide) rfl ?_
      have yes : dayExists (clamp 2000 2099 year) (clamp 1 12 month) day = true := (dayExists_iff _ _ _).mpr ⟨h1, h2⟩
      have same : (s.time.validity == .isSet && new == s.time.instant) = true := by simp [hv, hsame]
      simp only [timeSetAnswer, yes, closed_time, Bool.not_true, Bool.false_eq_true, if_false]
      refine (if_pos same).trans ?_
      rw [← hsame]
      rfl
    · let s0 := setTime new (closed h s)
      have blocks : SameBlocks s s0 := by
        rw [SameBlocks]
        simp only [s0, setTime]
        rw [sameBlocks_closed h s]
      have time := publishStep_time .timeSet ((new : Int) - s.time.instant) s.time.instant s.time.validity s0
      have record := stepped_publishStep .timeSet ((new : Int) - s.time.instant) blocks
        (by simp only [s0, setTime, closed_time]) (new := new) (after := .isSet) rfl rfl
      have answer := timeSetAnswer_of_step (s := closed h s) new rfl ((dayExists_iff _ _ _).mpr ⟨h1, h2⟩)
        (by rw [closed_time]; exact hc)
      rw [closed_time] at answer
      have marked : s0.time.marker = some set := by simp only [s0, setTime, closed_time]; rfl
      obtain ⟨e, he, hle, served⟩ :=
        publishStep_marker .timeSet ((new : Int) - s.time.instant) s.time.instant s.time.validity marked
      have built_of_moved (hq : queueOk s) : e = set ∨ ∃ b, built e = some b ∧ b ≤ (new : Int) := by
        refine (served (queueOk_congr (by simp [s0, setTime]) hq)).imp id fun ⟨x, hx, hxle⟩ => ?_
        rw [blocks.samePlans.eventDue] at hx
        exact ⟨x - 60000, builtAt_of_eventDue hx, hxle⟩
      refine ⟨publishStep .timeSet ((new : Int) - s.time.instant) s.time.instant s.time.validity s0,
        answers_of_taken (accept _ _) ht (by decide) rfl answer, record, ?_, ?_, ?_, ?_, e, he, hle, built_of_moved,
        fun hq later => ?_⟩
      · rw [time]
        rfl
      · rw [time]
        rfl
      · rw [time]
        simp only [s0, setTime, closed_time]
      · rw [time]
        simp only [s0, setTime, closed_time]
      · rcases built_of_moved hq with heq | ⟨b, hb, hbn⟩
        · exact heq
        · by_contra hne
          exact absurd hbn (Int.not_le.mpr (later e (by omega) b hb))
  · intro z new
    refine ⟨fun hv => ?_, fun hv h0 => ?_, fun hv h0 bad => ?_, fun hv h0 h1 h2 h3 h4 => ?_⟩
    · refine answers_of_taken (refuse (closed h s) .timeUnset) ht (by decide) rfl ?_
      simp [zoneSetAnswer, hv]
    · refine answers_of_taken (accept (closed h s) (.zone 0 s.time.zone s.time.instant s.time.instant)) ht (by decide) rfl ?_
      simp only [zoneSetAnswer, closed_time, hv]
      rw [if_neg (by decide), if_pos (show clampInt (-120) 120 minutes = 0 from h0)]
    · refine answers_of_taken (refuse (closed h s) .badValue) ht (by decide) rfl ?_
      simp only [zoneSetAnswer, closed_time, hv]
      rw [if_neg (by decide), if_neg (show ¬clampInt (-120) 120 minutes = 0 from h0)]
      exact if_pos bad
    · let s0 : State := { closed h s with time := { s.time with zone := s.time.zone + z, instant := new.toNat } }
      have answer : zoneSetAnswer minutes (closed h s)
          = accept (publishStep .zoneSet (z * 60000) s.time.instant s.time.validity s0)
              (.zone z (s.time.zone + z) s.time.instant new.toNat) := by
        have step := zoneSetAnswer_of_step (s := closed h s) (minutes := minutes) (z := z) rfl
        rw [closed_time] at step
        exact step hv h0 h1 h2 h3 h4
      have blocks : SameBlocks s s0 := by
        rw [SameBlocks]
        simp only [s0]
        rw [sameBlocks_closed h s]
      have time := publishStep_time .zoneSet (z * 60000) s.time.instant s.time.validity s0
      have record := stepped_publishStep (new := new.toNat) (after := .isSet) .zoneSet (z * 60000) blocks rfl rfl hv
      refine ⟨publishStep .zoneSet (z * 60000) s.time.instant s.time.validity s0,
        answers_of_taken (accept _ _) ht (by decide) rfl answer, record, ?_, ?_⟩
      · rw [time]
      · rw [time]

end Sys2Proof.Machine

namespace Sys2Proof.Machine

open Sys2Proof

/-! ## The queue while the clock events are built afresh (R79, step 5) -/

theorem find?_filter_of_imp {α : Type} {P g : α → Bool} {l : List α} (h : ∀ x ∈ l, P x = true → g x = true) :
    (l.filter g).find? P = l.find? P := by
  rw [← List.head?_filter, ← List.head?_filter, List.filter_filter]
  refine congrArg List.head? (List.filter_congr fun x hx => ?_)
  cases hp : P x with
  | false => rfl
  | true => rw [h x hx hp]; rfl

theorem moveMarker_same (event : Nat) (s : State) :
    moveMarker event s = { s with time := { s.time with marker := (moveMarker event s).time.marker } } := by
  unfold moveMarker
  split
  · split <;> rfl
  · rfl

theorem moveMarker_arbiter (event : Nat) (s : State) : (moveMarker event s).arbiter = s.arbiter := by rw [moveMarker_same]

theorem moveMarker_details (event : Nat) (s : State) : (moveMarker event s).details = s.details := by rw [moveMarker_same]

/-- What building and omitting do to the state: the queue, the marker and the notices, and nothing else. -/
structure Builds (s t : State) : Prop where
  same : t = { s with
    time := { s.time with marker := t.time.marker }
    arbiter := { s.arbiter with queue := t.arbiter.queue, nextId := t.arbiter.nextId }
    details := t.details, panel := t.panel, chamber := t.chamber }

theorem Builds.refl (s : State) : Builds s s := ⟨rfl⟩

theorem Builds.trans {s t u : State} (h : Builds s t) (h' : Builds t u) : Builds s u :=
  ⟨h'.same.trans (by rw [h.same])⟩

theorem Builds.samePlans {s t : State} (h : Builds s t) : SamePlans s t := by
  rw [h.same]
  exact ⟨rfl, rfl, rfl, rfl, rfl, rfl⟩

theorem Builds.instant {s t : State} (h : Builds s t) : t.time.instant = s.time.instant := by rw [h.same]

theorem Builds.validity {s t : State} (h : Builds s t) : t.time.validity = s.time.validity := by rw [h.same]

theorem Builds.touch {s t : State} (h : Builds s t) : t.touch = s.touch := by rw [h.same]

theorem Builds.now {s t : State} (h : Builds s t) : t.now = s.now := by rw [State.now, State.now, h.instant]

theorem Builds.moveMarker (event : Nat) (s : State) : Builds s (moveMarker event s) := by
  constructor
  rw [moveMarker_same]

theorem Builds.raise (d : Detail) (s : State) : Builds s (raise d s) := ⟨rfl⟩

theorem Builds.buildOne (s : State) (n : Nat) : Builds s (buildOne s n) := by
  rcases buildOne_cases s n with ⟨-, h⟩ | ⟨x, -, -, -, -, h⟩ | ⟨-, -, h⟩ <;> rw [h]
  · exact .refl s
  · exact ⟨rfl⟩
  · exact (Builds.raise _ s).trans (.moveMarker n _)

theorem Builds.buildAhead (s : State) : Builds s (buildAhead s) := foldl_rel Builds.refl Builds.trans Builds.buildOne _ s

theorem Builds.skipEvents (waiting : List Perf) (s : State) : Builds s (skipEvents waiting s) := by
  unfold Machine.skipEvents
  dsimp only
  split
  · exact .refl s
  · split
    · exact ((Builds.raise _ s).trans (.moveMarker _ _)).trans
        (foldl_rel Builds.refl Builds.trans (fun s p => Builds.raise _ s) _ _)
    · exact .refl s

theorem Builds.passedOmitted (step : Int) (s : State) : Builds (clocksLeft step s) (passedOmitted step s) := by
  unfold Machine.passedOmitted
  split
  · exact .skipEvents _ _
  · exact .refl _

/-- Building raises no notice but PERFORMANCE-OMITTED. -/
theorem buildOne_details {k : Nat} (hk : k ≠ 8) (s : State) (n : Nat) : nth (buildOne s n).details k = nth s.details k := by
  rcases buildOne_cases s n with ⟨-, h⟩ | ⟨x, -, -, -, -, h⟩ | ⟨-, -, h⟩ <;> rw [h]
  · rfl
  · rw [moveMarker_details]
    exact raise_details_ne s (Ne.symm hk)

theorem buildAhead_details {k : Nat} (hk : k ≠ 8) (s : State) : nth (buildAhead s).details k = nth s.details k :=
  foldl_rel (R := fun s t => nth t.details k = nth s.details k) (fun _ => rfl) (fun h h' => h'.trans h)
    (buildOne_details hk) _ s

/-- Of the queue, what is no waiting clock event stays as it is while clock events are built. -/
theorem buildAhead_filter {f : Perf → Bool} (hf : ∀ p, p.isClock = true → p.state = .waiting → f p = false) (s : State) :
    (buildAhead s).arbiter.queue.filter f = s.arbiter.queue.filter f := by
  have one (s : State) (n : Nat) : (buildOne s n).arbiter.queue.filter f = s.arbiter.queue.filter f := by
    rcases buildOne_cases s n with ⟨-, h⟩ | ⟨x, -, -, -, -, h⟩ | ⟨-, -, h⟩ <;> rw [h]
    · exact filter_enqueue (hf _ rfl rfl) _
    · rw [moveMarker_arbiter]
      rfl
  exact foldl_rel (R := fun s t => t.arbiter.queue.filter f = s.arbiter.queue.filter f) (fun _ => rfl)
    (fun h h' => h'.trans h) one _ s

theorem buildAhead_find? {f : Perf → Bool} (hf : ∀ p, p.isClock = true → p.state = .waiting → f p = false) (s : State) :
    (buildAhead s).arbiter.queue.find? f = s.arbiter.queue.find? f := by
  rw [← List.head?_filter, ← List.head?_filter, buildAhead_filter hf]

/-- The queue only grows while clock events are built. -/
theorem mem_buildOne {s : State} {c : Perf} (n : Nat) (hc : c ∈ s.arbiter.queue) : c ∈ (buildOne s n).arbiter.queue := by
  rcases buildOne_cases s n with ⟨-, h⟩ | ⟨x, -, -, -, -, h⟩ | ⟨-, -, h⟩ <;> rw [h]
  · exact hc
  · exact (mem_enqueue _ _ _).mpr (.inr hc)
  · rw [moveMarker_arbiter]
    exact hc

theorem mem_foldl_buildOne {c : Perf} (ns : List Nat) {s : State} (hc : c ∈ s.arbiter.queue) :
    c ∈ (ns.foldl buildOne s).arbiter.queue :=
  foldl_rel (R := fun s t => c ∈ s.arbiter.queue → c ∈ t.arbiter.queue) (fun _ h => h) (fun h h' hs => h' (h hs))
    (fun _ n => mem_buildOne n) ns s hc

theorem length_buildOne (s : State) (n : Nat) : s.arbiter.queue.length ≤ (buildOne s n).arbiter.queue.length := by
  rcases buildOne_cases s n with ⟨-, h⟩ | ⟨x, -, -, -, -, h⟩ | ⟨-, -, h⟩ <;> rw [h]
  · exact (length_enqueue _ _).symm ▸ Nat.le_succ _
  · rw [moveMarker_arbiter]
    rfl

theorem length_foldl_buildOne (ns : List Nat) (s : State) :
    s.arbiter.queue.length ≤ (ns.foldl buildOne s).arbiter.queue.length :=
  foldl_rel (R := fun s t => s.arbiter.queue.length ≤ t.arbiter.queue.length) (fun _ => Nat.le_refl _) Nat.le_trans
    length_buildOne ns s

/-- With a place left at the end no event has come to a full queue: nothing but the queue has changed. -/
theorem foldl_buildOne_of_room (ns : List Nat) {s : State} (room : (ns.foldl buildOne s).arbiter.queue.length < 8) :
    (ns.foldl buildOne s).time = s.time ∧ (ns.foldl buildOne s).details = s.details := by
  induction ns generalizing s with
  | nil => exact ⟨rfl, rfl⟩
  | cons n ns ih =>
    have step : (buildOne s n).time = s.time ∧ (buildOne s n).details = s.details := by
      have len := Nat.le_trans (length_buildOne s n) (length_foldl_buildOne ns (buildOne s n))
      rcases buildOne_cases s n with ⟨-, h⟩ | ⟨x, -, -, -, -, h⟩ | ⟨-, full, h⟩
      · rw [h]
        exact ⟨rfl, rfl⟩
      · rw [h]
        exact ⟨rfl, rfl⟩
      · exact absurd (Nat.le_trans full len) (Nat.not_le.mpr room)
    obtain ⟨ht, hd⟩ := ih room
    exact ⟨ht.trans step.1, hd.trans step.2⟩

theorem eventQueued_iff (s : State) (n : Nat) : eventQueued s n = true ↔ ∃ c ∈ s.arbiter.queue, c.event = some n := by
  simp [eventQueued]

/-- Every candidate that may be built ahead stands in the queue at the end, unless the marker has come to it. -/
theorem foldl_buildOne_complete {ns : List Nat} {n k : Nat} {x : Int} (hn : n ∈ ns) {s : State}
    (hv : s.time.validity = .isSet) (hx : eventDue s n = some x) (hlt : s.now < x) (hle : x - 60000 ≤ s.now) {m : Nat}
    (hm : s.time.marker = some m) (hk : (ns.foldl buildOne s).time.marker = some k) (hkn : k < n) :
    ∃ c ∈ (ns.foldl buildOne s).arbiter.queue, c.event = some n := by
  induction ns generalizing s m with
  | nil => cases hn
  | cons a ns ih =>
    have builds := Builds.buildOne s a
    obtain ⟨l, hl, hml⟩ := (Keeps.buildOne s a).forward m hm
    obtain ⟨k', hk', hlk⟩ := (Keeps.foldl Keeps.buildOne ns (buildOne s a)).forward l hl
    have hk : (ns.foldl buildOne (buildOne s a)).time.marker = some k := hk
    rw [hk, Option.some.injEq] at hk'
    rcases List.mem_cons.mp hn with rfl | hn'
    · have stands : ∃ c ∈ (buildOne s n).arbiter.queue, c.event = some n := by
        rcases buildOne_cases s n with ⟨not, h⟩ | ⟨y, -, -, -, -, h⟩ | ⟨-, -, h⟩
        · by_contra hno
          refine not ⟨(buildable_iff s n).mpr ⟨hv, ⟨m, hm, by omega⟩, ?_, x, hx, hle⟩, x, hx, hlt⟩
          rw [h, ← eventQueued_iff, Bool.not_eq_true] at hno
          exact hno
        · exact ⟨builtPerf s n (y + 2000), h ▸ (mem_enqueue _ _ _).mpr (.inl rfl), rfl⟩
        · rw [h, moveMarker_of_lt (s := raise _ s) (m := m) hm (by omega)] at hl
          have : n = l := Option.some.inj hl
          omega
      obtain ⟨c, hc, hce⟩ := stands
      exact ⟨c, mem_foldl_buildOne ns hc, hce⟩
    · exact ih hn' (builds.validity.trans hv) (builds.samePlans.eventDue n ▸ hx) (builds.now ▸ hlt) (builds.now ▸ hle) hl hk

/-! ## The events that a forward step has passed (R79, step 4) -/

/-- The last of several omissions stands in the record. -/
theorem foldl_omitted_details {ps : List Perf} {p : Perf} (s : State) (h : ps.getLast? = some p) :
    nth (ps.foldl (fun s p => omitted p .step .whole s) s).details 8
      = some { instant := s.time.instant, detail := .performanceOmitted p.id p.cls .step .whole p.event 0 0 } := by
  obtain ⟨ps', rfl⟩ := List.getLast?_eq_some_iff.mp h
  have before : (ps'.foldl (fun s p => omitted p .step .whole s) s).time.instant = s.time.instant :=
    (foldl_rel Builds.refl Builds.trans (fun s p => Builds.raise _ s) ps' s).instant
  rw [List.foldl_append, ← before]
  exact raise_details_self _ rfl

/-- Nothing is passed: nothing is omitted. -/
theorem skipEvents_of_none {s : State} (h : passedEvents s = []) (waiting : List Perf) : skipEvents waiting s = s := by
  simp [skipEvents, h]

/-- The passed events are omitted: the record of their number, the marker at the last, and the record of the last that
had been waiting. -/
theorem skipEvents_of_passed {s : State} {a z m : Nat} (waiting : List Perf) (hv : s.time.validity = .isSet)
    (hm : s.time.marker = some m) (ha : (passedEvents s).head? = some a) (hz : (passedEvents s).getLast? = some z) :
    nth (skipEvents waiting s).details 3
        = some { instant := s.time.instant, detail := .clockEventsSkipped (min 65535 (passedEvents s).length) a z }
      ∧ (skipEvents waiting s).time.marker = some z
      ∧ ∀ p, (waiting.filter (fun p => p.event.any (passedEvents s).contains)).getLast? = some p →
        nth (skipEvents waiting s).details 8
          = some { instant := s.time.instant, detail := .performanceOmitted p.id p.cls .step .whole p.event 0 0 } := by
  let s1 := raise (.clockEventsSkipped (min 65535 (passedEvents s).length) a z) s
  let ps := waiting.filter (fun p => p.event.any (passedEvents s).contains)
  have eq : skipEvents waiting s = ps.foldl (fun s p => omitted p .step .whole s) (moveMarker z s1) := by
    simp [skipEvents, hv, ha, hz, ps, s1]
  have lt : m < z := by
    have hc := ((mem_passedEvents s z).mp (List.mem_of_getLast? hz)).1
    simp only [candidates, hm, mem_numbers] at hc
    omega
  have moved : moveMarker z s1 = { s1 with time := { s1.time with marker := some z } } := moveMarker_of_lt hm lt
  have kept : ∀ u : State, (ps.foldl (fun s p => omitted p .step .whole s) u).time = u.time
      ∧ nth (ps.foldl (fun s p => omitted p .step .whole s) u).details 3 = nth u.details 3 := by
    have one (u : State) (p : Perf) : (omitted p .step .whole u).time = u.time
        ∧ nth (omitted p .step .whole u).details 3 = nth u.details 3 :=
      ⟨rfl, raise_details_ne u (by simp [Detail.kind])⟩
    exact foldl_rel (R := fun s t => t.time = s.time ∧ nth t.details 3 = nth s.details 3) (fun _ => ⟨rfl, rfl⟩)
      (fun h h' => ⟨h'.1.trans h.1, h'.2.trans h.2⟩) one ps
  rw [eq]
  refine ⟨?_, ?_, fun p hp => ?_⟩
  · rw [(kept _).2, moveMarker_details]
    exact raise_details_self s rfl
  · rw [(kept _).1, moved]
  · rw [foldl_omitted_details _ hp, moved]
    rfl

end Sys2Proof.Machine

namespace Sys2Proof.Machine

open Sys2Proof

/-! ## What a step leaves of the strike queue and the hammers (R93) -/

/-- What the arbiter does after the clock events have left touches no strike and no hammer. -/
structure Rearranged (s t : State) : Prop where
  same : t = { s with
    time := { s.time with marker := t.time.marker }, chimes := t.chimes
    arbiter := { s.arbiter with queue := t.arbiter.queue, nextId := t.arbiter.nextId }
    touch := t.touch, details := t.details, panel := t.panel, chamber := t.chamber }

theorem Rearranged.trans {s t u : State} (h : Rearranged s t) (h' : Rearranged t u) : Rearranged s u :=
  ⟨h'.same.trans (by rw [h.same])⟩

theorem Offers.rearranged {s t : State} (h : Offers s t) : Rearranged s t := ⟨h.same⟩

theorem Builds.rearranged {s t : State} (h : Builds s t) : Rearranged s t := by
  constructor
  rw [h.same]

theorem Rearranged.rebuilt (step : Int) (s : State) : Rearranged (clocksLeft step s) (rebuilt step s) :=
  ((Builds.passedOmitted step s).rearranged.trans (Builds.buildAhead _).rearranged).trans (Offers.endHold _ _).rearranged

theorem Rearranged.after_clocksLeft (step : Int) (s : State) : Rearranged (clocksLeft step s) (arbiterAfterStep step s) := by
  rw [arbiterAfterStep_eq]
  split
  · exact (Rearranged.rebuilt step s).trans (Offers.offerHammers _ _).rearranged
  · exact .rebuilt step s

/-- At most one performance is ACTIVE: those that are, are the ACTIVE one. -/
theorem filter_active {s : State} (hq : queueOk s) :
    s.arbiter.queue.filter (·.state == .active) = (activePerf s).toList := by
  obtain ⟨-, -, -, -, -, -, one, -, -⟩ := hq
  rw [activePerf, ← List.head?_filter]
  generalize s.arbiter.queue.filter (·.state == .active) = l at one ⊢
  cases l with
  | nil => rfl
  | cons a l =>
    have : l = [] := by simpa using one
    rw [this]
    rfl

/-- The entries of the ACTIVE clock leave with it, and no others (R79, R93). -/
theorem endClock_strikes {s : State} (hq : queueOk s) : (endClock s).strikes
    = s.strikes.filter (fun e => (s.arbiter.queue.filter (fun p => p.isClock && p.state == .active)).all (fun p => p.id != e.id)) := by
  rw [← List.filter_filter, filter_active hq]
  by_cases h : ∀ a, activePerf s = some a → a.isClock = false
  · have none : (activePerf s).toList.filter (·.isClock) = [] := by
      refine List.filter_eq_nil_iff.mpr fun a ha => ?_
      rw [h a (Option.mem_toList.mp ha)]
      decide
    rw [endClock_of_none h, none]
    simp
  · simp only [not_forall, Bool.not_eq_false] at h
    obtain ⟨a, ha, hk⟩ := h
    rw [endClock_of_clock ha hk, ha]
    simp only [Option.toList_some, List.filter_cons, hk, if_true, List.filter_nil, List.all_cons, List.all_nil, Bool.and_true]
    exact List.filter_congr fun e _ => by simp [bne_comm]

theorem arbiterAfterStep_strikes {s : State} (hq : queueOk s) (step : Int) : (arbiterAfterStep step s).strikes
    = (s.strikes.filter (fun e => (s.arbiter.queue.filter (fun p => p.isClock && p.state == .active)).all
        (fun p => p.id != e.id))).map (Entry.shift step) := by
  rw [(Rearranged.after_clocksLeft step s).same, ← endClock_strikes hq]
  rfl

theorem nth_map {α β : Type} {n : Nat} [Inhabited α] [Inhabited β] (v : Vector α n) (f : α → β) {i : Nat} (h : i ∈ numbers 1 n) :
    nth (v.map f) i = f (nth v i) := by
  rw [mem_numbers] at h
  simp [nth, h]

theorem arbiterAfterStep_hammer (step : Int) (s : State) {b : Nat} (hb : b ∈ numbers 1 24) :
    (arbiterAfterStep step s).hammer b = { s.hammer b with recoveryEnd := (s.hammer b).recoveryEnd.map (· + step) } := by
  have hammers : (arbiterAfterStep step s).hammers
      = s.hammers.map (fun h => { h with recoveryEnd := h.recoveryEnd.map (· + step) }) := by
    rw [(Rearranged.after_clocksLeft step s).same]
    show (endClock s).hammers.map _ = _
    rw [endClock_same]
  rw [State.hammer, hammers, nth_map _ _ hb]
  rfl

theorem arbiterAfterStep_allowance (step : Int) (s : State) : (arbiterAfterStep step s).allowance = s.allowance := by
  rw [(Rearranged.after_clocksLeft step s).same]
  show (endClock s).allowance = _
  rw [endClock_same]

/-! ## The queue after a step -/

theorem skipEvents_arbiter (waiting : List Perf) (s : State) : (skipEvents waiting s).arbiter = s.arbiter := by
  have omits (ps : List Perf) (u : State) : (ps.foldl (fun s p => omitted p .step .whole s) u).arbiter = u.arbiter :=
    foldl_rel (R := fun s t => t.arbiter = s.arbiter) (f := fun s p => omitted p .step .whole s) (fun _ => rfl)
      (fun h h' => h'.trans h) (fun _ _ => rfl) ps u
  unfold skipEvents
  dsimp only
  split
  · rfl
  · split
    · rw [omits, moveMarker_arbiter]
      rfl
    · rfl

theorem passedOmitted_queue (step : Int) (s : State) :
    (passedOmitted step s).arbiter.queue = (clocksLeft step s).arbiter.queue := by
  unfold passedOmitted
  split
  · rw [skipEvents_arbiter]
  · rfl

/-- The state at which the clock events have been built and a hold has still to be judged. -/
def clocksBuilt (step : Int) (s : State) : State := buildAhead (passedOmitted step s)

theorem rebuilt_eq (step : Int) (s : State) : rebuilt step s = endHold (holder s) (clocksBuilt step s) := rfl

/-- What waits as no clock event, moved by the step, is found where it was found before. -/
theorem clocksBuilt_find? {f : Perf → Bool} (hw : ∀ p, p.state = .waiting → f p = false)
    (hf : ∀ (d : Int) (p : Perf), f (p.shift d) = f p) (step : Int) (s : State) :
    (clocksBuilt step s).arbiter.queue.find? f = ((endClock s).arbiter.queue.find? f).map (Perf.shift step) := by
  have comp : f ∘ Perf.shift step = f := funext (hf step)
  rw [clocksBuilt, buildAhead_find? (fun p _ h => hw p h), passedOmitted_queue, clocksLeft_queue, List.find?_map, comp,
    find?_filter_of_imp]
  intro p _ hp
  have : p.state ≠ .waiting := fun h => by rw [hw p h] at hp; cases hp
  simp [this]

theorem Perf.shift_cursor (d : Int) (p : Perf) : (p.shift d).cursor = p.cursor := by
  unfold Perf.shift
  split <;> rfl

theorem Perf.shift_stopped (d : Int) (p : Perf) : (p.shift d).stopped = p.stopped := by
  unfold Perf.shift
  split <;> rfl

theorem Perf.shift_spacing (d : Int) (p : Perf) : (p.shift d).spacing = p.spacing := by
  simp only [Perf.spacing, Perf.shift_source]

theorem Perf.shift_yields (d : Int) (p : Perf) : (p.shift d).yieldsToClock = p.yieldsToClock := by
  simp only [Perf.yieldsToClock, Perf.shift_source]

theorem Perf.shift_inStrike (d : Int) (p : Perf) : (p.shift d).inStrike = p.inStrike := by
  unfold Perf.shift
  split <;> rfl

theorem remains_shift {s t : State} (ht : t.touch = s.touch) (d : Int) (p : Perf) : remains t (p.shift d) = remains s p := by
  simp only [remains, Perf.shift_source, Perf.shift_cursor, Perf.shift_inStrike, ht]

/-- The landing of the row at the cursor moves with the plan origin (R79). -/
theorem Perf.shift_cursorLanding {p : Perf} (hk : p.isClock = false) (ho : p.origin ≠ none) (d : Int) :
    (p.shift d).cursorLanding = p.cursorLanding + d := by
  obtain ⟨o, ho⟩ := Option.ne_none_iff_exists'.mp ho
  simp only [Perf.cursorLanding, Perf.shift_cursor, Perf.shift_spacing]
  simp only [Perf.shift, hk, ho, Bool.false_eq_true, if_false, Option.map_some, Option.getD_some]
  omega

theorem heldBack_iff (s : State) (p : Perf) : heldBack s p = true ↔ p.state = .active ∧ p.yieldsToClock = true
    ∧ p.stopped = none ∧ remains s p = true ∧ ∃ c ∈ s.arbiter.queue, c.isClock = true ∧ c.state = .waiting
      ∧ c.firstLanding - p.spacing ≤ p.cursorLanding := by
  simp only [heldBack, Bool.and_eq_true, beq_iff_eq, Option.isNone_iff_eq_none, List.any_eq_true, decide_eq_true_eq, and_assoc,
    ge_iff_le]

theorem Perf.isClock_false_of_yields {p : Perf} (h : p.yieldsToClock = true) : p.isClock = false := by
  cases hs : p.source <;> simp_all [Perf.yieldsToClock, Perf.isClock, Perf.cls, Source.cls]

/-- With no ACTIVE clock the ACTIVE performance is found again, moved by the step. -/
theorem clocksBuilt_active {s : State} {a : Perf} (ha : activePerf s = some a) (hk : a.isClock = false) (step : Int) :
    activePerf (clocksBuilt step s) = some (a.shift step) := by
  have same : endClock s = s := endClock_of_none fun b hb => by
    rw [ha, Option.some.injEq] at hb
    exact hb ▸ hk
  have found : s.arbiter.queue.find? (fun p => p.state == .active) = some a := ha
  rw [activePerf, clocksBuilt_find?, same, found]
  · rfl
  · intro p hw
    simp [hw]
  · intro d p
    simp [Perf.shift_state]

theorem Keeps.clocksBuilt (step : Int) (s : State) : Keeps (Machine.clocksLeft step s) (Machine.clocksBuilt step s) :=
  (Keeps.passedOmitted step s).trans (.buildAhead _)

theorem Builds.clocksBuilt (step : Int) (s : State) : Builds (Machine.clocksLeft step s) (Machine.clocksBuilt step s) :=
  (Builds.passedOmitted step s).trans (.buildAhead _)

theorem clocksLeft_touch (step : Int) (s : State) : (clocksLeft step s).touch = s.touch :=
  (show (endClock s).touch = s.touch by rw [endClock_same])

theorem mem_updatePerf {id : Nat} {f : Perf → Perf} {s : State} {p : Perf} (hp : p ∈ s.arbiter.queue) (hid : p.id = id) :
    f p ∈ (updatePerf id f s).arbiter.queue :=
  List.mem_map.mpr ⟨p, hp, by simp [hid]⟩

/-- A performance that held back: it is re-based where every clock built lands late enough, and moves by the step alone
where one does not (R74, R75, R79). -/
theorem rebuilt_held {s : State} {a : Perf} {m : Nat} (hq : queueOk s) (hm : s.time.marker = some m)
    (ha : activePerf s = some a) (hb : heldBack s a = true) (ho : a.origin ≠ none) (step : Int) :
    ((∀ c ∈ (rebuilt step s).arbiter.queue, c.isClock = true → a.cursorLanding + step < c.firstLanding - a.spacing) →
        { a.shift step with
          origin := some (max (a.cursorLanding + step) (s.now + 2000) - (a.cursor : Int) * a.spacing) }
            ∈ (rebuilt step s).arbiter.queue)
      ∧ ((∃ c ∈ (rebuilt step s).arbiter.queue, c.isClock = true ∧ c.firstLanding - a.spacing ≤ a.cursorLanding + step) →
        a.shift step ∈ (rebuilt step s).arbiter.queue) := by
  obtain ⟨hstate, hyields, hstopped, hremains, -⟩ := (heldBack_iff s a).mp hb
  have hk := Perf.isClock_false_of_yields hyields
  let b := clocksBuilt step s
  have builds := Builds.clocksBuilt step s
  have active : activePerf b = some (a.shift step) := clocksBuilt_active ha hk step
  have mem : a.shift step ∈ b.arbiter.queue := List.mem_of_find?_eq_some active
  have ahead := ((Keeps.clocksBuilt step s).served m (clocksLeft_clocksAhead hq step hm)).ahead
  have now : b.now = s.now := builds.now.trans (by rw [State.now, State.now, clocksLeft_time])
  have held : heldBack b (a.shift step) = true
      ↔ ∃ c ∈ b.arbiter.queue, c.isClock = true ∧ c.firstLanding - a.spacing ≤ a.cursorLanding + step := by
    have touch : b.touch = s.touch := builds.touch.trans (clocksLeft_touch step s)
    rw [heldBack_iff, Perf.shift_state, Perf.shift_yields, Perf.shift_stopped, remains_shift touch, Perf.shift_spacing,
      Perf.shift_cursorLanding hk ho]
    constructor
    · rintro ⟨-, -, -, -, c, hc, hkc, -, hle⟩
      exact ⟨c, hc, hkc, hle⟩
    · rintro ⟨c, hc, hkc, hle⟩
      exact ⟨hstate, hyields, hstopped, hremains, c, hc, hkc, (ahead.ahead c hc hkc).1, hle⟩
  have hold : holder s = some a.id := by simp [holder, ha, hb]
  have stays (h : heldBack b (a.shift step) = true) : rebuilt step s = b := by
    simp only [rebuilt_eq, endHold, hold]
    rw [active]
    simp [b, h]
  have ends (h : heldBack b (a.shift step) = false) : rebuilt step s
      = updatePerf a.id (fun p => p.rebase (max p.cursorLanding (b.now + 2000))) b := by
    simp only [rebuilt_eq, endHold, hold]
    rw [active]
    simp only [Perf.shift_id, Perf.shift_stopped, hstopped, h, b, and_self, if_true]
    rfl
  cases h : heldBack b (a.shift step) with
  | true =>
    rw [stays h]
    refine ⟨fun late => ?_, fun _ => mem⟩
    obtain ⟨c, hc, hkc, hle⟩ := held.mp h
    exact absurd hle (Int.not_le.mpr (late c hc hkc))
  | false =>
    rw [ends h]
    refine ⟨fun _ => ?_, ?_⟩
    · rw [← Perf.shift_cursorLanding hk ho, ← now, ← Perf.shift_cursor step a, ← Perf.shift_spacing step a]
      exact mem_updatePerf (f := fun p => p.rebase (max p.cursorLanding (b.now + 2000))) mem (Perf.shift_id step a)
    · rintro ⟨c, hc, hkc, hle⟩
      obtain ⟨c', hc', rfl⟩ := List.mem_map.mp hc
      have was : c'.isClock = true ∧ c'.firstLanding - a.spacing ≤ a.cursorLanding + step := by
        dsimp only at hkc hle
        split at hkc
        · rename_i hid
          rw [if_pos hid] at hle
          exact ⟨hkc, hle⟩
        · rename_i hid
          rw [if_neg hid] at hle
          exact ⟨hkc, hle⟩
      exact absurd (held.mpr ⟨c', hc', was.1, was.2⟩) (by rw [h]; decide)

end Sys2Proof.Machine

namespace Sys2Proof.Machine

open Sys2Proof

/-! ## Where no clock is ACTIVE or PAUSED: what a step leaves in the queue (R79) -/

/-- Every clock event of the queue still waits. -/
def ClocksWait (s : State) : Prop := ∀ c ∈ s.arbiter.queue, c.isClock = true → c.state = .waiting

theorem activePerf_spec {s : State} {a : Perf} (h : activePerf s = some a) : a ∈ s.arbiter.queue ∧ a.state = .active :=
  ⟨List.mem_of_find?_eq_some h, by simpa using List.find?_some h⟩

theorem ClocksWait.active_plain {s : State} (h : ClocksWait s) {a : Perf} (ha : activePerf s = some a) : a.isClock = false := by
  obtain ⟨hmem, hact⟩ := activePerf_spec ha
  by_contra hk
  rw [Bool.not_eq_false] at hk
  rw [h a hmem hk] at hact
  cases hact

theorem ClocksWait.endClock {s : State} (h : ClocksWait s) : endClock s = s := endClock_of_none fun _ ha => h.active_plain ha

/-- A step that no ACTIVE clock meets offers the hammers to nothing. -/
theorem ClocksWait.arbiterAfterStep {s : State} (h : ClocksWait s) (step : Int) : arbiterAfterStep step s = rebuilt step s := by
  have none : (activePerf s).filter (·.isClock) = none := by
    rw [Option.filter_eq_none_iff]
    intro a ha
    rw [h.active_plain ha]
    decide
  rw [arbiterAfterStep_eq, none]
  rfl

/-- The end of a hold re-bases a performance and leaves the rest. -/
theorem endHold_cases (was : Option Nat) (s : State) :
    endHold was s = s ∨ ∃ (id : Nat) (g : Perf → Int), endHold was s = updatePerf id (fun p => p.rebase (g p)) s := by
  unfold endHold
  split
  · split
    · exact .inr ⟨_, _, rfl⟩
    · exact .inl rfl
  · exact .inl rfl

theorem endHold_time (was : Option Nat) (s : State) : (endHold was s).time = s.time := by
  rcases endHold_cases was s with h | ⟨id, g, h⟩ <;> rw [h]
  rfl

theorem endHold_details (was : Option Nat) (s : State) : (endHold was s).details = s.details := by
  rcases endHold_cases was s with h | ⟨id, g, h⟩ <;> rw [h]
  rfl

theorem endHold_length (was : Option Nat) (s : State) : (endHold was s).arbiter.queue.length = s.arbiter.queue.length := by
  rcases endHold_cases was s with h | ⟨id, g, h⟩ <;> rw [h]
  exact List.length_map _

theorem endHold_event {was : Option Nat} {s : State} {c : Perf} (hc : c ∈ s.arbiter.queue) :
    ∃ c' ∈ (endHold was s).arbiter.queue, c'.event = c.event := by
  rcases endHold_cases was s with h | ⟨id, g, h⟩ <;> rw [h]
  · exact ⟨c, hc, rfl⟩
  · refine ⟨_, List.mem_map.mpr ⟨c, hc, rfl⟩, ?_⟩
    split <;> rfl

theorem Perf.shift_isClock (d : Int) (p : Perf) : (p.shift d).isClock = p.isClock := by
  simp only [Perf.isClock, Perf.cls, Perf.shift_source]

/-- Every tune, toll and touch moves by the step, where none of them holds back (R79). -/
theorem rebuilt_plain {s : State} (h : ClocksWait s) (hold : ∀ a ∈ s.arbiter.queue, heldBack s a = false) (step : Int) :
    (rebuilt step s).arbiter.queue.filter (fun p => !p.isClock)
      = (s.arbiter.queue.filter (fun p => !p.isClock)).map (Perf.shift step) := by
  have noHolder : holder s = none := by
    simp only [holder, Option.map_eq_none_iff, Option.filter_eq_none_iff]
    intro a ha
    rw [hold a (activePerf_spec ha).1]
    decide
  have same : rebuilt step s = clocksBuilt step s := by rw [rebuilt_eq, noHolder]; rfl
  have comp : (fun p : Perf => !p.isClock) ∘ Perf.shift step = fun p => !p.isClock := funext fun p => by
    simp only [Function.comp_apply, Perf.shift_isClock]
  rw [same, clocksBuilt, buildAhead_filter (fun p hk _ => by simp [hk]), passedOmitted_queue, clocksLeft_queue, h.endClock,
    List.filter_map, comp, List.filter_filter]
  congr 1
  exact List.filter_congr fun p _ => by cases p.isClock <;> rfl

theorem rebuilt_length (step : Int) (s : State) :
    (rebuilt step s).arbiter.queue.length = (clocksBuilt step s).arbiter.queue.length := by
  rw [rebuilt_eq, endHold_length]

theorem rebuilt_time (step : Int) (s : State) : (rebuilt step s).time = (clocksBuilt step s).time := by
  rw [rebuilt_eq, endHold_time]

theorem rebuilt_details (step : Int) (s : State) : (rebuilt step s).details = (clocksBuilt step s).details := by
  rw [rebuilt_eq, endHold_details]

/-- With a place left at the end, building has touched neither the marker nor a notice. -/
theorem rebuilt_of_room {step : Int} {s : State} (room : (rebuilt step s).arbiter.queue.length < 8) :
    (rebuilt step s).time = (passedOmitted step s).time ∧ (rebuilt step s).details = (passedOmitted step s).details := by
  rw [rebuilt_length, clocksBuilt, buildAhead_eq] at room
  rw [rebuilt_time, rebuilt_details, clocksBuilt, buildAhead_eq]
  exact foldl_buildOne_of_room _ room

theorem clocksLeft_samePlans (step : Int) (s : State) : SamePlans s (clocksLeft step s) :=
  (Keeps.clocksLeft step s).toSteady.samePlans (clocksLeft_chimes step s)

theorem mem_candidates {s : State} {m n : Nat} (hm : s.time.marker = some m) :
    n ∈ candidates s ↔ m < n ∧ n ≤ lastCandidate s := by
  simp only [candidates, hm, mem_numbers]
  exact Iff.rfl

/-- The clock events that can be built after a step stand in the queue. -/
theorem rebuilt_complete {step : Int} {s : State} {m n k : Nat} {x : Int} (hm : s.time.marker = some m)
    (hv : s.time.validity = .isSet)
    (hk : (rebuilt step s).time.marker = some k) (hkn : k < n) (hn : n ≤ lastCandidate s) (hx : eventDue s n = some x)
    (hlt : s.now < x) (hle : x - 60000 ≤ s.now) : ∃ c ∈ (rebuilt step s).arbiter.queue, c.event = some n := by
  let p := passedOmitted step s
  have left : (clocksLeft step s).time = s.time := clocksLeft_time step s
  have builds := Builds.passedOmitted step s
  have instant : p.time.instant = s.time.instant := by rw [builds.instant, left]
  have now : p.now = s.now := by rw [State.now, State.now, instant]
  obtain ⟨l, hl, -⟩ := (Keeps.passedOmitted step s).forward m (by rw [left, hm])
  obtain ⟨k', hk', hlk⟩ := (Keeps.buildAhead p).forward l hl
  have mark : (buildAhead p).time.marker = some k := by rw [← hk, rebuilt_time]; rfl
  rw [mark, Option.some.injEq] at hk'
  have cand : n ∈ candidates p := by
    rw [mem_candidates hl, lastCandidate, instant]
    exact ⟨by omega, hn⟩
  have due : eventDue p n = some x := by rw [builds.samePlans.eventDue, (clocksLeft_samePlans step s).eventDue, hx]
  rw [buildAhead_eq] at mark
  obtain ⟨c, hc, hce⟩ := foldl_buildOne_complete cand (by rw [builds.validity, left, hv]) due (by rw [now]; exact hlt)
    (by rw [now]; exact hle) hl mark hkn
  rw [← buildAhead_eq] at hc
  rw [← hce]
  exact endHold_event hc

/-! ## What any step leaves (R79) -/

theorem Offers.arbiterAfterStep (step : Int) (s : State) : Offers (rebuilt step s) (arbiterAfterStep step s) := by
  rw [arbiterAfterStep_eq]
  exact .ite (.offerHammers _ _) (.refl _)

theorem arbiterAfterStep_details {k : Nat} (h8 : k ≠ 8) (h11 : k ≠ 11) (step : Int) (s : State) :
    nth (arbiterAfterStep step s).details k = nth (passedOmitted step s).details k := by
  rw [(Offers.arbiterAfterStep step s).details k h8 h11, rebuilt_details, clocksBuilt, buildAhead_details h8]

theorem arbiterAfterStep_forward (step : Int) (s : State) : MarkerForward (passedOmitted step s) (arbiterAfterStep step s) :=
  ((Keeps.buildAhead (passedOmitted step s)).forward.trans (Offers.endHold (holder s) _).forward).trans
    (Offers.arbiterAfterStep step s).forward

/-- The due start of an event by its plans (R68, R72), as the statement spells it. -/
def dueOf (s : State) (n : Nat) : Option Int := (firstOf (planChime s n) (planStrike s n)).map (· - 2000)

theorem eventDue_eq_dueOf (s : State) : eventDue s = dueOf s := rfl

/-- The events after the marker that a step to the instant has passed. -/
def passedBy (s : State) (m new : Nat) : List Nat :=
  (numbers (m + 1) (min (new + 13839000) 3155759999999 / 900000)).filter
    (fun n => (dueOf s n).any (fun x => decide (x ≤ (new : Int))))

theorem passedEvents_eq {s t : State} {m : Nat} (h : SamePlans s t) (hm : t.time.marker = some m) :
    passedEvents t = passedBy s m t.time.instant := by
  have due : eventDue t = dueOf s := by
    rw [← eventDue_eq_dueOf]
    exact funext h.eventDue
  simp only [passedEvents, passedBy, candidates, hm, due, State.now, lastCandidate, Config.lastInstant, Config.quarterMs]
  rfl

theorem passedEvents_clocksLeft {s : State} {m : Nat} (hm : s.time.marker = some m) (step : Int) :
    passedEvents (clocksLeft step s) = passedBy s m s.time.instant := by
  rw [passedEvents_eq (m := m) (clocksLeft_samePlans step s) (by rw [clocksLeft_time, hm]), clocksLeft_time]

theorem skipEvents_details {k : Nat} (h3 : k ≠ 3) (h8 : k ≠ 8) (waiting : List Perf) (s : State) :
    nth (skipEvents waiting s).details k = nth s.details k := by
  have omits (ps : List Perf) (u : State) :
      nth (ps.foldl (fun s p => omitted p .step .whole s) u).details k = nth u.details k :=
    foldl_rel (R := fun s t => nth t.details k = nth s.details k) (f := fun s p => omitted p .step .whole s) (fun _ => rfl)
      (fun h h' => h'.trans h) (fun s _ => raise_details_ne s (Ne.symm h8)) ps u
  unfold skipEvents
  dsimp only
  split
  · rfl
  · split
    · rw [omits, moveMarker_details]
      exact raise_details_ne s (Ne.symm h3)
    · rfl

/-- No event is passed: no marker moves and none is reported skipped. -/
theorem passedOmitted_of_none {step : Int} {s : State} {m : Nat} (hm : s.time.marker = some m)
    (h : step < 0 ∨ passedBy s m s.time.instant = []) : passedOmitted step s = clocksLeft step s := by
  unfold passedOmitted
  split
  · rcases h with h | h
    · omega
    · exact skipEvents_of_none (by rw [passedEvents_clocksLeft hm, h]) _
  · rfl

/-- The record of a skip, or of any other notice than the ends, is as it was while the clock events leave. -/
theorem clocksLeft_details {k : Nat} (h9 : k ≠ 9) (step : Int) (s : State) :
    nth (clocksLeft step s).details k = nth s.details k := by
  show nth (endClock s).details k = _
  by_cases h : ∀ a, activePerf s = some a → a.isClock = false
  · rw [endClock_of_none h]
  · simp only [not_forall, Bool.not_eq_false] at h
    obtain ⟨a, ha, hk⟩ := h
    rw [endClock_of_clock ha hk]
    exact raise_details_ne _ (Ne.symm h9)

/-- The step that ends the ACTIVE clock reports it (R77, R79). -/
theorem arbiterAfterStep_clockEnded {s : State} {a : Perf} (ha : activePerf s = some a) (hk : a.isClock = true) (step : Int) :
    nth (arbiterAfterStep step s).details 9
      = some { instant := s.time.instant, detail := .performanceEnded a.id .clock .step a.booked a.dropped } := by
  have cls : a.cls = .clock := beq_iff_eq.mp hk
  have kept : nth (passedOmitted step s).details 9 = nth (endClock s).details 9 := by
    unfold passedOmitted
    split
    · exact skipEvents_details (by decide) (by decide) _ _
    · rfl
  rw [arbiterAfterStep_details (by decide) (by decide), kept, endClock_of_clock ha hk, cls]
  exact raise_details_self (d := .performanceEnded a.id .clock .step a.booked a.dropped) _ rfl

/-- A PAUSED performance is found behind the ACTIVE clock that ends, for no other has its id. -/
theorem endClock_find_paused {s : State} {a : Perf} (hq : queueOk s) (ha : activePerf s = some a) (hk : a.isClock = true) :
    (endClock s).arbiter.queue.find? (fun p => p.state == .paused && p.stopped.isNone)
      = s.arbiter.queue.find? (fun p => p.state == .paused && p.stopped.isNone) := by
  obtain ⟨hmem, hact⟩ := activePerf_spec ha
  obtain ⟨-, -, nodup, -⟩ := hq
  rw [endClock_of_clock ha hk]
  refine find?_filter_of_imp fun p hp hpaused => ?_
  simp only [Bool.and_eq_true, beq_iff_eq] at hpaused
  rw [bne_iff_ne]
  intro hid
  rw [List.inj_on_of_nodup_map nodup hp hmem hid, hact] at hpaused
  cases hpaused.1

/-- A PAUSED performance resumes at now + 2,000 where the step ends the ACTIVE clock (R75, R79). -/
theorem arbiterAfterStep_resumes {s : State} {a q : Perf} (hq : queueOk s) (ha : activePerf s = some a)
    (hk : a.isClock = true) (step : Int)
    (hf : s.arbiter.queue.find? (fun p => p.state == .paused && p.stopped.isNone) = some q) :
    { q.shift step with
      state := .active, origin := some (s.now + 2000 - (q.cursor : Int) * q.spacing) }
        ∈ (arbiterAfterStep step s).arbiter.queue := by
  have noHolder : holder s = none := by
    have : heldBack s a = false := by
      rw [← Bool.not_eq_true, heldBack_iff]
      rintro ⟨-, hy, -⟩
      rw [Perf.isClock_false_of_yields hy] at hk
      cases hk
    simp [holder, ha, this]
  have same : rebuilt step s = clocksBuilt step s := by rw [rebuilt_eq, noHolder]; rfl
  have found : (clocksBuilt step s).arbiter.queue.find? (fun p => p.state == .paused && p.stopped.isNone)
      = some (q.shift step) := by
    rw [clocksBuilt_find?, endClock_find_paused hq ha hk, hf]
    · rfl
    · intro p hw
      simp [hw]
    · intro d p
      rw [Perf.shift_state, Perf.shift_stopped]
  have offers : arbiterAfterStep step s = resume none (q.shift step) (clocksBuilt step s) := by
    rw [arbiterAfterStep_eq, ha, same]
    simp only [Option.filter_some, hk, if_true, Option.isSome_some]
    simp only [offerHammers, found]
  have now : (clocksBuilt step s).now = s.now := (Builds.clocksBuilt step s).now.trans (by rw [State.now, State.now, clocksLeft_time])
  rw [offers, ← now, ← Perf.shift_cursor step q, ← Perf.shift_spacing step q]
  exact mem_updatePerf (List.mem_of_find?_eq_some found) rfl

end Sys2Proof.Machine

namespace Sys2Proof.Machine

open Sys2Proof

/-! ## The clock events after a step, and those that it has passed (R68, R79) -/

/-- What a step leaves of the clock events lies ahead. -/
theorem arbiterAfterStep_clocks {s : State} {m : Nat} (hq : queueOk s) (hm : s.time.marker = some m) (step : Int) {c : Perf}
    (hc : c ∈ (arbiterAfterStep step s).arbiter.queue) (hk : c.isClock = true) :
    c.state = .waiting ∧ ∃ n mk, c.event = some n ∧ m < n ∧ (arbiterAfterStep step s).time.marker = some mk
      ∧ s.now < c.dueStart ∧ c.dueStart - 60000 ≤ s.now := by
  have keeps := Keeps.after_clocksLeft step s
  have ahead := (keeps.served m (clocksLeft_clocksAhead hq step hm)).ahead
  have now : (arbiterAfterStep step s).now = s.now := keeps.now.trans (by rw [State.now, State.now, clocksLeft_time])
  obtain ⟨mk, hmk, -⟩ := ahead.marker
  obtain ⟨hw, hlt, hle, n, hn, hmn⟩ := ahead.ahead c hc hk
  rw [now] at hlt hle
  exact ⟨hw, n, mk, hn, hmn, hmk, hlt, hle⟩

section Passed

variable {step : Int} {s : State} {a z m : Nat} (hm : s.time.marker = some m) (hv : s.time.validity = .isSet) (hs : 0 < step)
  (ha : (passedBy s m s.time.instant).head? = some a) (hz : (passedBy s m s.time.instant).getLast? = some z)

include hm hv hs ha hz

/-- The events that a forward step has passed are reported, the marker moves to the last, and the last that had been
waiting leaves its own record. -/
theorem passedOmitted_of_passed :
    nth (passedOmitted step s).details 3
        = some { instant := s.time.instant
                 detail := .clockEventsSkipped (min 65535 (passedBy s m s.time.instant).length) a z }
      ∧ (passedOmitted step s).time.marker = some z
      ∧ ∀ p, ((waitingClocks s.arbiter.queue).filter
          (fun p => p.event.any (passedBy s m s.time.instant).contains)).getLast? = some p →
        nth (passedOmitted step s).details 8
          = some { instant := s.time.instant, detail := .performanceOmitted p.id p.cls .step .whole p.event 0 0 } := by
  have passed := passedEvents_clocksLeft hm step
  have skipped := skipEvents_of_passed (s := clocksLeft step s) (a := a) (z := z) (m := m) (waitingClocks s.arbiter.queue)
    (by rw [clocksLeft_time, hv]) (by rw [clocksLeft_time, hm]) (by rw [passed, ha]) (by rw [passed, hz])
  rw [passed, clocksLeft_time] at skipped
  rw [passedOmitted, if_pos hs]
  exact skipped

theorem arbiterAfterStep_skipped :
    nth (arbiterAfterStep step s).details 3
        = some { instant := s.time.instant
                 detail := .clockEventsSkipped (min 65535 (passedBy s m s.time.instant).length) a z }
      ∧ ∃ mk, (arbiterAfterStep step s).time.marker = some mk ∧ z ≤ mk := by
  obtain ⟨record, marker, -⟩ := passedOmitted_of_passed hm hv hs ha hz
  exact ⟨(arbiterAfterStep_details (by decide) (by decide) step s).trans record, arbiterAfterStep_forward step s z marker⟩

theorem arbiterAfterStep_omits (hw : ClocksWait s) (room : (arbiterAfterStep step s).arbiter.queue.length < 8) :
    (arbiterAfterStep step s).time.marker = some z
      ∧ ∀ p, (s.arbiter.queue.filter
          (fun p => p.isClock && p.event.any (passedBy s m s.time.instant).contains)).getLast? = some p →
        nth (arbiterAfterStep step s).details 8
          = some { instant := s.time.instant, detail := .performanceOmitted p.id .clock .step .whole p.event 0 0 } := by
  obtain ⟨-, marker, record⟩ := passedOmitted_of_passed hm hv hs ha hz
  rw [hw.arbiterAfterStep] at room ⊢
  obtain ⟨time, details⟩ := rebuilt_of_room room
  rw [time, details]
  refine ⟨marker, fun p hp => ?_⟩
  have waiting : (waitingClocks s.arbiter.queue).filter (fun p => p.event.any (passedBy s m s.time.instant).contains)
      = s.arbiter.queue.filter (fun p => p.isClock && p.event.any (passedBy s m s.time.instant).contains) := by
    rw [waitingClocks, List.filter_filter]
    refine List.filter_congr fun c hc => ?_
    cases hk : c.isClock with
    | false => simp
    | true => simp [hw c hc hk]
  have cls : p.cls = .clock := by
    have hp' := (List.mem_filter.mp (List.mem_of_getLast? hp)).2
    rw [Bool.and_eq_true] at hp'
    exact beq_iff_eq.mp hp'.1
  rw [record p (by rw [waiting, hp]), cls]

end Passed

/-- With no event passed and a place left, the marker and the record of skips stay. -/
theorem arbiterAfterStep_unskipped {step : Int} {s : State} {m : Nat} (hm : s.time.marker = some m) (hw : ClocksWait s)
    (room : (arbiterAfterStep step s).arbiter.queue.length < 8) (h : step < 0 ∨ passedBy s m s.time.instant = []) :
    (arbiterAfterStep step s).time.marker = some m
      ∧ nth (arbiterAfterStep step s).details 3 = nth s.details 3 := by
  rw [hw.arbiterAfterStep] at room ⊢
  obtain ⟨time, details⟩ := rebuilt_of_room room
  rw [time, details, passedOmitted_of_none hm h, clocksLeft_time]
  exact ⟨hm, clocksLeft_details (by decide) step s⟩

/-! ## The requests that publish a step (R4, R5) -/

theorem closed_details (h : Header) (s : State) : (closed h s).details = s.details := by
  cases hl : h.link <;> simp only [closed, closeStream, hl] <;> rfl

theorem clamp_of_mem {lo hi x : Nat} (h1 : lo ≤ x) (h2 : x ≤ hi) : clamp lo hi x = x := by
  simp only [clamp]
  omega

theorem clampInt_of_mem {lo hi x : Int} (h1 : lo ≤ x) (h2 : x ≤ hi) : clampInt lo hi x = x := by
  simp only [clampInt]
  omega

/-- The state from which a step is published: tower time is as the step leaves it, and the rest as the request found it. -/
structure SteppedFrom (s s0 : State) (new m : Nat) : Prop where
  blocks : SameBlocks s s0
  details : s0.details = s.details
  instant : s0.time.instant = new
  validity : s0.time.validity = .isSet
  marker : s0.time.marker = some m

theorem zoneSet_publishes {h : Header} {s : State} {m new : Nat} {z : Int} (ht : Taken h s) (hv : s.time.validity = .isSet)
    (hm : s.time.marker = some m) (hnew : (new : Int) = s.time.instant + z * 60000) (hz : z ≠ 0) (hlast : new ≤ 3155759999999)
    (h1 : -120 ≤ z) (h2 : z ≤ 120) (h3 : -720 ≤ s.time.zone + z) (h4 : s.time.zone + z ≤ 720) :
    ∃ b s0, answers (.zoneSet h z) h 0x11 s .ok b (publishStep .zoneSet (z * 60000) s.time.instant s.time.validity s0)
      ∧ SteppedFrom s s0 new m := by
  let s0 : State := { closed h s with
    time := { s.time with zone := s.time.zone + z, instant := ((s.time.instant : Int) + z * 60000).toNat } }
  have answer := zoneSetAnswer_of_step (s := closed h s) (minutes := z) (z := z) (clampInt_of_mem h1 h2).symm
  rw [closed_time] at answer
  have answer := answer hv hz h3 h4 (by omega) (by omega)
  have taken := answers_of_taken (i := .zoneSet h z) (kind := 0x11) _ ht (by decide) rfl answer
  refine ⟨_, s0, taken, ?_, closed_details h s, ?_, hv, hm⟩
  · rw [SameBlocks]
    simp only [s0]
    rw [sameBlocks_closed h s]
  · show ((s.time.instant : Int) + z * 60000).toNat = new
    omega

theorem timeSet_publishes {h : Header} {s : State} {y mo da ms m new : Nat} {d : Int} (ht : Taken h s)
    (hm : s.time.marker = some m) (hd : (new : Int) = s.time.instant + d) (h0 : d ≠ 0)
    (hy : 2000 ≤ y ∧ y ≤ 2099) (hmo : 1 ≤ mo ∧ mo ≤ 12) (hda : 1 ≤ da ∧ da ≤ monthLength y mo) (hms : ms < 86400000)
    (hnew : new = dayNumber y mo da * 86400000 + ms) :
    ∃ b s0, answers (.timeSet h y mo da ms) h 0x10 s .ok b (publishStep .timeSet d s.time.instant s.time.validity s0)
      ∧ SteppedFrom s s0 new m := by
  have cy := clamp_of_mem hy.1 hy.2
  have cm := clamp_of_mem hmo.1 hmo.2
  have cms : clamp 0 86399999 ms = ms := clamp_of_mem (Nat.zero_le _) (by omega)
  have answer := timeSetAnswer_of_step (s := closed h s) (year := y) (month := mo) (day := da) (ms := ms) new
    (by rw [cy, cm, cms, hnew]) (by rw [cy, cm, dayExists_iff]; exact hda)
  rw [closed_time] at answer
  have answer := answer (.inr (by omega))
  have step : (new : Int) - s.time.instant = d := by omega
  rw [step] at answer
  have taken := answers_of_taken (i := .timeSet h y mo da ms) (kind := 0x10) _ ht (by decide) rfl answer
  refine ⟨_, setTime new (closed h s), taken, ?_, closed_details h s, rfl, rfl, ?_⟩
  · rw [SameBlocks]
    simp only [setTime]
    rw [sameBlocks_closed h s]
  · simp only [setTime, closed_time, hm]
    rfl

/-- What stands announced of the blocks that the arbiter reads. -/
theorem SameBlocks.announced {s s0 : State} (h : SameBlocks s s0) (cause : StepCause) (step : Int) (old : Nat) (before : Validity) :
    let u := announced cause step old before s0
    u.arbiter = s.arbiter ∧ u.touch = s.touch ∧ u.strikes = s.strikes ∧ u.hammers = s.hammers ∧ u.allowance = s.allowance := by
  have h' : s0 = _ := h
  intro u
  simp only [u]
  rw [announced_same, h']
  exact ⟨rfl, rfl, rfl, rfl, rfl⟩

theorem activePerf_congr {s t : State} (h : t.arbiter = s.arbiter) : activePerf t = activePerf s := by
  simp only [activePerf, h]

theorem heldBack_congr {s t : State} (h : t.arbiter = s.arbiter) (ht : t.touch = s.touch) : heldBack t = heldBack s := by
  funext p
  simp only [heldBack, remains, h, ht]

end Sys2Proof.Machine

namespace Sys2Proof.Machine

open Sys2Proof

/-! ## One performance of the queue (R60, R61) -/

/-- No two performances have one id: the performance of an id is the one that has it. -/
theorem eq_of_id {q : List Perf} (h : (q.map (·.id)).Nodup) {x y : Perf} (hx : x ∈ q) (hy : y ∈ q) (hid : x.id = y.id) : x = y :=
  List.inj_on_of_nodup_map h hx hy hid

theorem findPerf_of_mem {s : State} (h : (s.arbiter.queue.map (·.id)).Nodup) {p : Perf} (hp : p ∈ s.arbiter.queue) :
    findPerf s p.id = some p := by
  obtain ⟨x, hx⟩ := Option.isSome_iff_exists.mp (List.find?_isSome.mpr ⟨p, hp, beq_iff_eq.mpr rfl⟩
    : (s.arbiter.queue.find? (·.id == p.id)).isSome)
  have hid : x.id = p.id := by simpa using List.find?_some hx
  rw [findPerf, hx, eq_of_id h (List.mem_of_find?_eq_some hx) hp hid]

/-- The others of a queue are what they were when one performance changes. -/
theorem filter_ne_map {id : Nat} {f : Perf → Perf} (hf : ∀ p, (f p).id = p.id) (q : List Perf) :
    (q.map (fun p => if p.id == id then f p else p)).filter (·.id != id) = q.filter (·.id != id) := by
  induction q with
  | nil => rfl
  | cons p q ih =>
    rw [List.map_cons]
    by_cases hp : p.id = id
    · rw [List.filter_cons_of_neg (by simp [hp, hf]), List.filter_cons_of_neg (by simp [hp]), ih]
    · rw [List.filter_cons_of_pos (by simp [hp]), List.filter_cons_of_pos (by simp [hp]), ih, if_neg (by simp [hp])]

/-- With the ids distinct, a change of the performance of an id is a change of that performance. -/
theorem map_eq_of_mem {q : List Perf} (h : (q.map (·.id)).Nodup) {w : Perf} (hw : w ∈ q) {f g : Perf → Perf} (hfg : f w = g w) :
    q.map (fun p => if p.id == w.id then f p else p) = q.map (fun p => if p.id = w.id then g p else p) := by
  refine List.map_congr_left fun p hp => ?_
  by_cases hid : p.id = w.id
  · rw [eq_of_id h hp hw hid, if_pos (beq_iff_eq.mpr rfl), if_pos rfl, hfg]
  · rw [if_neg (by simp [hid]), if_neg hid]

theorem nodup_others {q : List Perf} (h : (q.map (·.id)).Nodup) (id : Nat) : ((q.filter (·.id != id)).map (·.id)).Nodup :=
  h.sublist (List.filter_sublist.map _)

/-- A search that does not look for a performance finds the same where it is left out. -/
theorem find?_others {q : List Perf} (h : (q.map (·.id)).Nodup) {p : Perf} (hp : p ∈ q) {f : Perf → Bool} (hf : f p = false) :
    (q.filter (·.id != p.id)).find? f = q.find? f :=
  find?_filter_of_imp fun x hx hfx => by
    rw [bne_iff_ne]
    intro hid
    rw [eq_of_id h hx hp hid, hf] at hfx
    cases hfx

/-! ## The last entry of a performance is taken (R77, R90) -/

/-- The state in which a stroke has been taken: its hammer's pulse runs, and its strike is the performance's last taken. -/
def strokeTaken (e : Entry) (rest : List Entry) (s : State) : State :=
  updatePerf e.id (fun p => { p with lastTaken := some e.strike })
    (actuate e.bell e.id e.pulse e.actuation { s with strikes := rest })

/-- A READY hammer takes its stroke. -/
theorem takeEntry_of_ready {s : State} {e : Entry} {rest : List Entry} (hs : s.strikes = e :: rest)
    (hr : (s.hammer e.bell).state = .ready) : takeEntry s = checkEnd (strokeTaken e rest s) e.id := by
  have rests : ripen e.bell s = s := by simp [ripen, endRecovery, hr]
  have ready : (({ s with strikes := rest } : State).hammer e.bell).state = .ready := hr
  simp only [takeEntry, hs, rests, bne_self_eq_false, Bool.false_eq_true, if_false, ready, beq_self_eq_true, if_true]
  rfl

theorem exec_strikeEntryTaken {s : State} {e : Entry} {rest : List Entry} (ho : s.power.operating = true)
    (hs : s.strikes = e :: rest) (hd : e.actuation ≤ s.time.instant) (hr : (s.hammer e.bell).state = .ready) :
    exec .strikeEntryTaken s = .next (checkEnd (strokeTaken e rest s) e.id) := by
  have due : entryDue s = true := by simp [entryDue, hs, State.now, hd]
  have run : exec .strikeEntryTaken s = .next (whenOperating (fun s => if entryDue s then takeEntry s else s) s) := rfl
  rw [run, whenOperating_true _ _ ho, if_pos due, takeEntry_of_ready hs hr]

/-- An actuation leaves each hammer as usable as a READY one was. -/
theorem strokeTaken_usable {s : State} {e : Entry} (rest : List Entry) (h1 : 1 ≤ e.bell) (h2 : e.bell ≤ 24)
    (hr : (s.hammer e.bell).state = .ready) (b : Nat) : ((strokeTaken e rest s).hammer b).usable = (s.hammer b).usable := by
  let x := s.hammer e.bell
  let struck : Hammer := { x with
    state := .striking, pulseEnds := some (s.elapsed + e.pulse), pulseId := e.id
    recoveryEnd := some (e.actuation + ((x.lead + x.recovery : Nat) : Int)) }
  have hammers : (strokeTaken e rest s).hammer b = (s.withHammer e.bell struck).hammer b := rfl
  rw [hammers]
  by_cases hb : e.bell = b
  · subst hb
    rw [hammer_withHammer_self s e.bell struck ((within_iff _ _ _).mpr ⟨h1, h2⟩)]
    simp [Hammer.usable, struck, x, hr]
  · rw [hammer_withHammer_ne s _ _ _ hb]

section LastTaken

variable {s : State} {e : Entry} {rest : List Entry} {p : Perf}

/-- The performance whose last entry has been taken ends. -/
def lastEnded (e : Entry) (rest : List Entry) (p : Perf) (s : State) : State :=
  endPerf { p with lastTaken := some e.strike } (p.stopped.getD .complete) (strokeTaken e rest s)

/-- Nothing is left of the ACTIVE performance: it ends, and the hammers are offered (R76, R77). -/
theorem checkEnd_of_last (hq : queueOk s) (hp : p ∈ s.arbiter.queue) (hid : p.id = e.id) (hact : p.state = .active)
    (hend : p.stopped = none ∧ remains s p = false ∨ p.stopped = some .hushed) (hlast : ∀ r ∈ rest, r.id ≠ e.id) :
    checkEnd (strokeTaken e rest s) e.id
      = offerHammers (if p.isClock then some e.strike else none) (lastEnded e rest p s) := by
  obtain ⟨-, -, nodup, -⟩ := hq
  let p' : Perf := { p with lastTaken := some e.strike }
  have mem : p' ∈ (strokeTaken e rest s).arbiter.queue :=
    mem_updatePerf (s := actuate e.bell e.id e.pulse e.actuation { s with strikes := rest })
      (f := fun p => { p with lastTaken := some e.strike }) hp hid
  have ids : ((strokeTaken e rest s).arbiter.queue.map (·.id)).Nodup := by
    have same : (strokeTaken e rest s).arbiter.queue.map (·.id) = s.arbiter.queue.map (·.id) := by
      refine (List.map_map ..).trans (List.map_congr_left fun x _ => ?_)
      simp only [Function.comp_apply]
      split <;> rfl
    rw [same]
    exact nodup
  have found : findPerf (strokeTaken e rest s) e.id = some p' := by
    rw [← hid]
    exact findPerf_of_mem ids mem
  have noEntry : hasEntries (strokeTaken e rest s) p'.id = false := by
    show rest.any (fun r => r.id == p.id) = false
    rw [hid, List.any_eq_false]
    intro r hr
    simpa using hlast r hr
  have left : remains (strokeTaken e rest s) p' = remains s p := rfl
  have done : finished (strokeTaken e rest s) p' = true := by
    rw [finished, noEntry, left]
    rcases hend with ⟨-, hr⟩ | hs
    · simp [hr]
    · simp [p', hs]
  have from_ : resumeFrom (p.stopped.getD .complete) p' = if p.isClock then some e.strike else none := by
    have ends : (p.stopped.getD .complete == .complete || p.stopped.getD .complete == .hushed) = true := by
      rcases hend with ⟨hs, -⟩ | hs <;> rw [hs] <;> rfl
    rw [resumeFrom, ends, Bool.and_true]
    rfl
  have active : p'.state = .active := hact
  simp only [checkEnd, found]
  rw [if_pos (by rw [active, done]; rfl), if_pos (by rw [active]; rfl)]
  exact congrArg (fun c => offerHammers c _) from_

/-- What the end of the performance leaves: the queue has the others, and the touch is the same unless it was the touch. -/
theorem lastEnded_same (hid : p.id = e.id) (hend : p.stopped = none ∨ p.stopped = some .hushed) (hcls : p.cls ≠ .touch) :
    lastEnded e rest p s = { s with
      arbiter := { s.arbiter with queue := s.arbiter.queue.filter (·.id != p.id) }
      strikes := rest, hammers := (strokeTaken e rest s).hammers
      details := (lastEnded e rest p s).details, panel := (lastEnded e rest p s).panel
      chamber := (lastEnded e rest p s).chamber } := by
  let p' : Perf := { p with lastTaken := some e.strike }
  let t := strokeTaken e rest s
  have stays : (p.stopped.getD .complete == .step || p.stopped.getD .complete == .mode) = false := by
    rcases hend with hs | hs <;> rw [hs] <;> rfl
  have noTouch : ∀ how, endTouch p' how none t = t := fun how => by
    have : p'.cls ≠ .touch := hcls
    simp [endTouch, this]
  have ends : lastEnded e rest p s
      = dropPerf p.id (raise (.performanceEnded p.id p.cls (p.stopped.getD .complete) p.booked p.dropped) t) := by
    simp only [lastEnded, endPerf, stays, Bool.false_eq_true, if_false]
    exact congrArg (fun u => dropPerf p.id (raise _ u)) (noTouch _)
  have others : t.arbiter.queue.filter (·.id != p.id) = s.arbiter.queue.filter (·.id != p.id) := by
    rw [hid]
    exact filter_ne_map (f := fun p => { p with lastTaken := some e.strike }) (fun _ => rfl) _
  rw [ends, dropPerf, State.withQueue, raise_arbiter, others]
  rfl

end LastTaken

/-! ## The hammers are offered again (R75, R76) -/

/-- A PAUSED performance resumes so that the row at its cursor lands one spacing after the clock's last blow (R75). -/
theorem strikeEntryTaken_resumes {s : State} {e : Entry} {rest : List Entry} {p q : Perf} (ho : s.power.operating = true)
    (hq : queueOk s) (hs : s.strikes = e :: rest) (hd : e.actuation ≤ s.time.instant)
    (hr : (s.hammer e.bell).state = .ready) (hp : p ∈ s.arbiter.queue) (hid : p.id = e.id) (hact : p.state = .active)
    (hend : p.stopped = none ∧ remains s p = false ∨ p.stopped = some .hushed) (hlast : ∀ r ∈ rest, r.id ≠ e.id)
    (hk : p.isClock = true) (hf : s.arbiter.queue.find? (fun x => x.state == .paused && x.stopped.isNone) = some q) :
    ∃ t, exec .strikeEntryTaken s = .next t
      ∧ t.arbiter = { s.arbiter with
          queue := (s.arbiter.queue.filter (fun x => x.id != p.id)).map (fun x =>
            if x.id = q.id then
              { x with state := .active, origin := some (e.strike + q.spacing - (q.cursor : Int) * q.spacing) }
            else x) }
      ∧ t.touch = s.touch ∧ t.time = s.time := by
  obtain ⟨-, -, nodup, -⟩ := id hq
  have cls : p.cls ≠ .touch := by rw [beq_iff_eq.mp hk]; decide
  have same := lastEnded_same (s := s) (rest := rest) hid (hend.imp (·.1) id) cls
  have found : (lastEnded e rest p s).arbiter.queue.find? (fun x => x.state == .paused && x.stopped.isNone) = some q := by
    rw [same]
    exact (find?_others nodup hp (by simp [hact])).trans hf
  refine ⟨_, exec_strikeEntryTaken ho hs hd hr, ?_⟩
  rw [checkEnd_of_last hq hp hid hact hend hlast, if_pos hk, offerHammers, found, same]
  refine ⟨congrArg (fun l => { s.arbiter with queue := l }) ?_, rfl, rfl⟩
  refine map_eq_of_mem (nodup_others nodup p.id) ?_ rfl
  rw [same] at found
  exact List.mem_of_find?_eq_some found

/-- A performance that is offered the hammers while one is ACTIVE is passed over. -/
theorem foldl_offerTo_of_active {s : State} (h : (activePerf s).isSome) (ids : List Nat) : ids.foldl offerTo s = s := by
  induction ids with
  | nil => rfl
  | cons id ids ih =>
    obtain ⟨a, ha⟩ := Option.isSome_iff_exists.mp h
    have passed : offerTo s id = s := by simp [offerTo, ha]
    rw [List.foldl_cons, passed, ih]

/-- What does not wait for the hammers is passed over. -/
theorem foldl_offerTo_of_not_due {s : State} (nodup : (s.arbiter.queue.map (·.id)).Nodup) {l : List Perf}
    (hl : ∀ x ∈ l, x ∈ s.arbiter.queue) (hd : ∀ x ∈ l, (x.state == .waiting && decide (x.dueStart ≤ s.now)) = false) :
    (l.map (·.id)).foldl offerTo s = s := by
  induction l with
  | nil => rfl
  | cons x l ih =>
    have passed : offerTo s x.id = s := by
      rw [offerTo, findPerf_of_mem nodup (hl x (List.mem_cons_self ..))]
      split
      · rename_i p heq _
        rw [← Option.some.inj heq, hd x (List.mem_cons_self ..)]
        rfl
      · rfl
    rw [List.map_cons, List.foldl_cons, passed,
      ih (fun y hy => hl y (List.mem_cons_of_mem x hy)) (fun y hy => hd y (List.mem_cons_of_mem x hy))]

theorem startPlain_arbiter (w : Perf) (s : State) : (startPlain w s).arbiter = { s.arbiter with
    queue := s.arbiter.queue.map (fun p => if p.id == w.id then
      { p with state := .active, tested := true, origin := some (s.now + 2000) } else p) } := by
  unfold startPlain
  split <;> rfl

/-- With none PAUSED the first performance in queue order whose due start has come is tested, and where it starts the
hammers are taken (R76). -/
theorem offerHammers_starts {s : State} {w : Perf} (clock : Option Int) (nodup : (s.arbiter.queue.map (·.id)).Nodup)
    (hnone : activePerf s = none) (hp : s.arbiter.queue.find? (fun p => p.state == .paused && p.stopped.isNone) = none)
    (hw : s.arbiter.queue.find? (fun x => x.state == .waiting && decide (x.dueStart ≤ s.now)) = some w)
    (htest : startTest w s = startPlain w s) : offerHammers clock s = startPlain w s := by
  obtain ⟨due, before, behind, split, early⟩ := List.find?_eq_some_iff_append.mp hw
  have hmem : w ∈ s.arbiter.queue := List.mem_of_find?_eq_some hw
  have starts : offerTo s w.id = startPlain w s := by
    rw [offerTo, findPerf_of_mem nodup hmem, hnone, ← htest]
    exact if_pos due
  have active : (activePerf (startPlain w s)).isSome := by
    rw [activePerf, startPlain_arbiter, List.find?_isSome]
    exact ⟨_, List.mem_map_of_mem hmem, by simp⟩
  have passed : (before.map (·.id)).foldl offerTo s = s := by
    refine foldl_offerTo_of_not_due nodup (fun x hx => ?_) (fun x hx => (Bool.not_eq_true' _).mp (early x hx))
    rw [split]
    exact List.mem_append_left _ hx
  rw [offerHammers, hp]
  dsimp only
  rw [show s.arbiter.queue.map (·.id) = before.map (·.id) ++ w.id :: behind.map (·.id) by rw [split]; simp,
    List.foldl_append, passed, List.foldl_cons, starts, foldl_offerTo_of_active active]

/-- A tune, toll or touch that is not silenced and lacks no hammer starts where none is ACTIVE (R72, R73). -/
theorem startTest_of_free {s : State} {w : Perf} {k : SilenceClass} (hm : s.maintenance = false) (hnone : activePerf s = none)
    (hsrc : (∃ n x, w.source = .tune n x ∧ k = .tune ∧ tuneLacks s x = false)
      ∨ (∃ b v x n f, w.source = .toll b v x n f ∧ k = .toll ∧ (s.hammer b).usable = true)
      ∨ (w.source = .touch ∧ k = .touch)) (hs : nowSilenced s k = false) : startTest w s = startPlain w s := by
  have tested : testPlain w k false s = startPlain w s := by simp [testPlain, hs, hnone]
  rw [startTest, hm, if_neg (by decide)]
  rcases hsrc with ⟨n, x, src, rfl, lacks⟩ | ⟨b, v, x, n, f, src, rfl, usable⟩ | ⟨src, rfl⟩ <;> rw [src]
  · dsimp only
    rw [lacks]
    exact tested
  · dsimp only
    rw [usable]
    exact tested
  · exact tested

theorem startPlain_touch (w : Perf) (s : State) : (startPlain w s).touch
    = if w.source = .touch then { s.touch with status := .ringing, phase := .opening } else s.touch := by
  have cls : w.cls = .touch ↔ w.source = .touch := by
    cases hs : w.source <;> simp [Perf.cls, Source.cls, hs]
  unfold startPlain
  by_cases h : w.source = .touch
  · rw [if_pos h, if_pos (by simp [cls.mpr h])]
    rfl
  · rw [if_neg h, if_neg (by simp [cls, h])]
    rfl

theorem startPlain_time (w : Perf) (s : State) : (startPlain w s).time = s.time := by
  unfold startPlain
  split <;> rfl

/-- With none PAUSED the first WAITING performance whose due start has come starts with S at now + 2,000 (R62, R76). -/
theorem strikeEntryTaken_starts {s : State} {e : Entry} {rest : List Entry} {p w : Perf} {k : SilenceClass}
    (ho : s.power.operating = true) (hq : queueOk s) (hs : s.strikes = e :: rest) (hd : e.actuation ≤ s.time.instant)
    (h1 : 1 ≤ e.bell) (h2 : e.bell ≤ 24) (hr : (s.hammer e.bell).state = .ready) (hp : p ∈ s.arbiter.queue)
    (hid : p.id = e.id) (hact : p.state = .active)
    (hend : p.stopped = none ∧ remains s p = false ∨ p.stopped = some .hushed) (hlast : ∀ r ∈ rest, r.id ≠ e.id)
    (hcls : p.cls ≠ .touch) (hm : s.maintenance = false)
    (hf : s.arbiter.queue.find? (fun x => x.state == .paused && x.stopped.isNone) = none)
    (hw : s.arbiter.queue.find? (fun x => x.state == .waiting && decide (x.dueStart ≤ (s.time.instant : Int))) = some w)
    (hsrc : (∃ n x, w.source = .tune n x ∧ k = .tune ∧ tuneLacks s x = false)
      ∨ (∃ b v x n f, w.source = .toll b v x n f ∧ k = .toll ∧ (s.hammer b).usable = true)
      ∨ (w.source = .touch ∧ k = .touch)) (hsil : nowSilenced s k = false) :
    ∃ t, exec .strikeEntryTaken s = .next t
      ∧ t.arbiter = { s.arbiter with
          queue := (s.arbiter.queue.filter (fun x => x.id != p.id)).map (fun x =>
            if x.id = w.id then { x with state := .active, tested := true, origin := some ((s.time.instant : Int) + 2000) }
            else x) }
      ∧ t.touch = (if w.source = .touch then { s.touch with status := .ringing, phase := .opening } else s.touch)
      ∧ t.time = s.time := by
  let u := lastEnded e rest p s
  obtain ⟨-, -, nodup, -, -, -, one, -⟩ := id hq
  have same : u = _ := lastEnded_same (s := s) (rest := rest) hid (hend.imp (·.1) id) hcls
  have queue : u.arbiter = { s.arbiter with queue := s.arbiter.queue.filter (·.id != p.id) } := by rw [same]
  have time : u.time = s.time := by rw [same]
  have touch : u.touch = s.touch := by rw [same]
  have usable (b : Nat) : (u.hammer b).usable = (s.hammer b).usable := by
    rw [← strokeTaken_usable rest h1 h2 hr b, State.hammer, same]
    rfl
  have lacks (x : TuneSnap) : tuneLacks u x = tuneLacks s x := by
    have score : u.score = s.score := by rw [same]
    simp only [tuneLacks, usable, score]
  have silenced : nowSilenced u k = nowSilenced s k := by
    rw [same]
    rfl
  have none : activePerf u = none := by
    rw [activePerf, queue, List.find?_eq_none]
    intro a ha hactive
    obtain ⟨hmem, hne⟩ := List.mem_filter.mp ha
    have both := (activePerf_eq one hmem (beq_iff_eq.mp hactive)).symm.trans (activePerf_eq one hp hact)
    rw [Option.some.inj both] at hne
    simp at hne
  have noPaused : u.arbiter.queue.find? (fun x => x.state == .paused && x.stopped.isNone) = Option.none := by
    rw [queue]
    exact (find?_others nodup hp (by simp [hact])).trans hf
  have first : u.arbiter.queue.find? (fun x => x.state == .waiting && decide (x.dueStart ≤ u.now)) = some w := by
    rw [queue, State.now, time]
    exact (find?_others nodup hp (by simp [hact])).trans hw
  have ids : (u.arbiter.queue.map (·.id)).Nodup := by
    rw [queue]
    exact nodup_others nodup p.id
  have tested : startTest w u = startPlain w u :=
    startTest_of_free (by rw [same]; exact hm) none (by simpa only [lacks, usable] using hsrc) (by rw [silenced, hsil])
  refine ⟨startPlain w u, ?_, ?_, ?_, ?_⟩
  · rw [exec_strikeEntryTaken ho hs hd hr, checkEnd_of_last hq hp hid hact hend hlast,
      offerHammers_starts _ ids none noPaused first tested]
  · rw [startPlain_arbiter, queue, State.now, time]
    simp only [beq_iff_eq]
  · rw [startPlain_touch, touch]
  · rw [startPlain_time, time]

/-! ## A hold whose clock event is omitted (R72, R74) -/

/-- Both parts of an hour event without a chime are silenced: it leaves as omitted. -/
theorem testClock_of_silenced {s : State} {p : Perf} {e : Nat} {k : StrikePart} (ha : afterMarker s e = true)
    (hs : eventSilenced s e .hour = true) :
    testClock p e none (some k) s = leaveOmitted p (omitted p .silence .strike s) := by
  simp [testClock, ha, hs, partTest]

theorem endHold_of_released {s : State} {a : Perf} (ha : activePerf s = some a) (hs : a.stopped = none)
    (hb : heldBack s a = false) :
    endHold (some a.id) s = updatePerf a.id (fun x => x.rebase (max x.cursorLanding (s.now + 2000))) s := by
  simp only [endHold, ha]
  exact if_pos ⟨trivial, hs, hb⟩

theorem updatePerf_arbiter (id : Nat) (f : Perf → Perf) (s : State) : (updatePerf id f s).arbiter
    = { s.arbiter with queue := s.arbiter.queue.map (fun p => if p.id == id then f p else p) } := rfl

/-- A hold kept for a clock event that is then omitted ends: the performance is re-based (R74, R75). -/
theorem dueStart_rebases {s : State} {p a : Perf} {e m : Nat} {k : StrikePart} (ho : s.power.operating = true)
    (hq : queueOk s) (hp : p ∈ s.arbiter.queue) (hw : p.state = .waiting) (htest : p.tested = false)
    (hd : p.dueStart ≤ s.time.instant) (hsrc : p.source = .clock e none (some k)) (hm : s.maintenance = false)
    (hmark : s.time.marker = some m) (hlt : m < e) (hsil : eventSilenced s e .hour = true) (ha : activePerf s = some a)
    (hb : heldBack s a = true) (honly : ∀ c ∈ s.arbiter.queue, c.isClock = true → c.state = .waiting → c = p) :
    ∃ t, exec (.dueStart p.id) s = .next t ∧ t.time = { s.time with marker := some e }
      ∧ t.arbiter = { s.arbiter with
          queue := (s.arbiter.queue.filter (fun x => x.id != p.id)).map (fun x =>
            if x.id = a.id then
              { x with origin := some (max a.cursorLanding ((s.time.instant : Int) + 2000) - (a.cursor : Int) * a.spacing) }
            else x) } := by
  obtain ⟨-, -, nodup, -⟩ := hq
  obtain ⟨-, -, running, -, -⟩ := (heldBack_iff s a).mp hb
  obtain ⟨hmem, hact⟩ := activePerf_spec ha
  let s1 := omitted p .silence .strike s
  let s2 := moveMarker e (dropPerf p.id s1)
  have moved : s2 = { dropPerf p.id s1 with time := { s.time with marker := some e } } :=
    moveMarker_of_lt (s := dropPerf p.id s1) hmark hlt
  have queue : s2.arbiter = { s.arbiter with queue := s.arbiter.queue.filter (·.id != p.id) } := by
    rw [moved]
    rfl
  have active : activePerf s2 = some a := by
    rw [activePerf, queue]
    exact (find?_others nodup hp (by simp [hw])).trans ha
  have released : heldBack s2 a = false := by
    rw [← Bool.not_eq_true, heldBack_iff, queue]
    rintro ⟨-, -, -, -, c, hc, hkc, hwc, -⟩
    obtain ⟨hcq, hne⟩ := List.mem_filter.mp hc
    rw [honly c hcq hkc hwc] at hne
    simp at hne
  have was : holder s1 = some a.id := by
    have same : holder s1 = holder s := rfl
    rw [same, holder, ha]
    simp [hb]
  have leaves : leaveOmitted p s1 = updatePerf a.id (fun x => x.rebase (max x.cursorLanding (s2.now + 2000))) s2 := by
    have served : serveEvent p (dropPerf p.id s1) = s2 := by simp [serveEvent, Perf.event, hsrc, s2]
    rw [leaveOmitted, was, served]
    exact endHold_of_released active running released
  have now : s2.now = (s.time.instant : Int) := by rw [moved]; rfl
  have due : p.startDue s.now = true := by simp [Perf.startDue, hw, htest, State.now, hd]
  have run : exec (.dueStart p.id) s = .next (whenOperating
      (fun s => match findPerf s p.id with
        | some q => if q.startDue s.now then startTest q s else s
        | none => s) s) := rfl
  have tests : startTest p s = leaveOmitted p s1 := by
    rw [startTest, hm, hsrc]
    exact testClock_of_silenced (by simp [afterMarker, hmark, hlt]) hsil
  refine ⟨leaveOmitted p s1, ?_, ?_, ?_⟩
  · rw [run, whenOperating_true _ _ ho, findPerf_of_mem nodup hp]
    dsimp only
    rw [if_pos due, tests]
  · rw [leaves]
    show s2.time = _
    rw [moved]
  · have stays : a ∈ s2.arbiter.queue := List.mem_of_find?_eq_some active
    rw [leaves, now, updatePerf_arbiter, queue]
    rw [queue] at stays
    refine congrArg (fun l => { s.arbiter with queue := l }) (map_eq_of_mem (nodup_others nodup p.id) stays ?_)
    rfl

end Sys2Proof.Machine

namespace Sys2Proof.Machine

open Sys2Proof

/-- A request that publishes a step, in a state with a SET time, is a ZONE-SET or a TIME-SET. -/
theorem step_publishes {s : State} {i : Instr} {h : Header} {kind m new : Nat} {d : Int} (ht : Taken h s)
    (hv : s.time.validity = .isSet) (hm : s.time.marker = some m) (hnew : (new : Int) = s.time.instant + d) (hd : d ≠ 0)
    (hlast : new ≤ 3155759999999)
    (hreq : (∃ z, i = .zoneSet h z ∧ kind = 0x11 ∧ -120 ≤ z ∧ z ≤ 120 ∧ d = z * 60000 ∧ -720 ≤ s.time.zone + z
         ∧ s.time.zone + z ≤ 720)
       ∨ ∃ y mo da ms, i = .timeSet h y mo da ms ∧ kind = 0x10 ∧ 2000 ≤ y ∧ y ≤ 2099 ∧ 1 ≤ mo ∧ mo ≤ 12 ∧ 1 ≤ da
         ∧ da ≤ monthLength y mo ∧ ms < 86400000 ∧ new = dayNumber y mo da * 86400000 + ms) :
    ∃ cause b s0, answers i h kind s .ok b (publishStep cause d s.time.instant s.time.validity s0) ∧ SteppedFrom s s0 new m := by
  rcases hreq with ⟨z, rfl, rfl, h1, h2, rfl, h3, h4⟩ | ⟨y, mo, da, ms, rfl, rfl, y1, y2, m1, m2, d1, d2, hms, hday⟩
  · exact ⟨.zoneSet, zoneSet_publishes ht hv hm hnew (by omega) hlast h1 h2 h3 h4⟩
  · exact ⟨.timeSet, timeSet_publishes ht hm hnew hd ⟨y1, y2⟩ ⟨m1, m2⟩ ⟨d1, d2⟩ hms hday⟩

/-- Settles O34. A request that publishes a step is followed through the arbiter's reaction, which the lemmas on
`arbiterAfterStep` describe; the lights that the step then moves touch nothing of it. What follows when a clock ends or is
omitted is said for the exec arms of the strike entry and of the due start. -/
theorem stepAndResumption : Obligations.StepAndResumption := by
  unfold Obligations.StepAndResumption
  refine ⟨?_, fun s e rest p ho hq hs hd h1 h2 hr hp hid hact hend hlast => ?_,
    fun s p a e m k ho hq hp hw htest hd hsrc hm hmark hlt hsil ha hb honly =>
      dueStart_rebases ho hq hp hw htest hd hsrc hm hmark hlt hsil ha hb honly⟩
  · intro s i h kind m new d ht hq _ hv hm hload hnew hd hlast hreq now shifted plain due near passed quiet
    obtain ⟨cause, b, s0, hans, from0⟩ := step_publishes ht hv hm hnew hd hlast hreq
    let u := announced cause d s.time.instant s.time.validity s0
    let v := arbiterAfterStep d u
    obtain ⟨arb, touch, strikes, hammers, load⟩ := from0.blocks.announced cause d s.time.instant s.time.validity
    have uTime : u.time = { s0.time with minuteMark := s0.time.instant / 60000 } := announced_time ..
    have uInstant : u.time.instant = new := by rw [uTime]; exact from0.instant
    have uNow : u.now = now := by rw [State.now, uInstant]
    have uMarker : u.time.marker = some m := by rw [uTime]; exact from0.marker
    have uSet : u.time.validity = .isSet := by rw [uTime]; exact from0.validity
    have uq : queueOk u := queueOk_congr arb hq
    have plans : SamePlans s u := from0.blocks.samePlans.trans (announced_samePlans ..)
    have uDue : eventDue u = due := funext plans.eventDue
    have uPassed : passedBy u m u.time.instant = passed := by
      have : dueOf u = due := uDue
      rw [passedBy, uInstant, this]
    have vLoad : v.allowance.queue = [] := by rw [arbiterAfterStep_allowance, load, hload]
    have settled := OnlyLights.settleLoad vLoad
    have lights : OnlyLights v (publishStep cause d s.time.instant s.time.validity s0) :=
      settled.trans (.restoreLights (settled.queue.trans vLoad))
    generalize publishStep cause d s.time.instant s.time.validity s0 = t at hans lights
    have tArb : t.arbiter = v.arbiter := by rw [lights.same]
    have tTime : t.time = v.time := by rw [lights.same]
    have tStrikes : t.strikes = v.strikes := by rw [lights.same]
    have tHammers : t.hammers = v.hammers := by rw [lights.same]
    have tDetails (k : Nat) (hk : k ≠ 15) : nth t.details k = nth v.details k := lights.details k hk
    have wait (hw : quiet) : ClocksWait u := by rw [ClocksWait, arb]; exact hw
    have active (a : Perf) (ha : activePerf s = some a) : activePerf u = some a := (activePerf_congr arb).trans ha
    have held : heldBack u = heldBack s := heldBack_congr arb touch
    refine ⟨.ok, b, t, hans, rfl, ?_, ?_, ?_, ?_, ?_, ?_, ?_, ?_, ?_, ?_⟩
    · have keeps := (Keeps.clocksLeft d u).trans (.after_clocksLeft d u)
      rw [tTime, keeps.instant, uInstant]
    · rw [tStrikes, arbiterAfterStep_strikes uq, strikes, arb]
      rfl
    · intro b hb
      rw [State.hammer, tHammers]
      refine (arbiterAfterStep_hammer d u hb).trans ?_
      simp only [State.hammer, hammers, u]
    · rw [tArb, tTime, ← uNow]
      exact fun c hc hk => arbiterAfterStep_clocks uq uMarker d hc hk
    · rw [tArb, tTime, ← uNow]
      intro hw _ n mk x hk hlt hn hx hnow hbuild
      simp only [v, (wait hw).arbiterAfterStep] at hk ⊢
      exact rebuilt_complete uMarker uSet hk hlt (by rw [lastCandidate, uInstant]; exact hn) (uDue ▸ hx) hnow hbuild
    · rw [tArb]
      intro hw hno
      simp only [v, (wait hw).arbiterAfterStep]
      refine (rebuilt_plain (wait hw) (by rw [held, arb]; exact hno) d).trans ?_
      rw [arb]
      rfl
    · rw [tArb, tTime, tDetails 3 (by decide)]
      intro hw room hnone
      obtain ⟨marker, record⟩ := arbiterAfterStep_unskipped uMarker (wait hw) room (by rw [uPassed]; exact hnone)
      refine ⟨marker, record.trans ?_⟩
      rw [announced_details, nth_setNth_ne _ _ _ _ (by decide), from0.details]
    · rw [tArb, tTime, tDetails 3 (by decide), tDetails 8 (by decide), ← uInstant]
      intro hpos a z ha hz
      rw [← uPassed] at ha hz ⊢
      obtain ⟨record, marker⟩ := arbiterAfterStep_skipped uMarker uSet hpos ha hz
      refine ⟨record, marker, fun hw room => ?_⟩
      rw [← arb]
      exact arbiterAfterStep_omits uMarker uSet hpos ha hz (wait hw) room
    · rw [tArb, tDetails 9 (by decide), ← uInstant, ← uNow]
      intro a ha hk
      refine ⟨arbiterAfterStep_clockEnded (active a ha) hk d, fun q hf _ => ?_⟩
      exact arbiterAfterStep_resumes uq (active a ha) hk d (by rw [arb]; exact hf)
    · rw [tArb, ← uNow]
      intro a ha hb
      have ends : v = rebuilt d u := by
        have plainActive := Perf.isClock_false_of_yields ((heldBack_iff s a).mp hb).2.1
        simp only [v]
        rw [arbiterAfterStep_eq, active a ha]
        simp [plainActive]
      rw [ends]
      have both (ho : a.origin ≠ none) := rebuilt_held uq uMarker (active a ha) (by rw [held]; exact hb) ho d
      exact ⟨fun late ho => (both ho).1 late, fun early ho => (both ho).2 early⟩
  · intro others becomes
    exact ⟨fun q hk hf => strikeEntryTaken_resumes ho hq hs hd hr hp hid hact hend hlast hk hf,
      fun w k hcls hm hf hw hsrc hsil =>
        strikeEntryTaken_starts ho hq hs hd h1 h2 hr hp hid hact hend hlast hcls hm hf hw hsrc hsil⟩

end Sys2Proof.Machine

namespace Sys2Proof.Machine

open Sys2Proof

/-! ## Receiving a frame (R167) -/

/-- The part with a link's receiver at a place of a frame whose last byte has come now. -/
def receiving (l : Link) (st : RxState) (kept : List Byte) (s : State) : State :=
  s.withReceiver l { state := st, kept := kept, lastByte := s.elapsed }

theorem receiving_receiver (l : Link) (st : RxState) (kept : List Byte) (s : State) :
    ((receiving l st kept s).link l).receiver = { state := st, kept := kept, lastByte := s.elapsed } := by
  simp [receiving, State.withReceiver]

theorem receiving_elapsed (l : Link) (st : RxState) (kept : List Byte) (s : State) :
    (receiving l st kept s).elapsed = s.elapsed := by simp [receiving]

theorem receiving_power (l : Link) (st : RxState) (kept : List Byte) (s : State) :
    (receiving l st kept s).power = s.power := by simp [receiving]

theorem withReceiver_withReceiver (s : State) (l : Link) (r r' : Receiver) :
    (s.withReceiver l r).withReceiver l r' = s.withReceiver l r' := by
  simp [State.withReceiver]

theorem withReceiver_receiving (l : Link) (st : RxState) (kept : List Byte) (s : State) (r : Receiver) :
    (receiving l st kept s).withReceiver l r = s.withReceiver l r := withReceiver_withReceiver s l _ r

theorem exec_receiveByte (l : Link) (b : Byte) {s : State} (ho : s.power.operating = true) :
    answered s (exec (.receiveByte l b) s) = receiveByte l b s := by
  have run : exec (.receiveByte l b) s = .next (whenOperating (receiveByte l b) s) := rfl
  rw [run, whenOperating_true _ _ ho]
  rfl

theorem takeBytes_nil (l : Link) (fuel : Nat) (s : State) : takeBytes l fuel [] s = s := by cases fuel <;> rfl

/-- One byte at a receiver, by what the receiver makes of it (R167). -/
theorem receiveByte_receiving (l : Link) (b : Byte) (st : RxState) (kept : List Byte) (s : State) :
    ∃ fuel, receiveByte l b (receiving l st kept s)
      = match Receiver.take { state := st, kept := kept, lastByte := s.elapsed } b with
        | .going r => s.withReceiver l r
        | .complete body => takeFrame l (body.headD 0).toNat ((body.drop 1).headD 0).toNat (body.drop 2) (receiving l .hunt [] s)
        | .discarded why kept => takeBytes l fuel (kept ++ []) (countError l why (receiving l .hunt [] s)) := by
  obtain ⟨fuel, hf⟩ : ∃ fuel, (kept.length + 2) * (kept.length + 2) = fuel + 1 := ⟨_, rfl⟩
  refine ⟨fuel, ?_⟩
  have receiver : ((s.withReceiver l { state := st, kept := kept, lastByte := s.elapsed }).link l).receiver
      = { state := st, kept := kept, lastByte := s.elapsed } := receiving_receiver l st kept s
  have hunts : toHunt l (s.withReceiver l { state := st, kept := kept, lastByte := s.elapsed }) = receiving l .hunt [] s := by
    simp only [toHunt, receiver, withReceiver_withReceiver]
    rfl
  simp only [receiveByte, receiving_receiver, receiving_elapsed, withReceiver_receiving, hf, takeBytes, receiver, hunts,
    withReceiver_withReceiver]
  cases Receiver.take { state := st, kept := kept, lastByte := s.elapsed } b with
  | going r => exact takeBytes_nil l fuel _
  | complete body => exact takeBytes_nil l fuel _
  | discarded why kept => rfl

/-- Of the receiver only its place and what it has kept decide what a byte does. -/
theorem receiveByte_eq_receiving (l : Link) (b : Byte) (s : State) : receiveByte l b s
    = receiveByte l b (receiving l (s.link l).receiver.state (s.link l).receiver.kept s) := by
  simp only [receiveByte, receiving_receiver, receiving_elapsed, withReceiver_receiving]

/-- A byte with which the frame goes on. -/
theorem receiveByte_of_going {l : Link} {b : Byte} {st st' : RxState} {kept kept' : List Byte} {s : State}
    (h : Receiver.take { state := st, kept := kept, lastByte := s.elapsed } b
      = .going { state := st', kept := kept', lastByte := s.elapsed }) :
    receiveByte l b (receiving l st kept s) = receiving l st' kept' s := by
  obtain ⟨fuel, hr⟩ := receiveByte_receiving l b st kept s
  rw [hr, h]
  rfl

/-- The bytes of a frame behind its length, up to the last before its CRC. -/
theorem after_body {l : Link} {n : Byte} {s : State} (ho : s.power.operating = true) {bs kept : List Byte} (hb : bs ≠ [])
    (hlen : kept.length + bs.length = n.toNat) :
    after (bs.map (.receiveByte l)) (receiving l .body (n :: kept) s) = receiving l .check (n :: kept ++ bs) s := by
  induction bs generalizing kept with
  | nil => exact absurd rfl hb
  | cons b bs ih =>
    have goes (st : RxState) (hst : (if kept.length + 1 = n.toNat then RxState.check else .body) = st) :
        answered (receiving l .body (n :: kept) s) (exec (.receiveByte l b) (receiving l .body (n :: kept) s))
          = receiving l st (n :: (kept ++ [b])) s := by
      rw [exec_receiveByte l b (by rw [receiving_power, ho])]
      refine receiveByte_of_going ?_
      simp [Receiver.take, Receiver.enter, ← hst]
    rw [List.map_cons, after, List.foldl_cons]
    rw [List.length_cons] at hlen
    cases bs with
    | nil =>
      rw [goes .check (if_pos (by simpa using hlen))]
      rfl
    | cons c bs =>
      rw [List.length_cons] at hlen
      rw [goes .body (if_neg (by omega))]
      have rest := ih (kept := kept ++ [b]) (by simp) (by simp; omega)
      rw [after] at rest
      rw [rest]
      simp

/-- The bytes of a complete frame, its CRC with them. -/
theorem judge_of_crc (body : List Byte) (n : Byte) (hlen : body.length = n.toNat) :
    judge (n :: body ++ maskBytes (crc16 (n :: body))) = .complete body := by
  have len : (n :: body).length = n.toNat + 1 := by simp [hlen]
  have front : (n :: body ++ maskBytes (crc16 (n :: body))).take (n.toNat + 1) = n :: body := List.take_left' len
  have behind : (n :: body ++ maskBytes (crc16 (n :: body))).drop (n.toNat + 1) = maskBytes (crc16 (n :: body)) :=
    List.drop_left' len
  have first : ((n :: body ++ maskBytes (crc16 (n :: body))).headD 0).toNat + 1 = n.toNat + 1 := rfl
  simp only [judge, first, front, behind, if_true]
  rfl

theorem byteOf_toNat {n : Nat} (h : n < 256) : (byteOf n).toNat = n := by
  simp [byteOf, Nat.mod_eq_of_lt h]

/-- The bytes of a frame, received in HUNT, are taken as that frame (R166, R167). -/
theorem after_frameBytes {l : Link} {kind tag : Nat} {payload : List Byte} {s : State} (ho : s.power.operating = true)
    (hh : (s.link l).receiver.state = .hunt) (hk : kind < 256) (ht : tag < 256) (hp : payload.length ≤ 248) :
    after ((frameBytes kind tag payload).map (.receiveByte l)) s = takeFrame l kind tag payload (receiving l .hunt [] s) := by
  let n := byteOf (payload.length + 2)
  let body := byteOf kind :: byteOf tag :: payload
  have hn : n.toNat = payload.length + 2 := byteOf_toNat (by omega)
  have start : answered s (exec (.receiveByte l 0x7E) s) = receiving l .length [] s := by
    rw [exec_receiveByte l _ ho, receiveByte_eq_receiving, hh]
    exact receiveByte_of_going rfl
  have length : answered (receiving l .length [] s) (exec (.receiveByte l n) (receiving l .length [] s))
      = receiving l .body [n] s := by
    rw [exec_receiveByte l _ (by rw [receiving_power, ho])]
    refine receiveByte_of_going ?_
    have fits : within 2 250 n.toNat = true := (within_iff _ _ _).mpr (by omega)
    simp [Receiver.take, Receiver.enter, fits]
  have bodyTaken := after_body (l := l) (n := n) (s := s) ho (bs := body) (kept := []) (by simp [body]) (by simp [body, hn])
  obtain ⟨hi, lo, crc⟩ : ∃ hi lo, maskBytes (crc16 (n :: body)) = [hi, lo] := ⟨_, _, rfl⟩
  have high : answered (receiving l .check (n :: body) s) (exec (.receiveByte l hi) (receiving l .check (n :: body) s))
      = receiving l .check (n :: body ++ [hi]) s := by
    rw [exec_receiveByte l _ (by rw [receiving_power, ho])]
    refine receiveByte_of_going ?_
    simp [Receiver.take, Receiver.enter, hn, body]
  have low : answered (receiving l .check (n :: body ++ [hi]) s)
      (exec (.receiveByte l lo) (receiving l .check (n :: body ++ [hi]) s))
        = takeFrame l kind tag payload (receiving l .hunt [] s) := by
    have judged : Receiver.take { state := .check, kept := n :: body ++ [hi], lastByte := s.elapsed } lo = .complete body := by
      rw [← judge_of_crc body n (by simp [body, hn]), crc]
      simp [Receiver.take, hn, body]
    obtain ⟨fuel, hr⟩ := receiveByte_receiving l lo .check (n :: body ++ [hi]) s
    rw [exec_receiveByte l _ (by rw [receiving_power, ho]), hr, judged]
    simp [body, byteOf_toNat hk, byteOf_toNat ht]
  have bytes : frameBytes kind tag payload = 0x7E :: n :: (body ++ [hi, lo]) := by
    rw [← crc]
    rfl
  rw [after] at bodyTaken
  rw [bytes, after]
  simp only [List.map_cons, List.map_append, List.foldl_cons, List.foldl_append, start, length, bodyTaken]
  simp only [List.map_nil, List.foldl_nil]
  exact (congrArg (fun u => answered u (exec (.receiveByte l lo) u)) high).trans low

end Sys2Proof.Machine

namespace Sys2Proof.Machine

open Sys2Proof

/-! ## What a payload may spell (R169) -/

/-- A payload of a kind spells a request of that kind and header, or is refused for its length or a byte of it. -/
inductive Spells (h : Header) (kind : Nat) : FrameMeaning → Prop
  | badLength : Spells h kind .badLength
  | badValue : Spells h kind .badValue
  | request {i : Instr} (hh : headerOf i = some h) (hk : kindCode i = some kind) : Spells h kind (.request i)

theorem Spells.of_request {h : Header} {kind : Nat} {i : Instr} (hs : Spells h kind (.request i)) :
    headerOf i = some h ∧ kindCode i = some kind := by
  cases hs with
  | request hh hk => exact ⟨hh, hk⟩

theorem Spells.ne_unknown {h : Header} {kind : Nat} {m : FrameMeaning} (hs : Spells h kind m) : m ≠ .unknown := by
  cases hs <;> exact FrameMeaning.noConfusion

theorem Spells.ite {h : Header} {kind : Nat} {m m' : FrameMeaning} {p : Prop} [Decidable p] (hm : Spells h kind m)
    (hm' : Spells h kind m') : Spells h kind (if p then m else m') := by
  split
  · exact hm
  · exact hm'

section Shapes

variable {h : Header} {kind : Nat}

theorem spells_noPayload {i : Instr} (hh : headerOf i = some h) (hk : kindCode i = some kind) (payload : List Byte) :
    Spells h kind (noPayload i payload) := .ite (.request hh hk) .badLength

theorem spells_oneByte {f : Nat → Instr} (hh : ∀ n, headerOf (f n) = some h) (hk : ∀ n, kindCode (f n) = some kind)
    (payload : List Byte) : Spells h kind (oneByte f payload) := by
  unfold oneByte
  split
  · exact .request (hh _) (hk _)
  · exact .badLength

theorem spells_twoBytes {f : Nat → Nat → Instr} (hh : ∀ a b, headerOf (f a b) = some h)
    (hk : ∀ a b, kindCode (f a b) = some kind) (payload : List Byte) : Spells h kind (twoBytes f payload) := by
  unfold twoBytes
  split
  · exact .request (hh _ _) (hk _ _)
  · exact .badLength

theorem spells_listOrAll (f : Config.OptionalField) {g : Option (List Nat) → Instr} (hh : ∀ x, headerOf (g x) = some h)
    (hk : ∀ x, kindCode (g x) = some kind) (payload : List Byte) : Spells h kind (listOrAll f g payload) := by
  unfold listOrAll
  split
  · exact .ite (.request (hh _) (hk _)) (.ite (.request (hh _) (hk _)) .badLength)
  · exact .badLength

theorem spells_startsOf {g : List (Nat × Nat) → Nat → Instr} (hh : ∀ es d, headerOf (g es d) = some h)
    (hk : ∀ es d, kindCode (g es d) = some kind) (payload : List Byte) : Spells h kind (startsOf g payload) := by
  unfold startsOf
  split
  · exact .ite (.request (hh _ _) (hk _ _)) .badLength
  · exact .badLength

/-- What the table of a kind may give is spelt by that kind. -/
def OfKind (h : Header) (kind : Nat) (x : Option FrameMeaning) : Prop := ∀ m, x = some m → Spells h kind m

theorem OfKind.none : OfKind h kind none := fun _ hm => nomatch hm

/-- A row of the table. -/
theorem OfKind.row {c : Nat} {m : FrameMeaning} {x : Option FrameMeaning} (hm : Spells h c m) (hx : OfKind h kind x) :
    OfKind h kind (if kind = c then some m else x) := by
  split
  · rename_i hc
    intro m' hm'
    cases hm'
    exact hc ▸ hm
  · exact hx

theorem OfKind.or {x y : Option FrameMeaning} (hx : OfKind h kind x) (hy : OfKind h kind y) : OfKind h kind (x.or y) := by
  intro m hm
  cases x with
  | none => exact hy m (by simpa using hm)
  | some m' => exact hx m (by simpa using hm)

end Shapes

section Tables

variable (h : Header) (kind : Nat) (payload : List Byte)

/-- The kinds that carry nothing, or the number of one thing. -/
theorem ofKind_plainOf : OfKind h kind (plainOf h kind payload) := by
  unfold plainOf
  repeat' refine OfKind.row ?_ ?_
  any_goals (refine spells_noPayload ?_ ?_ payload <;> rfl)
  any_goals (refine spells_oneByte ?_ ?_ payload <;> exact fun _ => rfl)
  exact .none

theorem spells_chimeOf : Spells h 0x37 (chimeOf h payload) := by
  unfold chimeOf
  refine .ite .badLength ?_
  split
  · exact .ite (.request rfl rfl) .badValue
  · exact .badLength

theorem spells_methodTail (k n : Nat) (bells : List Nat) : Spells h 0x58 (methodTail h k n bells payload) := by
  unfold methodTail
  split
  · exact .ite (.request rfl rfl) .badValue
  · exact .badValue

theorem spells_methodOf : Spells h 0x58 (methodOf h payload) := by
  unfold methodOf
  refine .ite .badLength ?_
  split
  · exact .ite (spells_methodTail h _ _ _ _) .badValue
  · exact .badLength

theorem spells_sceneWriteOf : Spells h 0x71 (sceneWriteOf h payload) := by
  unfold sceneWriteOf
  split
  · exact .ite (.request rfl rfl) (.ite .badLength .badValue)
  · exact .badLength

theorem spells_modeSetOf : Spells h 0x06 (modeSetOf h payload) := by
  unfold modeSetOf
  split
  · exact .ite (.request rfl rfl) (.ite (.request rfl rfl) .badValue)
  · exact .badLength

theorem spells_faultClearOf : Spells h 0x08 (faultClearOf h payload) := by
  unfold faultClearOf
  split
  · exact .ite (.request rfl rfl) (.ite (.request rfl rfl) (.ite (.request rfl rfl) .badValue))
  · exact .badLength

theorem spells_calendarOf : Spells h 0x16 (calendarOf h payload) := by
  unfold calendarOf
  split
  · exact .ite (.request rfl rfl) (.ite (.request rfl rfl) .badValue)
  · exact .badLength

/-- The kinds whose record the manual lays out; those of one fixed length give a request or are refused for it. -/
theorem ofKind_recordOf : OfKind h kind (recordOf h kind payload) := by
  unfold recordOf
  refine .row (spells_modeSetOf h payload) <| .row (spells_faultClearOf h payload) <| .row (spells_calendarOf h payload) <|
    .row ?_ <| .row ?_ <| .row (spells_chimeOf h payload) <| .row ?_ <| .row (spells_methodOf h payload) <| .row ?_ <|
    .row ?_ <| .row (spells_sceneWriteOf h payload) <| .row ?_ .none
  all_goals
    delta scoreWriteOf tuneOf hammerOf swingOf circuitOf scheduleOf
    split
    · exact .request rfl rfl
    · exact .badLength

theorem spells_noticeMaskOf : Spells h 0x04 (noticeMaskOf h payload) := by
  unfold noticeMaskOf
  split
  · split
    · exact .ite (.request rfl rfl) .badLength
    · exact .badLength
  · exact .badLength

theorem spells_programWriteOf : Spells h 0x63 (programWriteOf h payload) := by
  unfold programWriteOf
  split
  · exact spells_startsOf (fun _ _ => rfl) (fun _ _ => rfl) _
  · exact .badLength

/-- The kinds whose fields their rule gives without a table. -/
theorem ofKind_fieldsOf : OfKind h kind (fieldsOf h kind payload) := by
  unfold fieldsOf
  repeat' refine OfKind.row ?_ ?_
  any_goals (refine spells_twoBytes ?_ ?_ payload <;> exact fun _ _ => rfl)
  any_goals (refine spells_listOrAll _ ?_ ?_ payload <;> exact fun _ => rfl)
  any_goals (refine spells_startsOf ?_ ?_ payload <;> exact fun _ _ => rfl)
  any_goals
    delta timeSetOf zoneSetOf classWriteOf calendarReadOf timerStartOf dialConfigOf dialSetPositionOf scoreWindowOf
      scoreReadOf scoreProtectOf playTuneOf tollOf clockStrikeOf silenceOf allowanceSetOf sceneApplyOf lightModeOf
    split
    · exact .request rfl rfl
    · exact .badLength
  any_goals
    delta touchStartOf duskWriteOf
    split
    · exact .ite (.request rfl rfl) .badLength
    · exact .badLength
  · exact spells_noticeMaskOf h payload
  · exact .request rfl rfl
  · exact spells_programWriteOf h payload
  · exact .none

/-- Every kind that names a request has its row. -/
theorem rows_complete : requestKinds.all
    (fun k => ((plainOf h k payload).or ((recordOf h k payload).or (fieldsOf h k payload))).isSome) = true := by
  rfl

theorem decodeRequest_of_named (hn : namesRequest kind = true) : Spells h kind (decodeRequest h kind payload) := by
  have mem : kind ∈ requestKinds := by simpa [namesRequest] using hn
  obtain ⟨m, hm⟩ := Option.isSome_iff_exists.mp (List.all_eq_true.mp (rows_complete h payload) kind mem)
  have spelt : decodeRequest h kind payload = m := by
    rw [decodeRequest, hn, hm]
    rfl
  rw [spelt]
  exact (ofKind_plainOf h kind payload).or ((ofKind_recordOf h kind payload).or (ofKind_fieldsOf h kind payload)) m hm

theorem decodeRequest_of_unnamed (hn : namesRequest kind = false) : decodeRequest h kind payload = .unknown := by
  rw [decodeRequest, hn]
  rfl

theorem decodeRequest_unknown_iff : decodeRequest h kind payload = .unknown ↔ namesRequest kind = false := by
  refine ⟨fun hu => ?_, decodeRequest_of_unnamed h kind payload⟩
  by_contra hn
  exact (decodeRequest_of_named h kind payload (Bool.not_eq_false _ ▸ hn)).ne_unknown hu

theorem spells_of_request {i : Instr} (hd : decodeRequest h kind payload = .request i) :
    headerOf i = some h ∧ kindCode i = some kind := by
  cases hn : namesRequest kind with
  | true => exact (hd ▸ decodeRequest_of_named h kind payload hn).of_request
  | false => cases (decodeRequest_of_unnamed h kind payload hn).symm.trans hd

end Tables

/-! ## A frame reaches the part (R168, R169) -/

/-- The request of a frame runs as the command of its own. -/
theorem exec_of_header {i : Instr} {h : Header} (hh : headerOf i = some h) (s : State) : exec i s = .next (runRequest i s) := by
  cases i <;> cases hh <;> rfl

theorem closeStream_closeStream (l : Link) (s : State) : closeStream l (closeStream l s) = closeStream l s := by
  simp [closeStream]

/-- A frame that spells no request is answered, and the link's score stream is closed (R43, R169). -/
theorem answerFrame_taken {h : Header} {s : State} (ht : Taken h s) (kind : Nat) (answer : State → Answer) :
    answerFrame h kind answer s = replied h kind (answer (closed h s)).status (answer (closed h s)).body
      (answer (closed h s)).state := by
  have stream : closeStream h.link (if kind = 0x31 then s else closeStream h.link s) = closed h s := by
    split
    · rfl
    · exact closeStream_closeStream h.link s
  obtain ⟨operating, free⟩ := ht
  simp only [answerFrame, takeRequest, operating, free, Bool.not_true, Bool.false_eq_true, if_false, Option.isSome_none, stream]
  rfl

theorem takeFrame_of_unknown {l : Link} {kind tag : Nat} {payload : List Byte}
    (hd : decodeRequest { link := l, tag := tag } kind payload = .unknown) (s : State) : takeFrame l kind tag payload s
      = answerFrame { link := l, tag := tag } kind (dispatcherAnswer .unknownKind) s := by
  simp only [takeFrame, hd]

theorem takeFrame_of_badLength {l : Link} {kind tag : Nat} {payload : List Byte}
    (hd : decodeRequest { link := l, tag := tag } kind payload = .badLength) (s : State) : takeFrame l kind tag payload s
      = answerFrame { link := l, tag := tag } kind (dispatcherAnswer .badLength) s := by
  simp only [takeFrame, hd]

theorem takeFrame_of_badValue {l : Link} {kind tag : Nat} {payload : List Byte}
    (hd : decodeRequest { link := l, tag := tag } kind payload = .badValue) (s : State) : takeFrame l kind tag payload s
      = answerFrame { link := l, tag := tag } kind (badValueAnswer kind) s := by
  simp only [takeFrame, hd]

theorem takeFrame_of_request {l : Link} {kind tag : Nat} {payload : List Byte} {i : Instr}
    (hd : decodeRequest { link := l, tag := tag } kind payload = .request i) (s : State) :
    takeFrame l kind tag payload s = runRequest i s := by
  simp only [takeFrame, hd]

/-- Settles O9. A receiver in HUNT follows the frame to its CRC; what its payload spells is then a matter of the tables of
the kinds, each row of which gives a request of its own kind or a refusal. -/
theorem frameIsTakenWhole : Obligations.FrameIsTakenWhole := by
  unfold Obligations.FrameIsTakenWhole
  refine ⟨fun l kind tag payload s ho hh hk ht hp => after_frameBytes ho hh hk ht hp, fun l kind tag payload s => ?_⟩
  intro h
  refine ⟨fun i hd => ?_, decodeRequest_unknown_iff h kind payload, fun taken => ⟨fun hn => ?_, fun hd => ?_, fun hd => ?_⟩⟩
  · obtain ⟨header, code⟩ := spells_of_request h kind payload hd
    exact ⟨header, code, by rw [exec_of_header header, takeFrame_of_request hd]⟩
  · rw [takeFrame_of_unknown (decodeRequest_of_unnamed h kind payload hn), answerFrame_taken taken]
    rfl
  · rw [takeFrame_of_badLength hd, answerFrame_taken taken]
    rfl
  · obtain ⟨state, status, body⟩ := badValueAnswer_cases kind (closed h s)
    rw [takeFrame_of_badValue hd, answerFrame_taken taken, state, status, body, closed_calendar]

end Sys2Proof.Machine

/-! SUPPORT. The dial channels (02_clock_dials.md): what `Dial.settle` gives by the channel's flags and its decision, and
what the dial requests and events leave of one channel. -/

namespace Sys2Proof.Machine

open Sys2Proof

/-! ## One channel of the four -/

theorem setNth_setNth {α : Type} {n : Nat} (v : Vector α n) (i : Nat) (x y : α) : setNth (setNth v i x) i y = setNth v i y := by
  unfold setNth
  split
  · simp
  · rfl

@[simp] theorem withDial_withDial (s : State) (c : Nat) (x y : Dial) : (s.withDial c x).withDial c y = s.withDial c y := by
  simp [State.withDial, setNth_setNth]

@[simp] theorem closed_dial (h : Header) (s : State) (c : Nat) : (closed h s).dial c = s.dial c := by
  simp [State.dial, closed]

theorem settleDial_withDial {c : Nat} (hc : within 1 4 c = true) (s : State) (d : Dial) :
    settleDial c (s.withDial c d) = s.withDial c (d.settle s.time.validity s.time.instant s.elapsed) := by
  simp [settleDial, hc]

/-- A notice and the channel's own settling do not touch each other. -/
theorem settleDial_raise (c : Nat) (n : Detail) (s : State) : settleDial c (raise n s) = raise n (settleDial c s) := rfl

/-! ## The decision (R26 to R29) -/

theorem dialSteps_eq (k : DialKind) : dialSteps k = if k = .minute then 720 else 1440 := by cases k <;> rfl

theorem Polarity.flip_eq (p : Polarity) : p.flip = if p = .pos then .neg else .pos := by cases p <;> rfl

theorem DialPhase.toState_eq (p : DialPhase) :
    p.toState = if p = .running then .running else if p = .wait then .wait else .catchUp := by cases p <;> rfl

theorem Dial.decides_iff (d : Dial) (v : Validity) :
    d.decides v = true ↔ d.fault = false ∧ d.hold = false ∧ d.known = true ∧ v = .isSet := by
  simp [Dial.decides, and_assoc]

theorem Dial.settle_of_impulse {d : Dial} (h : d.impulse ≠ none) (v : Validity) (instant elapsed : Nat) :
    d.settle v instant elapsed = d := by
  simp [Dial.settle, Option.isSome_iff_ne_none.mpr h]

theorem Dial.settle_of_idle {d : Dial} {v : Validity} (h : d.impulse = none) (hd : ¬ d.decides v = true) (instant elapsed : Nat) :
    d.settle v instant elapsed = { d with due := false } := by
  simp [Dial.settle, h, hd]

theorem Dial.settle_of_decides {d : Dial} {v : Validity} (h : d.impulse = none) (hd : d.decides v = true)
    (instant elapsed : Nat) : d.settle v instant elapsed = d.decideNow instant elapsed := by
  simp [Dial.settle, h, hd]

/-- The four decisions of R28, by how far the position is ahead and behind. -/
theorem Dial.decision_cases (d : Dial) (t : Nat) :
    (d.ahead t = 0 → d.decision t = (.running, false))
      ∧ (1 ≤ d.ahead t → d.ahead t ≤ d.cfg.wait → d.decision t = (.wait, false))
      ∧ (d.cfg.wait < d.ahead t → d.behind t = 1 → d.decision t = (.running, true))
      ∧ (d.cfg.wait < d.ahead t → 1 < d.behind t → d.decision t = (.catchUp, true)) := by
  refine ⟨fun h => ?_, fun h h' => ?_, fun h h' => ?_, fun h h' => ?_⟩
  · simp [Dial.decision, h]
  · simp [Dial.decision, h', Nat.ne_of_gt h]
  · simp [Dial.decision, h', Nat.not_le.mpr h, Nat.ne_of_gt (Nat.zero_lt_of_lt h)]
  · simp [Dial.decision, Nat.ne_of_gt h', Nat.not_le.mpr h, Nat.ne_of_gt (Nat.zero_lt_of_lt h)]

/-- A decision that calls for no impulse. -/
theorem Dial.decideNow_of_rest {d : Dial} {p : DialPhase} {instant : Nat}
    (h : d.decision (dialTarget d.cfg.kind instant) = (p, false)) (elapsed : Nat) :
    d.decideNow instant elapsed = { d with phase := p, due := false, target := dialTarget d.cfg.kind instant } := by
  simp [Dial.decideNow, h, Dial.beginWhenDue]

/-- A decision that calls for an impulse: it begins at once where the gap has run (R29). -/
theorem Dial.decideNow_of_called {d : Dial} {p : DialPhase} {instant : Nat}
    (h : d.decision (dialTarget d.cfg.kind instant) = (p, true)) (elapsed : Nat) :
    d.decideNow instant elapsed
      = if d.lastEnd + d.cfg.gap ≤ elapsed then
          { d with
            phase := p, due := false, target := dialTarget d.cfg.kind instant
            impulse := some { polarity := d.polarity, ends := elapsed + d.cfg.impulse } }
        else { d with phase := p, due := true, target := dialTarget d.cfg.kind instant } := by
  simp [Dial.decideNow, h, Dial.beginWhenDue]

/-- R27's table. -/
theorem Dial.stateIn_cases (d : Dial) (v : Validity) :
    (d.fault = true → d.stateIn v = .fault)
      ∧ (d.fault = false → d.impulse ≠ none → d.stateIn v = d.phase.toState)
      ∧ (d.fault = false → d.impulse = none →
        (d.hold = true → d.stateIn v = .held)
          ∧ (d.hold = false → d.known = false → d.stateIn v = .unknown)
          ∧ (d.hold = false → d.known = true → v = .unset → d.stateIn v = .idle)
          ∧ (d.hold = false → d.known = true → v = .isSet → d.stateIn v = d.phase.toState)) := by
  refine ⟨fun hf => ?_, fun hf hi => ?_, fun hf hi => ⟨fun hh => ?_, fun hh hk => ?_, fun hh hk hv => ?_, fun hh hk hv => ?_⟩⟩
  · simp [Dial.stateIn, hf]
  · simp [Dial.stateIn, hf, Option.isSome_iff_ne_none.mpr hi]
  · simp [Dial.stateIn, hf, hi, hh]
  · simp [Dial.stateIn, hf, hi, hh, hk]
  · simp [Dial.stateIn, hf, hi, hh, hk, hv]
  · simp [Dial.stateIn, hf, hi, hh, hk, hv]

/-! ## The events of a channel (R26, R29 to R32) -/

section Events

variable {c : Nat} {s : State} (ho : s.power.operating = true) (hc : within 1 4 c = true)

include ho hc

theorem exec_dialTargetChange {t : Nat} (ht : t = dialTarget (s.dial c).cfg.kind s.time.instant) (hne : t ≠ (s.dial c).target) :
    exec (.dialTargetChange c) s = .next
      (s.withDial c (Dial.settle { s.dial c with target := t } s.time.validity s.time.instant s.elapsed)) := by
  subst ht
  have run : exec (.dialTargetChange c) s
      = .next (whenOperating (fun s => if dialTargetChangeDue s c then dialFollow c s else s) s) := rfl
  have due : dialTargetChangeDue s c = true := by simp [dialTargetChangeDue, dialTargetMoved, hc, hne]
  rw [run, whenOperating_true _ _ ho, if_pos due, dialFollow, if_neg hne, settleDial_withDial hc]

theorem exec_dialImpulseStart (hd : (s.dial c).due = true) (hi : (s.dial c).impulse = none)
    (hdec : (s.dial c).decides s.time.validity = true) (hg : (s.dial c).lastEnd + (s.dial c).cfg.gap ≤ s.elapsed) :
    exec (.dialImpulseStart c) s = .next (s.withDial c
      { s.dial c with
        due := false, impulse := some { polarity := (s.dial c).polarity, ends := s.elapsed + (s.dial c).cfg.impulse } }) := by
  have run : exec (.dialImpulseStart c) s = .next (whenOperating
      (fun s => if dialImpulseStartDue s c then s.withDial c ((s.dial c).beginWhenDue s.elapsed) else s) s) := rfl
  have due : dialImpulseStartDue s c = true := by simp [dialImpulseStartDue, hc, hd, hi, hdec, hg]
  rw [run, whenOperating_true _ _ ho, if_pos due]
  simp [Dial.beginWhenDue, hd, hg]

theorem exec_dialDriverFault :
    exec (.dialDriverFault c) s = .next (if (s.dial c).impulse.isSome then dialCut c s else s) := by
  have run : exec (.dialDriverFault c) s = .next (whenOperating
      (fun s => if within 1 4 c && (s.dial c).impulse.isSome then dialCut c s else s) s) := rfl
  rw [run, whenOperating_true _ _ ho, hc]
  rfl

theorem exec_dialImpulseEnd {i : Impulse} (hi : (s.dial c).impulse = some i) (he : i.ends ≤ s.elapsed) (datum : Bool) :
    exec (.dialImpulseEnd c datum) s = .next
      (settleDial c (datumCheck c datum (s.withDial c { (s.dial c).stepped s.elapsed with datumInput := datum }))) := by
  have run : exec (.dialImpulseEnd c datum) s = .next (whenOperating
      (fun s => if dialImpulseEndDue s c then dialImpulseComplete c datum s else s) s) := rfl
  have due : dialImpulseEndDue s c = true := by simp [dialImpulseEndDue, hc, hi, he]
  rw [run, whenOperating_true _ _ ho, if_pos due]
  rfl

end Events

/-- The datum check of R32, by what the input and the position say of each other. -/
theorem datumCheck_cases {c : Nat} (hc : within 1 4 c = true) (datum : Bool) (s : State) (d : Dial) :
    ((d.cfg.datum = false ∨ (datum = true ↔ d.pos = 0)) → datumCheck c datum (s.withDial c d) = s.withDial c d)
      ∧ (d.cfg.datum = true → datum = true → d.pos ≠ 0 → datumCheck c datum (s.withDial c d)
        = raise (.dialSlip c false (datumError d.cfg.kind d.pos) d.pos) (s.withDial c { d with pos := 0 }))
      ∧ (d.cfg.datum = true → datum = false → d.pos = 0 → datumCheck c datum (s.withDial c d)
        = raise (.dialSlip c true 0 0) (s.withDial c d)) := by
  refine ⟨?_, fun hd hi hp => ?_, fun hd hi hp => ?_⟩
  · rintro (hd | hd)
    · simp [datumCheck, hc, hd]
    · cases datum <;> simp_all [datumCheck]
  · simp [datumCheck, hc, hd, hi, hp]
  · simp [datumCheck, hc, hd, hi, hp]

/-- Settles O21: the decision by its four cases, R27's table, and what each event of a channel leaves of it. -/
theorem dialDecisionsAndImpulses : Obligations.DialDecisionsAndImpulses := by
  unfold Obligations.DialDecisionsAndImpulses
  refine ⟨⟨?decision, fun d v instant elapsed h => Dial.settle_of_impulse h v instant elapsed, fun instant => ⟨rfl, rfl⟩, ?states⟩,
    ?events, ?ends⟩
  case decision =>
    intro d v instant elapsed hi n t x
    refine ⟨fun h => ?_, fun hf hh hk hv _ => ?_⟩
    · refine Dial.settle_of_idle hi (fun hd => ?_) instant elapsed
      obtain ⟨hf, hh, hk, rfl⟩ := (d.decides_iff v).mp hd
      simp [hf, hh, hk] at h
    · intro ahead behind goes
      have hx : x = d.decideNow instant elapsed :=
        Dial.settle_of_decides hi ((d.decides_iff v).mpr ⟨hf, hh, hk, hv⟩) instant elapsed
      obtain ⟨onTime, within, one, more⟩ := d.decision_cases t
      refine ⟨fun h => ?_, fun h h' => ?_, fun h h' => ?_, fun h h' => ?_⟩
      · rw [hx, Dial.decideNow_of_rest (onTime h)]
      · rw [hx, Dial.decideNow_of_rest (within h h')]
      · rw [hx, Dial.decideNow_of_called (one h h')]
      · rw [hx, Dial.decideNow_of_called (more h h')]
  case states =>
    intro d v x last
    have hl : d.phase.toState = last := d.phase.toState_eq
    rw [← hl]
    exact d.stateIn_cases v
  case events =>
    intro c s ho h1 h4 d t
    have hc := (within_iff 1 4 c).mpr ⟨h1, h4⟩
    refine ⟨exec_dialTargetChange ho hc rfl, fun hd hi hf hh hk hv hg => ?_, fun hi => ?_, fun hi => ?_⟩
    · exact exec_dialImpulseStart ho hc hd hi ((d.decides_iff _).mpr ⟨hf, hh, hk, hv⟩) hg
    · rw [exec_dialDriverFault ho hc, if_pos (Option.isSome_iff_ne_none.mpr hi)]
      rfl
    · rw [exec_dialDriverFault ho hc, show (s.dial c).impulse = none from hi]
      rfl
  case ends =>
    intro c datum s i ho h1 h4 hi he d n pos d1 rests error
    have hc := (within_iff 1 4 c).mpr ⟨h1, h4⟩
    have stepped : { d.stepped s.elapsed with datumInput := datum } = d1 := by
      simp only [Dial.stepped, dialSteps_eq, Polarity.flip_eq]
      rfl
    have run := exec_dialImpulseEnd ho hc hi he datum
    rw [show s.dial c = d from rfl, stepped] at run
    obtain ⟨agrees, slips, missing⟩ := datumCheck_cases hc datum s d1
    refine ⟨fun h => ?_, fun hd hon hp => ?_, fun hd hoff hp => ?_⟩
    · rw [run, agrees h, settleDial_withDial hc]
    · rw [run, slips hd hon hp, settleDial_raise, settleDial_withDial hc, datumError, dialSteps_eq]
    · rw [run, missing hd hoff hp, settleDial_raise, settleDial_withDial hc]

end Sys2Proof.Machine

namespace Sys2Proof.Machine

open Sys2Proof

/-! ## The requests of a channel (R24, R33 to R37) -/

theorem answers_of_accept {i : Instr} {h : Header} {kind : Nat} {body : State → Answer} {s t : State} {b : Body} (ht : Taken h s)
    (hk : kind ≠ 0x31) (he : exec i s = .next (takeRequest h kind body s)) (ha : body (closed h s) = accept t b) :
    answers i h kind s .ok b t := answers_of_taken (accept t b) ht hk he ha

theorem answers_of_refuse {i : Instr} {h : Header} {kind : Nat} {body : State → Answer} {s : State} {st : Status} (ht : Taken h s)
    (hk : kind ≠ 0x31) (he : exec i s = .next (takeRequest h kind body s)) (ha : body (closed h s) = refuse (closed h s) st) :
    answers i h kind s st .none (closed h s) := answers_of_taken (refuse (closed h s) st) ht hk he ha

theorem dialKind?_toNat (half : Bool) : dialKind? half.toNat = some (if half then .half else .minute) := by cases half <;> rfl

theorem polarityOr_map_toNat (was : Polarity) (p : Option Bool) : polarityOr was (p.map Bool.toNat)
    = some (match p with | none => was | some b => if b then .neg else .pos) := by
  rcases p with _ | _ | _ <;> rfl

theorem clamp_zero (hi x : Nat) : clamp 0 hi x = min hi x := Nat.zero_max _

theorem dialSteps_half (half : Bool) : dialSteps (if half then .half else .minute) / 2 = if half then 720 else 360 := by
  cases half <;> rfl

section Requests

variable {h : Header} {s : State} {c : Nat} (ht : Taken h s) (hc : within 1 4 c = true)

include ht hc

/-- DIAL-CONFIG in a state in which decisions are taken (R24). -/
theorem answers_dialConfig_busy {half datum : Bool} {impulse gap wait : Nat}
    (hb : (s.dial c).stateIn s.time.validity ∈ [.running, .wait, .catchUp]) :
    answers (.dialConfig h c half.toNat impulse gap wait datum.toNat) h 0x20 s .busy .none (closed h s) := by
  refine answers_of_refuse ht (by decide) rfl ?_
  simp only [List.mem_cons, List.not_mem_nil, or_false] at hb
  rcases hb with hb | hb | hb <;> simp [dialConfigAnswer, dialKind?_toNat, hc, hb]

/-- DIAL-CONFIG in the other four states (R24). -/
theorem answers_dialConfig {half datum : Bool} {impulse gap wait : Nat} {k : DialKind} {cfg : Machine.DialConfig}
    (hk : k = if half then .half else .minute)
    (hcfg : cfg = { kind := k, impulse := clamp 100 2000 impulse, gap := clamp 100 2000 gap
                    wait := clamp 0 (dialSteps k / 2) wait, datum := datum })
    (hb : (s.dial c).stateIn s.time.validity ∈ [.held, .unknown, .idle, .fault]) :
    answers (.dialConfig h c half.toNat impulse gap wait datum.toNat) h 0x20 s .ok (.dialConfig cfg)
      ((closed h s).withDial c (if k = (s.dial c).cfg.kind then { s.dial c with cfg := cfg }
        else { s.dial c with cfg := cfg, pos := 0, known := false, target := dialTarget k s.time.instant })) := by
  subst hk hcfg
  refine answers_of_accept ht (by decide) rfl ?_
  simp only [List.mem_cons, List.not_mem_nil, or_false] at hb
  rcases hb with hb | hb | hb | hb <;> simp [dialConfigAnswer, dialKind?_toNat, hc, hb]

theorem answers_dialHold_of_still (hi : (s.dial c).impulse = none) :
    answers (.dialHold h c) h 0x21 s .ok .none ((closed h s).withDial c { s.dial c with hold := true, due := false }) := by
  refine answers_of_accept ht (by decide) rfl ?_
  simp [dialHoldAnswer, hc, hi]

theorem answers_dialHold_of_impulse (hi : (s.dial c).impulse ≠ none) :
    answers (.dialHold h c) h 0x21 s .ok .none
      ((closed h s).withDial c { s.dial c with hold := true, holdPending := true }) := by
  refine answers_of_accept ht (by decide) rfl ?_
  simp [dialHoldAnswer, hc, Option.isSome_iff_ne_none.mpr hi]

theorem answers_dialSetPosition_busy {position : Nat} {p : Option Bool}
    (hb : (s.dial c).stateIn s.time.validity ∈ [.running, .wait, .catchUp, .idle]) :
    answers (.dialSetPosition h c position (p.map Bool.toNat)) h 0x22 s .busy .none (closed h s) := by
  refine answers_of_refuse ht (by decide) rfl ?_
  simp only [List.mem_cons, List.not_mem_nil, or_false] at hb
  rcases hb with hb | hb | hb | hb <;> simp [dialSetPositionAnswer, polarityOr_map_toNat, hc, hb]

/-- DIAL-SET-POSITION in HELD, UNKNOWN and FAULT (R34). -/
theorem answers_dialSetPosition {position n : Nat} {p : Option Bool} {q : Polarity}
    (hq : polarityOr (s.dial c).polarity (p.map Bool.toNat) = some q)
    (hn : n = clamp 0 (dialSteps (s.dial c).cfg.kind - 1) position)
    (hb : (s.dial c).stateIn s.time.validity ∈ [.held, .unknown, .fault]) :
    answers (.dialSetPosition h c position (p.map Bool.toNat)) h 0x22 s .ok (.dialPosition n q)
      ((closed h s).withDial c (Dial.settle { s.dial c with pos := n, polarity := q, known := true }
        s.time.validity s.time.instant s.elapsed)) := by
  subst hn
  refine answers_of_accept ht (by decide) rfl ?_
  simp only [List.mem_cons, List.not_mem_nil, or_false] at hb
  rcases hb with hb | hb | hb <;> simp [dialSetPositionAnswer, hq, hc, hb, settleDial_withDial hc]

theorem answers_dialRelease (hh : (s.dial c).hold = true) :
    answers (.dialRelease h c) h 0x23 s .ok .none ((closed h s).withDial c
      (Dial.settle { s.dial c with hold := false, holdPending := false } s.time.validity s.time.instant s.elapsed)) := by
  refine answers_of_accept ht (by decide) rfl ?_
  simp [dialReleaseAnswer, hc, hh, settleDial_withDial hc]

theorem answers_dialRelease_of_free (hh : (s.dial c).hold = false) :
    answers (.dialRelease h c) h 0x23 s .ok .none (closed h s) := by
  refine answers_of_accept ht (by decide) rfl ?_
  simp [dialReleaseAnswer, hc, hh]

theorem answers_dialRead {d : Dial} (hd : s.dial c = d) :
    answers (.dialRead h c) h 0x24 s .ok
      (.dial d.cfg d.pos d.polarity (dialTarget d.cfg.kind s.time.instant) (d.stateIn s.time.validity) d.known d.hold
        d.holdPending (d.impulse.map (fun i => (i.polarity, i.ends - s.elapsed))))
      (closed h s) := by
  subst hd
  refine answers_of_accept ht (by decide) rfl ?_
  simp [dialReadAnswer, hc]

end Requests

/-- Settles O22, request by request: what each answers in the states that take it and in those that refuse it. -/
theorem dialConfigAndRequests : Obligations.DialConfigAndRequests := by
  unfold Obligations.DialConfigAndRequests
  refine ⟨?config, ?requests⟩
  case config =>
    intro h c impulse gap wait half datum s ht h1 h4 k d cfg i
    have hc := (within_iff 1 4 c).mpr ⟨h1, h4⟩
    have hcfg : cfg = { kind := k, impulse := clamp 100 2000 impulse, gap := clamp 100 2000 gap
                        wait := clamp 0 (dialSteps k / 2) wait, datum := datum } := by
      rw [clamp_zero, dialSteps_half]
      rfl
    refine ⟨fun hb => answers_dialConfig_busy ht hc hb, fun hb hk => ?_, fun hb hk => ?_⟩
    · have ans := answers_dialConfig ht hc rfl hcfg hb
      rwa [if_pos hk.symm] at ans
    · have ans := answers_dialConfig ht hc rfl hcfg hb
      rwa [if_neg (Ne.symm hk)] at ans
  case requests =>
    intro h c s ht h1 h4 d sets settled
    have hc := (within_iff 1 4 c).mpr ⟨h1, h4⟩
    refine ⟨fun hi => answers_dialHold_of_still ht hc hi, fun hi => answers_dialHold_of_impulse ht hc hi,
      fun position p => ⟨fun hb => answers_dialSetPosition_busy ht hc hb, fun hb => ?_⟩,
      fun hh => answers_dialRelease ht hc hh, fun hh => answers_dialRelease_of_free ht hc hh, answers_dialRead ht hc rfl⟩
    exact answers_dialSetPosition ht hc (polarityOr_map_toNat d.polarity p) (by rw [clamp_zero, dialSteps_eq]) hb

end Sys2Proof.Machine

/-! SUPPORT. FAULT-CLEAR (R36, R97, R130): what the hammer's handshake and the entry to SETTLING leave of the channels they
do not name. -/

namespace Sys2Proof.Machine

open Sys2Proof

/-! ## What the arbiter leaves of the channels -/

/-- What the arbiter and the strike queue do without an actuation touches no channel, no light and no load. -/
structure OnlyArbiter (s t : State) : Prop where
  same : t = { s with
    time := t.time, chimes := t.chimes, arbiter := t.arbiter, strikes := t.strikes, touch := t.touch, details := t.details
    panel := t.panel, chamber := t.chamber }

theorem OnlyArbiter.refl (s : State) : OnlyArbiter s s := ⟨rfl⟩

theorem OnlyArbiter.trans {s t u : State} (h : OnlyArbiter s t) (h' : OnlyArbiter t u) : OnlyArbiter s u :=
  ⟨h'.same.trans (by rw [h.same])⟩

theorem OnlyArbiter.foldl {α : Type} {f : State → α → State} (hf : ∀ s x, OnlyArbiter s (f s x)) (xs : List α) (s : State) :
    OnlyArbiter s (xs.foldl f s) := foldl_rel OnlyArbiter.refl OnlyArbiter.trans hf xs s

theorem OnlyArbiter.ite {s t u : State} {p : Prop} [Decidable p] (ht : OnlyArbiter s t) (hu : OnlyArbiter s u) :
    OnlyArbiter s (if p then t else u) := by
  split
  · exact ht
  · exact hu

theorem Offers.onlyArbiter {s t : State} (h : Offers s t) : OnlyArbiter s t := by
  constructor
  rw [h.same]

theorem OnlyArbiter.raise (d : Detail) (s : State) : OnlyArbiter s (raise d s) := ⟨rfl⟩

theorem OnlyArbiter.endPerf (p : Perf) (how : How) (s : State) : OnlyArbiter s (endPerf p how s) := by
  unfold Machine.endPerf
  exact (((OnlyArbiter.ite ⟨rfl⟩ (.refl s)).trans (Offers.endTouch p _ _ _).onlyArbiter).trans (.raise _ _)).trans
    (Offers.dropPerf p.id _).onlyArbiter

theorem OnlyArbiter.checkEnd (s : State) (id : Nat) : OnlyArbiter s (checkEnd s id) := by
  unfold Machine.checkEnd
  split
  · refine .ite ?_ (.refl s)
    exact .ite ((OnlyArbiter.endPerf _ _ s).trans (Offers.offerHammers _ _).onlyArbiter) (.endPerf _ _ s)
  · exact .refl s

theorem OnlyArbiter.dropEntry (reason : DropReason) (s : State) (e : Entry) : OnlyArbiter s (dropEntry reason s e) :=
  (Offers.updatePerf e.id _ s).onlyArbiter.trans (.raise _ _)

theorem OnlyArbiter.dropEntriesFor (b : Nat) (reason : DropReason) (s : State) : OnlyArbiter s (dropEntriesFor b reason s) := by
  have removed : OnlyArbiter s { s with strikes := s.strikes.filter (·.bell != b) } := ⟨rfl⟩
  exact (removed.trans (.foldl (OnlyArbiter.dropEntry reason) _ _)).trans (.foldl OnlyArbiter.checkEnd _ _)

theorem OnlyArbiter.hammer {s t : State} (h : OnlyArbiter s t) (b : Nat) : t.hammer b = s.hammer b := by
  rw [h.same]
  rfl

/-! ## A withdraw request (R94) -/

@[simp] theorem withHammer_withHammer (s : State) (b : Nat) (x y : Hammer) :
    (s.withHammer b x).withHammer b y = s.withHammer b y := by
  simp [State.withHammer, setNth_setNth]

@[simp] theorem withSwing_withSwing (s : State) (c : Nat) (x y : Swing) : (s.withSwing c x).withSwing c y = s.withSwing c y := by
  simp [State.withSwing, setNth_setNth]

@[simp] theorem withHammer_swing (s : State) (b : Nat) (x : Hammer) (c : Nat) : (s.withHammer b x).swing c = s.swing c := rfl

@[simp] theorem withSwing_hammer (s : State) (c : Nat) (x : Swing) (b : Nat) : (s.withSwing c x).hammer b = s.hammer b := rfl

/-- A request to the hammer of bell `b` leaves that hammer on its way out or out, every other as it was, and touches
neither the swing channels nor the loads. -/
structure Withdraws (b : Nat) (s t : State) : Prop where
  state : (t.hammer b).state ∈ [HammerState.withdrawing, .withdrawn]
  others : ∀ b', b' ≠ b → t.hammer b' = s.hammer b'
  swings : t.swings = s.swings
  lights : t.lights = s.lights
  allowance : t.allowance = s.allowance

theorem Withdraws.after_onlyArbiter {b : Nat} {s t u : State} (h : OnlyArbiter s t) (h' : Withdraws b t u) : Withdraws b s u where
  state := h'.state
  others b' hb := (h'.others b' hb).trans (h.hammer b')
  swings := h'.swings.trans (by rw [h.same])
  lights := h'.lights.trans (by rw [h.same])
  allowance := h'.allowance.trans (by rw [h.same])

theorem Withdraws.then_onlyArbiter {b : Nat} {s t u : State} (h : Withdraws b s t) (h' : OnlyArbiter t u) : Withdraws b s u where
  state := by rw [h'.hammer]; exact h.state
  others b' hb := (h'.hammer b').trans (h.others b' hb)
  swings := by rw [h'.same]; exact h.swings
  lights := by rw [h'.same]; exact h.lights
  allowance := by rw [h'.same]; exact h.allowance

section WithdrawRequest

variable {b : Nat} (hb : within 1 24 b = true)

include hb

theorem Withdraws.withHammer {x : Hammer} (hx : x.state ∈ [HammerState.withdrawing, .withdrawn]) (s : State) :
    Withdraws b s (s.withHammer b x) where
  state := by rw [hammer_withHammer_self _ _ _ hb]; exact hx
  others b' hne := hammer_withHammer_ne s b b' x (Ne.symm hne)
  swings := rfl
  lights := rfl
  allowance := rfl

theorem Withdraws.assertWithdraw (s : State) : Withdraws b s (assertWithdraw b s).1 := by
  unfold Machine.assertWithdraw
  dsimp only
  split
  · exact .withHammer hb (by simp) s
  · exact .withHammer hb (by simp) s

/-- Asserting the output after a change of this hammer and the drop of its entries. -/
theorem Withdraws.assertWithdraw_dropped (x : Hammer) (s : State) :
    Withdraws b s (Machine.assertWithdraw b (dropEntriesFor b .withdrawn (s.withHammer b x))).1 := by
  have h := Withdraws.after_onlyArbiter (OnlyArbiter.dropEntriesFor b .withdrawn (s.withHammer b x)) (.assertWithdraw hb _)
  exact { h with others := fun b' hne => (h.others b' hne).trans (hammer_withHammer_ne s b b' x (Ne.symm hne)) }

theorem Withdraws.withdrawRequest (s : State) : Withdraws b s (withdrawRequest b s).1 := by
  have dropped {x : Hammer} (hx : x.state ∈ [HammerState.withdrawing, .withdrawn]) :
      Withdraws b s (dropEntriesFor b .withdrawn (s.withHammer b x)) :=
    (Withdraws.withHammer hb hx s).then_onlyArbiter (.dropEntriesFor b _ _)
  have stays (hx : (s.hammer b).state ∈ [HammerState.withdrawing, .withdrawn]) : Withdraws b s s :=
    ⟨hx, fun _ _ => rfl, rfl, rfl, rfl⟩
  unfold Machine.withdrawRequest
  dsimp only
  split
  · exact dropped (by simp)
  · split
    case h_1 | h_2 | h_3 | h_4 => exact .assertWithdraw_dropped hb _ s
    case h_5 => exact dropped (by simp)
    case h_6 => exact .assertWithdraw hb s
    case h_7 hst =>
      split
      · exact .assertWithdraw hb s
      · exact stays (by simp [hst])
    case h_8 hst => exact stays (by simp [hst])

end WithdrawRequest

/-! ## Loads that a change of one channel leaves (R140, R145) -/

theorem toList_map_setNth {α β : Type} {n : Nat} [Inhabited α] (v : Vector α n) (i : Nat) (x : α) (f : α → β)
    (h : f x = f (nth v i)) : (setNth v i x).toList.map f = v.toList.map f := by
  rw [toList_eq_map_nth, toList_eq_map_nth, List.map_map, List.map_map]
  refine List.map_congr_left fun j hj => ?_
  by_cases hij : i = j
  · subst hij
    simpa [nth_setNth_self v i x ((within_iff 1 n i).mpr ((mem_numbers 1 n i).mp hj))] using h
  · simp [nth_setNth_ne v i j x hij]

/-- The state of a channel in which it has a raise pending (R145). -/
def Swing.raises (x : Swing) : Bool := x.state == .clearing || x.state == .raising

theorem raisePending_eq (s : State) :
    raisePending s = (!s.allowance.queue.isEmpty || (s.swings.toList.map Swing.raises).any id) := by
  rw [List.any_map]
  rfl

/-- A watched change of one channel that leaves its share and its part in the pending raises starts no release. -/
theorem watchLoad_of_same_share {f : State → State} {s : State} {c : Nat} {x : Swing}
    (hs : (f s).swings = setNth s.swings c x) (hl : (f s).lights = s.lights) (ha : (f s).allowance = s.allowance)
    (share : x.share = (s.swing c).share) (raises : x.raises = (s.swing c).raises) : watchLoad f s = f s := by
  have load : commitment (f s) = commitment s := by
    rw [commitment, commitment, hs, hl, toList_map_setNth _ _ _ _ share]
  have pending : raisePending (f s) = raisePending s := by
    rw [raisePending_eq, raisePending_eq, hs, ha, toList_map_setNth _ _ _ _ raises]
  simp [watchLoad, load, pending]

/-- The channel as it enters SETTLING (R128). -/
def Swing.settlingFrom (x : Swing) (elapsed : Nat) : Swing :=
  { x.still with state := .settling, settleEnds := some (elapsed + x.cfg.settle * 1000) }

/-- A channel in FAULT enters SETTLING with a withdraw request, and neither state bears load (R130, R140). -/
theorem enterSettling_of_fault {c : Nat} {s : State} (hf : (s.swing c).state = .fault)
    (hb : within 1 24 (s.swing c).cfg.bell = true) :
    Withdraws (s.swing c).cfg.bell (s.withSwing c ((s.swing c).settlingFrom s.elapsed)) (enterSettling c true s) := by
  have w := Withdraws.withdrawRequest hb (s.withSwing c ((s.swing c).settlingFrom s.elapsed))
  have entered : enterSettling c true s
      = (withdrawRequest (s.swing c).cfg.bell (s.withSwing c ((s.swing c).settlingFrom s.elapsed))).1 := by
    refine watchLoad_of_same_share w.swings w.lights w.allowance ?_ ?_
    · simp [Swing.settlingFrom, Swing.share, hf]
    · rw [Swing.raises, Swing.raises, hf]
      rfl
  rw [entered]
  exact w

/-! ## FAULT-CLEAR of a hammer (R97) -/

@[simp] theorem closed_hammer (h : Header) (s : State) (b : Nat) : (closed h s).hammer b = s.hammer b := by
  simp [State.hammer, closed]

@[simp] theorem closed_swing (h : Header) (s : State) (c : Nat) : (closed h s).swing c = s.swing c := by
  simp [State.swing, closed]

@[simp] theorem closed_maintenance (h : Header) (s : State) : (closed h s).maintenance = s.maintenance := closeStream_maintenance _ _
@[simp] theorem closed_lights (h : Header) (s : State) : (closed h s).lights = s.lights := closeStream_lights _ _
@[simp] theorem closed_allowance (h : Header) (s : State) : (closed h s).allowance = s.allowance := closeStream_allowance _ _

/-- The bell's channel is on its way: it holds the hammer (R97). -/
theorem heldBySwing_iff (s : State) (b : Nat) :
    heldBySwing s b = true ↔ ∃ c, tiedChannel s b = some c ∧ (s.swing c).state ≠ .down ∧ (s.swing c).state ≠ .queued := by
  unfold heldBySwing
  split
  · rename_i c hc
    simp [hc]
  · rename_i hn
    simp [hn]

theorem heldBySwing_closed (h : Header) (s : State) (b : Nat) : heldBySwing (closed h s) b = heldBySwing s b := by
  simp [heldBySwing, tiedChannel]

/-- An engagement of a fitted hammer whose confirm input is asserted waits for it to clear (R96). -/
theorem beginEngage_of_confirm {b : Nat} {s : State} (hf : (s.hammer b).fitted = true) (hc : (s.hammer b).confirm = true) :
    (beginEngage b s).1 = s.withHammer b
      { s.hammer b with
        state := .engaging, withdrawOutput := false, faultCause := none, watch := some (s.elapsed + 2000) } := by
  simp [beginEngage, hf, hc, Config.hammerWatch]

/-- An engagement with the confirm input clear, or of a hammer that is not fitted, completes at once (R96). -/
theorem beginEngage_of_clear {b : Nat} {s : State} (hb : within 1 24 b = true)
    (h : (s.hammer b).fitted = false ∨ (s.hammer b).confirm = false) :
    (beginEngage b s).1 = s.withHammer b
      { s.hammer b with
        state := if (s.hammer b).actuatorFault then .fault else restState s, withdrawOutput := false
        faultCause := if (s.hammer b).actuatorFault then some .actuator else none, watch := none } := by
  have atOnce : (!(s.hammer b).fitted || !(s.hammer b).confirm) = true := by simpa using h
  cases ha : (s.hammer b).actuatorFault <;> simp [beginEngage, atOnce, completeEngage, hb, restState, ha]

section FaultClearHammer

variable {h : Header} {b : Nat} {s : State} (ht : Taken h s) (hb : within 1 24 b = true)

include ht hb

theorem answers_faultClearHammer_of_held (hf : (s.hammer b).state = .fault) (hh : heldBySwing s b = true) :
    answers (.faultClearHammer h b) h 0x08 s .busy .none (closed h s) := by
  refine answers_of_refuse ht (by decide) rfl ?_
  simp [faultClearHammerAnswer, hb, hf, heldBySwing_closed, hh]

/-- A hammer in FAULT that no swing channel holds is engaged with its actuator-fault flag clear (R97). -/
theorem answers_faultClearHammer_of_free (hf : (s.hammer b).state = .fault) (hh : heldBySwing s b = false) :
    answers (.faultClearHammer h b) h 0x08 s .ok (.wasSet true)
      (beginEngage b ((closed h s).withHammer b { s.hammer b with actuatorFault := false })).1 := by
  refine answers_of_accept ht (by decide) rfl ?_
  simp [faultClearHammerAnswer, hb, hf, heldBySwing_closed, hh]

theorem answers_faultClearHammer_of_out (hx : (s.hammer b).state ∈ [.withdrawing, .withdrawn, .engaging]) :
    answers (.faultClearHammer h b) h 0x08 s .ok (.wasSet (s.hammer b).actuatorFault)
      ((closed h s).withHammer b { s.hammer b with actuatorFault := false }) := by
  refine answers_of_accept ht (by decide) rfl ?_
  simp only [List.mem_cons, List.not_mem_nil, or_false] at hx
  rcases hx with hx | hx | hx <;> simp [faultClearHammerAnswer, hb, hx]

theorem answers_faultClearHammer_of_in (hx : (s.hammer b).state ∈ [.ready, .striking, .recovering, .inhibited]) :
    answers (.faultClearHammer h b) h 0x08 s .ok (.wasSet false) (closed h s) := by
  refine answers_of_accept ht (by decide) rfl ?_
  simp only [List.mem_cons, List.not_mem_nil, or_false] at hx
  rcases hx with hx | hx | hx | hx <;> simp [faultClearHammerAnswer, hb, hx]

end FaultClearHammer

/-! ## FAULT-CLEAR of a dial and of a swing channel (R36, R130) -/

section FaultClear

variable {h : Header} {c : Nat} {s : State} (ht : Taken h s)

include ht

theorem answers_faultClearDial (hc : within 1 4 c = true) (hf : (s.dial c).fault = true) :
    answers (.faultClearDial h c) h 0x08 s .ok (.wasSet true) ((closed h s).withDial c
      (Dial.settle { s.dial c with fault := false } s.time.validity s.time.instant s.elapsed)) := by
  refine answers_of_accept ht (by decide) rfl ?_
  simp [faultClearDialAnswer, hc, hf, settleDial_withDial hc]

theorem answers_faultClearDial_of_clear (hc : within 1 4 c = true) (hf : (s.dial c).fault = false) :
    answers (.faultClearDial h c) h 0x08 s .ok (.wasSet false) (closed h s) := by
  refine answers_of_accept ht (by decide) rfl ?_
  simp [faultClearDialAnswer, hc, hf]

theorem answers_faultClearSwing_of_clear (hc : within 1 12 c = true) (hf : (s.swing c).state ≠ .fault) :
    answers (.faultClearSwing h c) h 0x08 s .ok (.wasSet false) (closed h s) := by
  refine answers_of_accept ht (by decide) rfl ?_
  simp [faultClearSwingAnswer, hc, hf]

/-- The causes that FAULT-CLEAR records of a channel in FAULT (R130). -/
def Swing.faultCleared (x : Swing) : Swing := { x with cause := .none, wayDown := .faultClear }

/-- A channel in FAULT: the entry to SETTLING frees no load, so nothing is left to settle in the allowance (R130, R147). -/
theorem answers_faultClearSwing (hc : within 1 12 c = true) (hf : (s.swing c).state = .fault) (hdue : nothingDue s)
    (hb : within 1 24 (s.swing c).cfg.bell = true) :
    ∃ t, answers (.faultClearSwing h c) h 0x08 s .ok (.wasSet true) t
      ∧ Withdraws (s.swing c).cfg.bell ((closed h s).withSwing c
          ((s.swing c).faultCleared.settlingFrom s.elapsed)) t := by
  obtain ⟨headDue, releaseDue⟩ := hdue
  have ans : faultClearSwingAnswer c (closed h s)
      = accept (settleLoad (enterSettling c true ((closed h s).withSwing c (s.swing c).faultCleared))) (.wasSet true) := by
    simp [faultClearSwingAnswer, hc, hf, Swing.faultCleared]
  have w := enterSettling_of_fault (c := c) (s := (closed h s).withSwing c (s.swing c).faultCleared)
    (by simpa [hc, Swing.faultCleared] using hf) (by simpa [hc, Swing.faultCleared] using hb)
  simp only [swing_withSwing_self _ _ _ hc, withSwing_withSwing, withSwing_elapsed, closed_elapsed] at w
  rw [settleLoad_idle _ (by simpa [w.allowance] using headDue) (by simpa [w.allowance] using releaseDue)] at ans
  exact ⟨_, answers_of_accept ht (by decide) rfl ans, w⟩

end FaultClear

/-- Settles O41, block by block. For a swing channel the withdraw request may end performances of the hammer it takes away,
which touches no channel but that hammer. -/
theorem faultClearEffects : Obligations.FaultClearEffects := by
  unfold Obligations.FaultClearEffects
  intro h n s ht hdue
  refine ⟨?dial, ?hammer, ?swing⟩
  case dial =>
    intro h1 h4 d
    have hn := (within_iff 1 4 n).mpr ⟨h1, h4⟩
    exact ⟨answers_faultClearDial ht hn, answers_faultClearDial_of_clear ht hn⟩
  case hammer =>
    intro h1 h24 x i held
    have hn := (within_iff 1 24 n).mpr ⟨h1, h24⟩
    have held_iff : heldBySwing s n = true ↔ held := heldBySwing_iff s n
    have free (hh : ¬held) : heldBySwing s n = false := by rwa [← held_iff, Bool.not_eq_true] at hh
    refine ⟨fun hf hh => ?_, fun hf hh hfit hc => ?_, fun hf hh hc => ?_, answers_faultClearHammer_of_out ht hn,
      answers_faultClearHammer_of_in ht hn⟩
    · exact answers_faultClearHammer_of_held ht hn hf (held_iff.mpr hh)
    · have ans := answers_faultClearHammer_of_free ht hn hf (free hh)
      rw [beginEngage_of_confirm (by simpa [hn] using hfit) (by simpa [hn] using hc)] at ans
      simpa [hn] using ans
    · have ans := answers_faultClearHammer_of_free ht hn hf (free hh)
      rw [beginEngage_of_clear hn (by simpa [hn] using hc)] at ans
      simpa [hn, restState] using ans
  case swing =>
    intro hn x
    have hc := (within_iff 1 12 n).mpr ((mem_numbers 1 12 n).mp hn)
    refine ⟨fun hf => answers_faultClearSwing_of_clear ht hc hf, fun hf ties => ?_⟩
    obtain ⟨bells, -⟩ := ties
    obtain ⟨t, ans, w⟩ := answers_faultClearSwing ht hc hf hdue (bells n hn)
    have swings (c : Nat) : t.swing c = _ := congrArg (nth · c) w.swings
    refine ⟨t, ans, ?_, fun c _ hne => ?_, w.state, fun b _ hne => ?_, ?_⟩
    · rw [swings]
      exact swing_withSwing_self _ _ _ hc
    · rw [swings]
      exact (swing_withSwing_ne _ _ _ _ (Ne.symm hne)).trans (closed_swing h s c)
    · rw [w.others b hne, withSwing_hammer, closed_hammer]
    · rw [w.lights, withSwing_lights, closed_lights]

end Sys2Proof.Machine

/-! SUPPORT. Entry to MAINTENANCE (R80) in a state that the statement's hypotheses admit and R60 does not: two performances
of the queue have one id. -/

namespace Sys2Proof.Machine

open Sys2Proof

/-- A state in operation whose queue holds an ACTIVE toll and a WAITING clock event, both with id 1. -/
def oneIdTwice : State :=
  State.reset.withQueue
    [{ waitingPerf 1 (.toll 20 1 1000 1 false) 2000 0 with state := .active },
      waitingPerf 1 (.clock 1 none (some { bell := 24, strength := 3, count := 1, interval := 2500, first := 2000 })) 2000 0]

theorem oneIdTwice_taken (h : Header) : Taken h oneIdTwice := by
  refine ⟨rfl, ?_⟩
  cases h.link <;> rfl

theorem oneIdTwice_tiesOk : tiesOk oneIdTwice := by
  unfold tiesOk
  decide

theorem oneIdTwice_raiseQueueOk : raiseQueueOk oneIdTwice := by
  have none_queued : ∀ c ∈ numbers 1 12, (oneIdTwice.swing c).state ≠ .queued := by decide
  exact ⟨List.nodup_nil, fun c => ⟨fun hc => absurd hc List.not_mem_nil, fun ⟨hc, hq⟩ => absurd hq (none_queued c hc)⟩⟩

theorem replied_details (h : Header) (kind : Nat) (st : Status) (b : Body) (s : State) :
    (replied h kind st b s).details = s.details := by
  unfold replied
  cases h.link <;> rfl

/-- A request's answer leaves one state, as far as the detail records go. -/
theorem answers_details {i : Instr} {h : Header} {kind : Nat} {s t u : State} {st st' : Status} {b b' : Body}
    (ht : answers i h kind s st b t) (hu : answers i h kind s st' b' u) : t.details = u.details := by
  have same : replied h kind st b t = replied h kind st' b' u := by
    have both := ht.symm.trans hu
    injection both
  rw [← replied_details h kind st b t, same, replied_details]

theorem answers_modeSetMaintenance {h : Header} {s : State} (ht : Taken h s) (hm : s.maintenance = false) :
    answers (.modeSetMaintenance h) h 0x06 s .ok .none (enterMaintenance (closed h s)) := by
  refine answers_of_accept ht (by decide) rfl ?_
  simp [modeMaintenanceAnswer, hm]

/-- Refutes O12: nothing in its hypotheses keeps two performances of the queue from having one id, as `queueOk` would
(R60). In `oneIdTwice` the clock event leaves with the ACTIVE toll and is not omitted: no PERFORMANCE-OMITTED is raised for
it, although it was WAITING. -/
theorem not_maintenanceAndOutOfOperation : ¬ Obligations.MaintenanceAndOutOfOperation := by
  unfold Obligations.MaintenanceAndOutOfOperation
  rintro ⟨entry, -⟩
  have taken := oneIdTwice_taken { link := .panel, tag := 0 }
  obtain ⟨t, ans, -, -, -, -, -, -, -, -, -, -, -, -, omits, -⟩ :=
    entry _ oneIdTwice taken rfl oneIdTwice_tiesOk oneIdTwice_raiseQueueOk ⟨rfl, rfl⟩
  have silent : nth t.details 8 = none := by
    rw [answers_details ans (answers_modeSetMaintenance taken rfl)]
    rfl
  obtain ⟨p, -, -, record⟩ := omits ⟨_, .tail _ (.head _), rfl⟩
  rw [silent] at record
  cases record

end Sys2Proof.Machine

/-! SUPPORT. The performance queue as R60 and R61 have it: what joining, changing and leaving do to its order, and the operations of
the arbiter that keep it. -/

namespace Sys2Proof.Machine

open Sys2Proof

/-! ## The order of the queue (R61) -/

theorem Perf.before_iff (p q : Perf) : p.before q = true ↔ p.dueStart < q.dueStart
    ∨ p.dueStart = q.dueStart ∧ (p.cls.order < q.cls.order ∨ p.cls.order = q.cls.order ∧ p.id < q.id) := by
  simp [Perf.before]

theorem Perf.before_trans {p q r : Perf} (hpq : p.before q = true) (hqr : q.before r = true) : p.before r = true := by
  rw [Perf.before_iff] at *
  omega

/-- Of two performances with different ids one stands before the other. -/
theorem Perf.before_of_not {p q : Perf} (hid : p.id ≠ q.id) (h : ¬p.before q = true) : q.before p = true := by
  rw [Perf.before_iff] at *
  omega

/-- The order rests on due start, class and id alone, and not on where the due starts are counted from. -/
theorem Perf.before_congr {p p' q q' : Perf} (d : Int) (hp : p'.id = p.id ∧ p'.cls = p.cls ∧ p'.dueStart = p.dueStart + d)
    (hq : q'.id = q.id ∧ q'.cls = q.cls ∧ q'.dueStart = q.dueStart + d) (h : p.before q = true) : p'.before q' = true := by
  obtain ⟨pid, pcls, pdue⟩ := hp
  obtain ⟨qid, qcls, qdue⟩ := hq
  rw [Perf.before_iff] at *
  rw [pid, pcls, pdue, qid, qcls, qdue]
  omega

theorem pairwise_enqueue {p : Perf} {q : List Perf} (hq : q.Pairwise (fun a b => a.before b = true))
    (hp : p.id ∉ q.map (·.id)) : (enqueue p q).Pairwise (fun a b => a.before b = true) := by
  induction q with
  | nil => exact List.pairwise_singleton _ _
  | cons x xs ih =>
    obtain ⟨hx, hxs⟩ := List.pairwise_cons.mp hq
    rw [List.map_cons, List.mem_cons, not_or] at hp
    by_cases hb : p.before x = true
    · rw [enqueue, if_pos hb]
      refine List.pairwise_cons.mpr ⟨fun y hy => ?_, hq⟩
      rcases List.mem_cons.mp hy with rfl | hy
      · exact hb
      · exact Perf.before_trans hb (hx y hy)
    · rw [enqueue, if_neg hb]
      refine List.pairwise_cons.mpr ⟨fun y hy => ?_, ih hxs hp.2⟩
      rcases (mem_enqueue p y xs).mp hy with rfl | hy
      · exact Perf.before_of_not hp.1 hb
      · exact hx y hy

/-! ## A queue as R60 and R61 have it -/

/-- What `queueOk` says of the list of performances, the last three clauses for each two of them. -/
structure QueueFits (q : List Perf) : Prop where
  room : q.length ≤ 8
  order : q.Pairwise (fun a b => a.before b = true)
  ids : (q.map (·.id)).Nodup
  idRange : ∀ p ∈ q, 1 ≤ p.id ∧ p.id ≤ 255
  oneActive : ∀ a ∈ q, ∀ b ∈ q, a.state = .active → b.state = .active → a.id = b.id
  oneTouch : ∀ a ∈ q, ∀ b ∈ q, a.cls = .touch → b.cls = .touch → a.id = b.id
  noClockPaused : ∀ p ∈ q, p.isClock = true → p.state ≠ .paused

/-- With the ids distinct, at most one performance is of a sort when any two of that sort have one id. -/
theorem length_filter_le_one_iff {q : List Perf} (h : (q.map (·.id)).Nodup) (f : Perf → Bool) :
    (q.filter f).length ≤ 1 ↔ ∀ a ∈ q, ∀ b ∈ q, f a = true → f b = true → a.id = b.id := by
  constructor
  · intro hle a ha b hb hfa hfb
    have ha' := List.mem_filter.mpr ⟨ha, hfa⟩
    have hb' := List.mem_filter.mpr ⟨hb, hfb⟩
    obtain ⟨x, hx⟩ := List.length_eq_one_iff.mp (Nat.le_antisymm hle (List.length_pos_of_mem ha'))
    rw [hx, List.mem_singleton] at ha' hb'
    rw [ha', hb']
  · intro same
    have nodup : ((q.filter f).map (·.id)).Nodup := h.sublist (List.filter_sublist.map _)
    match hf : q.filter f with
    | [] => exact Nat.zero_le 1
    | [_] => exact Nat.le_refl 1
    | a :: b :: l =>
      rw [hf] at nodup
      obtain ⟨ha, hfa⟩ := List.mem_filter.mp (hf ▸ List.mem_cons_self : a ∈ q.filter f)
      obtain ⟨hb, hfb⟩ := List.mem_filter.mp (hf ▸ List.mem_cons_of_mem a List.mem_cons_self : b ∈ q.filter f)
      simp [same a ha b hb hfa hfb] at nodup

theorem queueOk_iff (s : State) :
    queueOk s ↔ QueueFits s.arbiter.queue ∧ 1 ≤ s.arbiter.nextId ∧ s.arbiter.nextId ≤ 255 := by
  constructor
  · rintro ⟨room, order, ids, range, lo, hi, active, touch, paused⟩
    rw [length_filter_le_one_iff ids] at active touch
    exact ⟨⟨room, order, ids, range, by simpa using active, by simpa using touch, paused⟩, lo, hi⟩
  · rintro ⟨⟨room, order, ids, range, active, touch, paused⟩, lo, hi⟩
    refine ⟨room, order, ids, range, lo, hi, ?_, ?_, paused⟩
    · rw [length_filter_le_one_iff ids]
      simpa using active
    · rw [length_filter_le_one_iff ids]
      simpa using touch

theorem QueueFits.nil : QueueFits [] := by constructor <;> simp

theorem QueueFits.sublist {q q' : List Perf} (h : QueueFits q) (hs : q'.Sublist q) : QueueFits q' where
  room := hs.length_le.trans h.room
  order := h.order.sublist hs
  ids := h.ids.sublist (hs.map _)
  idRange p hp := h.idRange p (hs.subset hp)
  oneActive a ha b hb := h.oneActive a (hs.subset ha) b (hs.subset hb)
  oneTouch a ha b hb := h.oneTouch a (hs.subset ha) b (hs.subset hb)
  noClockPaused p hp := h.noClockPaused p (hs.subset hp)

/-- A change of performances that keeps what their places rest on. -/
theorem QueueFits.map {q : List Perf} (h : QueueFits q) {f : Perf → Perf} (d : Int)
    (same : ∀ p ∈ q, (f p).id = p.id ∧ (f p).cls = p.cls ∧ (f p).dueStart = p.dueStart + d)
    (active : ∀ a ∈ q, ∀ b ∈ q, (f a).state = .active → (f b).state = .active → a.id = b.id)
    (paused : ∀ p ∈ q, p.isClock = true → (f p).state ≠ .paused) : QueueFits (q.map f) where
  room := by rw [List.length_map]; exact h.room
  order := by
    rw [List.pairwise_map]
    exact h.order.imp_of_mem fun ha hb hab => Perf.before_congr d (same _ ha) (same _ hb) hab
  ids := by
    have ids : (q.map f).map (·.id) = q.map (·.id) := by
      rw [List.map_map]
      exact List.map_congr_left fun p hp => (same p hp).1
    rw [ids]
    exact h.ids
  idRange p hp := by
    obtain ⟨x, hx, rfl⟩ := List.mem_map.mp hp
    rw [(same x hx).1]
    exact h.idRange x hx
  oneActive a ha b hb hsa hsb := by
    obtain ⟨x, hx, rfl⟩ := List.mem_map.mp ha
    obtain ⟨y, hy, rfl⟩ := List.mem_map.mp hb
    rw [(same x hx).1, (same y hy).1]
    exact active x hx y hy hsa hsb
  oneTouch a ha b hb hta htb := by
    obtain ⟨x, hx, rfl⟩ := List.mem_map.mp ha
    obtain ⟨y, hy, rfl⟩ := List.mem_map.mp hb
    obtain ⟨hxid, hxcls, -⟩ := same x hx
    obtain ⟨hyid, hycls, -⟩ := same y hy
    rw [hxid, hyid]
    exact h.oneTouch x hx y hy (hxcls ▸ hta) (hycls ▸ htb)
  noClockPaused p hp hk := by
    obtain ⟨x, hx, rfl⟩ := List.mem_map.mp hp
    refine paused x hx ?_
    rwa [Perf.isClock, (same x hx).2.1] at hk

/-- A performance that waits joins a queue with a place for it, under an id that is free (R60, R61, R63). -/
theorem QueueFits.enqueue {q : List Perf} (h : QueueFits q) {p : Perf} (room : q.length < 8) (free : p.id ∉ q.map (·.id))
    (range : 1 ≤ p.id ∧ p.id ≤ 255) (waits : p.state = .waiting) (touch : p.cls = .touch → ∀ x ∈ q, x.cls ≠ .touch) :
    QueueFits (enqueue p q) where
  room := by rw [length_enqueue]; exact room
  order := pairwise_enqueue h.order free
  ids := nodup_enqueue h.ids free
  idRange x hx := by
    rcases (mem_enqueue p x q).mp hx with rfl | hx
    · exact range
    · exact h.idRange x hx
  oneActive a ha b hb hsa hsb := by
    rcases (mem_enqueue p a q).mp ha with rfl | ha
    · simp [waits] at hsa
    · rcases (mem_enqueue p b q).mp hb with rfl | hb
      · simp [waits] at hsb
      · exact h.oneActive a ha b hb hsa hsb
  oneTouch a ha b hb hta htb := by
    rcases (mem_enqueue p a q).mp ha with hap | haq
    · rcases (mem_enqueue p b q).mp hb with hbp | hbq
      · rw [hap, hbp]
      · exact absurd htb (touch (hap ▸ hta) b hbq)
    · rcases (mem_enqueue p b q).mp hb with hbp | hbq
      · exact absurd hta (touch (hbp ▸ htb) a haq)
      · exact h.oneTouch a haq b hbq hta htb
  noClockPaused x hx hk := by
    rcases (mem_enqueue p x q).mp hx with rfl | hx
    · simp [waits]
    · exact h.noClockPaused x hx hk

/-! ## Ids (R60) -/

theorem idAfter_range {n : Nat} (h : n ≤ 255) : 1 ≤ idAfter n ∧ idAfter n ≤ 255 := by
  unfold idAfter
  split <;> omega

theorem freeId_range (used : List Nat) (fuel : Nat) {n : Nat} (h : 1 ≤ n ∧ n ≤ 255) :
    1 ≤ freeId used fuel n ∧ freeId used fuel n ≤ 255 := by
  induction fuel generalizing n with
  | zero => exact h
  | succ fuel ih =>
    unfold freeId
    split
    · exact ih (idAfter_range h.2)
    · exact h

theorem newId_range {s : State} (hq : queueOk s) : 1 ≤ newId s ∧ newId s ≤ 255 := by
  obtain ⟨-, next⟩ := (queueOk_iff s).mp hq
  exact freeId_range _ _ next

/-! ## Operations that keep the queue so -/

/-- The operation keeps the performance queue as R60 and R61 have it. -/
structure KeepsQueue (s t : State) : Prop where
  keeps : queueOk s → queueOk t

theorem KeepsQueue.refl (s : State) : KeepsQueue s s := ⟨fun hq => hq⟩

theorem KeepsQueue.trans {s t u : State} (h : KeepsQueue s t) (h' : KeepsQueue t u) : KeepsQueue s u :=
  ⟨fun hq => h'.keeps (h.keeps hq)⟩

/-- What the queue was may be used of the operation. -/
theorem KeepsQueue.of {s t : State} (h : queueOk s → KeepsQueue s t) : KeepsQueue s t := ⟨fun hq => (h hq).keeps hq⟩

theorem KeepsQueue.foldl {α : Type} {f : State → α → State} (hf : ∀ s x, KeepsQueue s (f s x)) (xs : List α) (s : State) :
    KeepsQueue s (xs.foldl f s) := foldl_rel KeepsQueue.refl KeepsQueue.trans hf xs s

theorem KeepsQueue.ite {s t u : State} {p : Prop} [Decidable p] (ht : KeepsQueue s t) (hu : KeepsQueue s u) :
    KeepsQueue s (if p then t else u) := by
  split
  · exact ht
  · exact hu

/-- An operation that does not touch the arbiter. -/
theorem KeepsQueue.of_arbiter {s t : State} (h : t.arbiter = s.arbiter) : KeepsQueue s t := ⟨queueOk_congr h⟩

theorem KeepsQueue.withQueue {s : State} {q : List Perf} (h : QueueFits s.arbiter.queue → QueueFits q) :
    KeepsQueue s (s.withQueue q) := by
  refine ⟨fun hq => ?_⟩
  obtain ⟨fits, next⟩ := (queueOk_iff s).mp hq
  exact (queueOk_iff _).mpr ⟨h fits, next⟩

theorem KeepsQueue.filter (f : Perf → Bool) (s : State) : KeepsQueue s (s.withQueue (s.arbiter.queue.filter f)) :=
  .withQueue fun fits => fits.sublist List.filter_sublist

theorem KeepsQueue.dropPerf (id : Nat) (s : State) : KeepsQueue s (dropPerf id s) := .filter _ s

/-- A change of one performance that leaves what it is, its state and its due start. -/
theorem KeepsQueue.updatePerf (id : Nat) {f : Perf → Perf} (s : State) (hid : ∀ p, (f p).id = p.id := by intro p; rfl)
    (hsrc : ∀ p, (f p).source = p.source := by intro p; rfl) (hstate : ∀ p, (f p).state = p.state := by intro p; rfl)
    (hdue : ∀ p, (f p).dueStart = p.dueStart := by intro p; rfl) : KeepsQueue s (updatePerf id f s) := by
  have state (p : Perf) : (if p.id == id then f p else p).state = p.state := by
    split
    · exact hstate p
    · rfl
  refine .withQueue fun fits => fits.map 0 (fun p _ => ?_) (fun a ha b hb => ?_) (fun p hp hk => ?_)
  · split <;> simp [hid, Perf.cls, hsrc, hdue]
  · rw [state, state]
    exact fits.oneActive a ha b hb
  · rw [state]
    exact fits.noClockPaused p hp hk

theorem active_ne {s : State} (h : activePerf s = none) : ∀ p ∈ s.arbiter.queue, p.state ≠ .active := by
  simpa [activePerf] using h

/-- A change that makes the performance of an id ACTIVE, where none is. -/
theorem KeepsQueue.activate {id : Nat} {f : Perf → Perf} {s : State} (hnone : activePerf s = none)
    (hcls : ∀ p ∈ s.arbiter.queue, p.id = id → (f p).cls = p.cls) (hid : ∀ p, (f p).id = p.id := by intro p; rfl)
    (hactive : ∀ p, (f p).state = .active := by intro p; rfl)
    (hdue : ∀ p, (f p).dueStart = p.dueStart := by intro p; rfl) : KeepsQueue s (Machine.updatePerf id f s) := by
  have only (p : Perf) (hp : p ∈ s.arbiter.queue) (h : (if p.id == id then f p else p).state = .active) : p.id = id := by
    by_contra hne
    rw [if_neg (by simpa using hne)] at h
    exact active_ne hnone p hp h
  refine .withQueue fun fits => fits.map 0 (fun p hp => ?_) (fun a ha b hb hsa hsb => ?_) (fun p hp hk => ?_)
  · split
    · rename_i h
      exact ⟨hid p, hcls p hp (by simpa using h), by simp [hdue]⟩
    · simp
  · rw [only a ha hsa, only b hb hsb]
  · split
    · simp [hactive]
    · exact fits.noClockPaused p hp hk

/-! ## Omitting and ending (R72, R77) -/

theorem KeepsQueue.endTouch (p : Perf) (how : TouchHow) (reason : Option OmitReason) (s : State) :
    KeepsQueue s (endTouch p how reason s) := .of_arbiter (endTouch_arbiter p how reason s)

theorem serveEvent_arbiter (p : Perf) (s : State) : (serveEvent p s).arbiter = s.arbiter := by
  unfold serveEvent
  split
  · exact moveMarker_arbiter _ s
  · rfl

theorem KeepsQueue.endHold (was : Option Nat) (s : State) : KeepsQueue s (endHold was s) := by
  unfold Machine.endHold
  split
  · exact .ite (.updatePerf _ s) (.refl s)
  · exact .refl s

theorem KeepsQueue.leaveOmitted (p : Perf) (s : State) : KeepsQueue s (leaveOmitted p s) :=
  ((KeepsQueue.dropPerf p.id s).trans (.of_arbiter (serveEvent_arbiter p _))).trans (.endHold _ _)

theorem KeepsQueue.omitted (p : Perf) (reason : OmitReason) (part : ClockPart) (s : State) :
    KeepsQueue s (omitted p reason part s) := .of_arbiter rfl

theorem KeepsQueue.omitPerf (p : Perf) (reason : OmitReason) (part : ClockPart) (s : State) :
    KeepsQueue s (omitPerf p reason part s) :=
  ((((KeepsQueue.endTouch p _ _ s).trans (.omitted p reason part _)).trans (.dropPerf p.id _)).trans
    (.of_arbiter (serveEvent_arbiter p _))).trans (.endHold _ _)

theorem KeepsQueue.endPerf (p : Perf) (how : How) (s : State) : KeepsQueue s (endPerf p how s) := by
  refine ⟨fun hq => ?_⟩
  obtain ⟨fits, next⟩ := (queueOk_iff s).mp hq
  rw [queueOk_iff, endPerf_arbiter]
  exact ⟨fits.sublist List.filter_sublist, next⟩

/-! ## Starting (R62, R72, R73) -/

theorem KeepsQueue.startPlain {s : State} (p : Perf) (hnone : activePerf s = none) : KeepsQueue s (startPlain p s) := by
  have started : KeepsQueue s (Machine.updatePerf p.id
      (fun p => { p with state := .active, tested := true, origin := some (s.now + Config.startAllowance) }) s) :=
    .activate hnone (fun _ _ _ => rfl)
  unfold Machine.startPlain
  exact .ite (started.trans (.of_arbiter rfl)) started

theorem advanceChime_arbiter (set position : Nat) (s : State) : (advanceChime set position s).arbiter = s.arbiter := by
  unfold advanceChime
  dsimp only
  split <;> rfl

/-- What has the id of a clock event in the queue is a clock event. -/
theorem isClock_of_id {s : State} (hq : queueOk s) {p : Perf} (hp : p ∈ s.arbiter.queue) (hk : p.isClock = true) :
    ∀ x ∈ s.arbiter.queue, x.id = p.id → x.isClock = true := by
  obtain ⟨fits, -⟩ := (queueOk_iff s).mp hq
  intro x hx hid
  rwa [eq_of_id fits.ids hx hp hid]

theorem KeepsQueue.startClock {s : State} {p : Perf} (event : Nat) (chime : Option ChimePart) (strike : Option StrikePart)
    (hnone : activePerf s = none) (hk : ∀ x ∈ s.arbiter.queue, x.id = p.id → x.isClock = true) :
    KeepsQueue s (startClock p event chime strike s) := by
  have started : KeepsQueue s (Machine.updatePerf p.id (fun p => { p with
      state := .active, tested := true, source := .clock event chime strike, inStrike := chime.isNone }) s) :=
    .activate hnone (fun x hx hid => (beq_iff_eq.mp (hk x hx hid)).symm)
  have moved := started.trans (.of_arbiter (moveMarker_arbiter event _))
  cases chime with
  | none => exact moved
  | some c => exact moved.trans (.of_arbiter (advanceChime_arbiter _ _ _))

/-- The ACTIVE performance becomes PAUSED: none is ACTIVE any more (R73). -/
theorem activePerf_pause {s : State} {q : Perf} (hq : queueOk s) (ha : activePerf s = some q) :
    activePerf (pause q.id s) = none := by
  obtain ⟨fits, -⟩ := (queueOk_iff s).mp hq
  obtain ⟨hmem, hact⟩ := activePerf_spec ha
  rw [activePerf, List.find?_eq_none]
  intro x hx
  obtain ⟨y, hy, rfl⟩ := List.mem_map.mp hx
  by_cases hid : y.id = q.id
  · simp [hid]
  · rw [if_neg (by simpa using hid), beq_iff_eq]
    exact fun hs => hid (fits.oneActive y hy q hmem hs hact)

theorem KeepsQueue.pause {s : State} {q : Perf} (ha : activePerf s = some q) (hk : q.isClock = false) :
    KeepsQueue s (pause q.id s) := by
  obtain ⟨hmem, -⟩ := activePerf_spec ha
  refine .withQueue fun fits => fits.map 0 (fun p _ => ?_) (fun a hx b hy hsa hsb => ?_) (fun p hp hc => ?_)
  · split <;> simp [Perf.cls]
  · have was (p : Perf) (h : (if p.id == q.id then { p with state := PerfState.paused } else p).state = .active) :
        p.state = .active := by
      split at h
      · cases h
      · exact h
    exact fits.oneActive a hx b hy (was a hsa) (was b hsb)
  · split
    · rename_i hid
      rw [eq_of_id fits.ids hp hmem (by simpa using hid), hk] at hc
      cases hc
    · exact fits.noClockPaused p hp hc

theorem KeepsQueue.arbitrateClock {s : State} {p : Perf} (event : Nat) (chime : Option ChimePart) (strike : Option StrikePart)
    (part : ClockPart) (hk : ∀ x ∈ s.arbiter.queue, x.id = p.id → x.isClock = true) :
    KeepsQueue s (arbitrateClock p event chime strike part s) := by
  refine .of fun hq => ?_
  unfold Machine.arbitrateClock
  split
  · rename_i hnone
    exact KeepsQueue.startClock event chime strike hnone hk
  · rename_i q ha
    split
    · rename_i yields
      have paused := KeepsQueue.pause ha (Perf.isClock_false_of_yields yields)
      refine paused.trans (.startClock event chime strike (activePerf_pause hq ha) (fun x hx hid => ?_))
      obtain ⟨y, hy, rfl⟩ := List.mem_map.mp hx
      split at hid <;> split <;> exact hk y hy hid
    · exact KeepsQueue.omitPerf _ _ _ s

theorem partTest_arbiter {α : Type} (p : Perf) (reason : OmitReason) (part : ClockPart) (fails : α → Bool) (x : Option α)
    (s : State) : (partTest p reason part fails x s).2.arbiter = s.arbiter := by
  unfold partTest
  split <;> rfl

theorem KeepsQueue.testClock {s : State} {p : Perf} (event : Nat) (chime : Option ChimePart) (strike : Option StrikePart)
    (hp : p ∈ s.arbiter.queue) (hk : p.isClock = true) : KeepsQueue s (testClock p event chime strike s) := by
  refine .of fun hq => ?_
  unfold Machine.testClock
  refine KeepsQueue.ite (.omitPerf _ _ _ s) ?_
  dsimp only
  generalize h1 : partTest p .silence .chime _ chime s = c1
  generalize h2 : partTest p .silence .strike _ strike c1.2 = k1
  generalize h3 : partTest p .withdrawn .chime _ c1.1 k1.2 = c2
  generalize h4 : partTest p .withdrawn .strike _ k1.1 c2.2 = k2
  have same : k2.2.arbiter = s.arbiter := by
    rw [← h4, partTest_arbiter, ← h3, partTest_arbiter, ← h2, partTest_arbiter, ← h1, partTest_arbiter]
  refine (KeepsQueue.of_arbiter same).trans (.ite (.leaveOmitted p _) (.arbitrateClock _ _ _ _ ?_))
  rw [same]
  exact isClock_of_id hq hp hk

theorem KeepsQueue.testPlain (p : Perf) (k : SilenceClass) (lacks : Bool) (s : State) : KeepsQueue s (testPlain p k lacks s) := by
  unfold Machine.testPlain
  refine .ite (.omitPerf _ _ _ s) (.ite (.omitPerf _ _ _ s) ?_)
  split
  · rename_i hnone
    exact .startPlain p hnone
  · exact .updatePerf _ s

theorem KeepsQueue.startTest {s : State} {p : Perf} (hp : p ∈ s.arbiter.queue) : KeepsQueue s (startTest p s) := by
  unfold Machine.startTest
  refine .ite (.omitPerf _ _ _ s) ?_
  split
  · rename_i hs
    exact .testClock _ _ _ hp (by simp [Perf.isClock, Perf.cls, Source.cls, hs])
  · exact .testPlain p _ _ s
  · exact .testPlain p _ _ s
  · exact .testPlain p _ _ s

/-! ## Offering the hammers (R75, R76) -/

theorem findPerf_mem {s : State} {id : Nat} {p : Perf} (h : findPerf s id = some p) : p ∈ s.arbiter.queue ∧ p.id = id :=
  ⟨List.mem_of_find?_eq_some h, by simpa using List.find?_some h⟩

theorem KeepsQueue.offerTo (s : State) (id : Nat) : KeepsQueue s (offerTo s id) := by
  unfold Machine.offerTo
  split
  · rename_i p hfind _
    exact .ite (.startTest (findPerf_mem hfind).1) (.refl s)
  · exact .refl s

theorem KeepsQueue.offerHammers {s : State} (clock : Option Int) (hnone : activePerf s = none) :
    KeepsQueue s (offerHammers clock s) := by
  unfold Machine.offerHammers
  split
  · exact .activate hnone (fun _ _ _ => rfl)
  · exact .foldl KeepsQueue.offerTo _ s

/-- Once the ACTIVE performance has ended, none is ACTIVE. -/
theorem activePerf_endPerf {s : State} (hq : queueOk s) {p : Perf} (hp : p ∈ s.arbiter.queue) (hact : p.state = .active)
    (how : How) : activePerf (endPerf p how s) = none := by
  obtain ⟨fits, -⟩ := (queueOk_iff s).mp hq
  rw [activePerf, endPerf_arbiter, List.find?_eq_none]
  intro x hx
  obtain ⟨hmem, hne⟩ := List.mem_filter.mp hx
  rw [beq_iff_eq]
  exact fun hs => (bne_iff_ne.mp hne) (fits.oneActive x hmem p hp hs hact)

theorem KeepsQueue.checkEnd (s : State) (id : Nat) : KeepsQueue s (checkEnd s id) := by
  refine .of fun hq => ?_
  unfold Machine.checkEnd
  split
  · rename_i p hfind
    refine KeepsQueue.ite ?_ (.refl s)
    dsimp only
    split
    · rename_i hact
      have none := activePerf_endPerf hq (findPerf_mem hfind).1 (beq_iff_eq.mp hact) (p.stopped.getD .complete)
      exact (KeepsQueue.endPerf _ _ s).trans (.offerHammers _ none)
    · exact .endPerf _ _ s
  · exact .refl s

end Sys2Proof.Machine

/-! SUPPORT. Every command keeps the performance queue as R60 and R61 have it: first the blocks that can end or queue a
performance, then the requests and events of each block. -/

namespace Sys2Proof.Machine

open Sys2Proof

theorem KeepsQueue.after {s t u : State} (h : KeepsQueue t u) (hf : t.arbiter = s.arbiter := by rfl) : KeepsQueue s u :=
  (KeepsQueue.of_arbiter hf).trans h

theorem KeepsQueue.andThen {s t u : State} (h : KeepsQueue s t) (hf : u.arbiter = t.arbiter := by rfl) : KeepsQueue s u :=
  h.trans (.of_arbiter hf)

/-! ## Queueing and building (R63, R68, R69) -/

theorem newId_congr {s t : State} (h : t.arbiter = s.arbiter) : newId t = newId s := by
  rw [newId, newId, h]

/-- A performance that waits joins a queue with a place for it under the id that is next (R60, R63). -/
theorem KeepsQueue.joinQueue {s : State} {p : Perf} (room : s.arbiter.queue.length < 8) (hid : p.id = newId s)
    (waits : p.state = .waiting) (touch : p.cls = .touch → ∀ x ∈ s.arbiter.queue, x.cls ≠ .touch) :
    KeepsQueue s (joinQueue p s) := by
  refine ⟨fun hq => ?_⟩
  obtain ⟨fits, -⟩ := (queueOk_iff s).mp hq
  have range := newId_range hq
  rw [← hid] at range
  exact (queueOk_iff _).mpr
    ⟨fits.enqueue room (hid ▸ newId_free fits.room) range waits touch, idAfter_range range.2⟩

theorem latePart_arbiter (id event : Nat) (part : ClockPart) (late : Bool) (s : State) :
    (latePart id event part late s).arbiter = s.arbiter := by
  unfold latePart
  split <;> rfl

theorem KeepsQueue.buildEvent (event : Nat) (s : State) : KeepsQueue s (buildEvent event s) := by
  unfold Machine.buildEvent
  split
  · exact .of_arbiter (moveMarker_arbiter event _)
  · rename_i room
    dsimp only
    have late (id : Nat) (c k : Bool) : (latePart id event .strike k (latePart id event .chime c s)).arbiter = s.arbiter := by
      rw [latePart_arbiter, latePart_arbiter]
    split
    · exact .of_arbiter ((moveMarker_arbiter event _).trans (late _ _ _))
    · rename_i first hfirst
      refine (KeepsQueue.of_arbiter (late _ _ _)).trans (.joinQueue ?_ ?_ rfl (fun hc => by cases hc))
      · rw [late]
        exact Nat.not_le.mp room
      · rw [newId_congr (late _ _ _), hfirst]
        rfl

theorem KeepsQueue.buildOne (s : State) (n : Nat) : KeepsQueue s (buildOne s n) := .ite (.buildEvent n s) (.refl s)

theorem KeepsQueue.buildAhead (s : State) : KeepsQueue s (buildAhead s) := .foldl KeepsQueue.buildOne _ s

/-! ## Strokes (R86 to R92) -/

theorem KeepsQueue.dropStroke (id : Nat) (cls : PerfClass) (row : Nat) (bell : Int) (strength : Nat) (reason : DropReason)
    (wanted : Int) (slip : Nat) (s : State) : KeepsQueue s (dropStroke id cls row bell strength reason wanted slip s) :=
  (KeepsQueue.updatePerf id s).trans (.of_arbiter rfl)

theorem KeepsQueue.bookStroke (p : Perf) (row limit : Nat) (s : State) (k : Stroke) :
    KeepsQueue s (bookStroke p row limit s k) := by
  unfold Machine.bookStroke
  refine .ite (.dropStroke _ _ _ _ _ _ _ _ s) ?_
  dsimp only
  refine .ite (.dropStroke _ _ _ _ _ _ _ _ s) (.ite (.dropStroke _ _ _ _ _ _ _ _ s) ?_)
  exact (KeepsQueue.updatePerf p.id _).after

theorem Perf.advance_same (p : Perf) :
    p.advance.id = p.id ∧ p.advance.source = p.source ∧ p.advance.state = p.state ∧ p.advance.dueStart = p.dueStart := by
  unfold Perf.advance
  split
  · split <;> exact ⟨rfl, rfl, rfl, rfl⟩
  · exact ⟨rfl, rfl, rfl, rfl⟩

theorem KeepsQueue.advance (id : Nat) (s : State) : KeepsQueue s (Machine.updatePerf id Perf.advance s) :=
  .updatePerf id s (fun p => p.advance_same.1) (fun p => p.advance_same.2.1) (fun p => p.advance_same.2.2.1)
    (fun p => p.advance_same.2.2.2)

theorem reportFalse_arbiter (t : Touch) (s : State) : (reportFalse t s).arbiter = s.arbiter := by
  unfold reportFalse
  split <;> rfl

theorem KeepsQueue.takeTouchRow (p : Perf) (s : State) : KeepsQueue s (takeTouchRow p s) := by
  have taken : KeepsQueue s (reportFalse s.touch { s with touch := s.touch.take }) := .of_arbiter (reportFalse_arbiter _ _)
  unfold Machine.takeTouchRow
  exact .ite (taken.trans (.updatePerf p.id _)) taken

theorem KeepsQueue.emitRow (p : Perf) (s : State) : KeepsQueue s (emitRow p s) := by
  unfold Machine.emitRow
  exact (((KeepsQueue.ite (.takeTouchRow p s) (.refl s)).trans (.foldl (KeepsQueue.bookStroke p _ _) _ _)).trans
    (.advance p.id _)).trans (.checkEnd _ _)

theorem KeepsQueue.dropEntry (reason : DropReason) (s : State) (e : Entry) : KeepsQueue s (dropEntry reason s e) :=
  .dropStroke _ _ _ _ _ _ _ _ s

theorem KeepsQueue.dropEntriesFor (bell : Nat) (reason : DropReason) (s : State) :
    KeepsQueue s (dropEntriesFor bell reason s) :=
  (KeepsQueue.foldl (KeepsQueue.dropEntry reason) _ _).after.trans (.foldl KeepsQueue.checkEnd _ _)

theorem endRecovery_arbiter (b : Nat) (s : State) : (endRecovery b s).arbiter = s.arbiter := by
  unfold endRecovery
  dsimp only
  split <;> rfl

theorem KeepsQueue.actuatorFault (b : Nat) (s : State) : KeepsQueue s (actuatorFault b s) :=
  (KeepsQueue.dropEntriesFor b _ _).after

theorem KeepsQueue.pulseEnd (b : Nat) (asserted : Bool) (s : State) : KeepsQueue s (pulseEnd b asserted s) := by
  unfold Machine.pulseEnd
  exact .ite (KeepsQueue.actuatorFault b _).after (.ite (.of_arbiter (endRecovery_arbiter b _)) (.of_arbiter rfl))

theorem KeepsQueue.ripen (b : Nat) (s : State) : KeepsQueue s (ripen b s) := by
  unfold Machine.ripen
  exact (KeepsQueue.ite (.pulseEnd b _ s) (.refl s)).trans (.of_arbiter (endRecovery_arbiter b _))

theorem KeepsQueue.takeEntry (s : State) : KeepsQueue s (takeEntry s) := by
  unfold Machine.takeEntry
  split
  · exact .refl s
  · rename_i e es _
    have ripened := KeepsQueue.ripen e.bell s
    revert ripened
    generalize Machine.ripen e.bell s = r
    intro ripened
    refine .ite ripened ?_
    dsimp only
    split
    · exact (ripened.trans (KeepsQueue.updatePerf _ _).after).trans (.checkEnd _ _)
    · exact (ripened.trans (KeepsQueue.dropEntry _ _ _).after).trans (.checkEnd _ _)

/-! ## The hammers' handshake (R94 to R96) -/

theorem assertWithdraw_arbiter (b : Nat) (s : State) : (assertWithdraw b s).1.arbiter = s.arbiter := by
  unfold assertWithdraw
  dsimp only
  split <;> rfl

theorem KeepsQueue.withdrawRequest (b : Nat) (s : State) : KeepsQueue s (withdrawRequest b s).1 := by
  have dropped (x : Hammer) : KeepsQueue s (Machine.dropEntriesFor b .withdrawn (s.withHammer b x)) :=
    (KeepsQueue.dropEntriesFor b _ _).after
  have asserted (u : State) : KeepsQueue u (assertWithdraw b u).1 := .of_arbiter (assertWithdraw_arbiter b u)
  unfold Machine.withdrawRequest
  dsimp only
  split
  · exact dropped _
  · split
    case h_1 | h_2 | h_3 | h_4 => exact (dropped _).trans (asserted _)
    case h_5 => exact dropped _
    case h_6 => exact asserted s
    case h_7 =>
      split
      · exact asserted s
      · exact .refl s
    case h_8 => exact .refl s

theorem beginEngage_arbiter (b : Nat) (s : State) : (beginEngage b s).1.arbiter = s.arbiter := by
  unfold beginEngage
  dsimp only
  split <;> rfl

theorem engageRequest_arbiter (b : Nat) (s : State) : (engageRequest b s).1.arbiter = s.arbiter := by
  have begun := beginEngage_arbiter b s
  unfold engageRequest
  dsimp only
  split
  case h_1 | h_2 => exact begun
  case h_3 =>
    split
    · exact begun
    · rfl
  all_goals rfl

theorem confirmAsserted_arbiter (b : Nat) (s : State) : (confirmAsserted b s).1.arbiter = s.arbiter := by
  unfold confirmAsserted
  dsimp only
  split <;> rfl

theorem confirmCleared_arbiter (b : Nat) (s : State) : (confirmCleared b s).1.arbiter = s.arbiter := by
  unfold confirmCleared
  dsimp only
  split
  · rfl
  · split
    · exact assertWithdraw_arbiter b _
    · rfl

theorem sampleWithdrawing_arbiter (b : Nat) (asserted : Bool) (s : State) : (sampleWithdrawing b asserted s).arbiter = s.arbiter := by
  unfold sampleWithdrawing
  dsimp only
  split <;> rfl

theorem KeepsQueue.hammerPulseEnded (b : Nat) (asserted : Bool) (s : State) : KeepsQueue s (hammerPulseEnded b asserted s).1 := by
  unfold Machine.hammerPulseEnded
  dsimp only
  split
  · exact .of_arbiter ((assertWithdraw_arbiter b _).trans (sampleWithdrawing_arbiter b asserted s))
  · split
    · exact .of_arbiter (sampleWithdrawing_arbiter b asserted s)
    · exact .pulseEnd b asserted s

/-! ## The swing channels (R121 to R131) -/

theorem watchLoad_arbiter {f : State → State} {s : State} (h : (f s).arbiter = s.arbiter) : (watchLoad f s).arbiter = s.arbiter := by
  rcases watchLoad_cases f s with e | e <;> rw [e]
  · exact h
  · exact h

theorem KeepsQueue.watchLoad {f : State → State} {s : State} (h : KeepsQueue s (f s)) : KeepsQueue s (watchLoad f s) := by
  rcases watchLoad_cases f s with e | e <;> rw [e]
  · exact h
  · exact h.trans (.of_arbiter rfl)

theorem enterFault_arbiter (c : Nat) (cause : SwingCause) (s : State) : (enterFault c cause s).arbiter = s.arbiter :=
  watchLoad_arbiter rfl

theorem enterLowering_arbiter (c : Nat) (cause : WayDown) (s : State) : (enterLowering c cause s).arbiter = s.arbiter :=
  watchLoad_arbiter rfl

theorem enterSwinging_arbiter (c : Nat) (s : State) : (enterSwinging c s).arbiter = s.arbiter := watchLoad_arbiter rfl

theorem leaveRaise_arbiter (c : Nat) (s : State) : (leaveRaise c s).arbiter = s.arbiter := by
  unfold leaveRaise
  dsimp only
  split <;> rfl

theorem joinRaise_arbiter (c : Nat) (s : State) : (joinRaise c s).arbiter = s.arbiter := by
  unfold joinRaise
  dsimp only
  split <;> rfl

theorem returnDown_arbiter (c : Nat) (cause : WayDown) (s : State) : (returnDown c cause s).arbiter = s.arbiter :=
  watchLoad_arbiter (leaveRaise_arbiter c _)

theorem deliver_arbiter (b : Nat) (a : HammerAnswer) (s : State) : (deliver b a s).arbiter = s.arbiter := by
  unfold deliver
  split
  · rfl
  · split
    case h_1 | h_8 | h_9 => rfl
    all_goals exact enterFault_arbiter _ _ s

theorem KeepsQueue.answering {b : Nat} {f : State → State × Option HammerAnswer} {s : State} (h : KeepsQueue s (f s).1) :
    KeepsQueue s (answering b f s) := by
  unfold Machine.answering
  dsimp only
  split
  · exact h.trans (.of_arbiter (deliver_arbiter b _ _))
  · exact h

theorem KeepsQueue.enterSettling (c : Nat) (withdraw : Bool) (s : State) : KeepsQueue s (enterSettling c withdraw s) := by
  refine .watchLoad ?_
  exact .ite (KeepsQueue.withdrawRequest _ _).after (.of_arbiter rfl)

theorem KeepsQueue.enterClearing (c : Nat) (s : State) : KeepsQueue s (enterClearing c s) :=
  (KeepsQueue.answering (.withdrawRequest _ _)).after

theorem KeepsQueue.enterRestoring (c : Nat) (cause : WayDown) (s : State) : KeepsQueue s (enterRestoring c cause s) := by
  have entered : KeepsQueue s (Machine.watchLoad (fun u => u.withSwing c { (s.swing c).still with
      state := .restoring, wayDown := cause }) s) := .watchLoad (.of_arbiter rfl)
  exact entered.trans (.answering (.of_arbiter (engageRequest_arbiter _ _)))

theorem KeepsQueue.movedPass (c : Nat) (s : State) : KeepsQueue s (movedPass c s) := by
  refine .watchLoad (KeepsQueue.trans ?_ (.enterSettling c true _))
  exact .ite (.of_arbiter (leaveRaise_arbiter c _)) (.of_arbiter rfl)

theorem raisingPass_arbiter (c : Nat) (d : Direction) (arc : Bool) (s : State) : (raisingPass c d arc s).arbiter = s.arbiter := by
  unfold raisingPass
  dsimp only
  generalize (if arc = true then _ else _ : Nat) = run
  split
  · exact enterSwinging_arbiter c _
  · rfl

theorem swingingPass_arbiter (c : Nat) (d : Direction) (arc : Bool) (s : State) : (swingingPass c d arc s).arbiter = s.arbiter := by
  unfold swingingPass
  dsimp only
  split <;> rfl

theorem KeepsQueue.loweringPass (c : Nat) (d : Direction) (arc : Bool) (s : State) : KeepsQueue s (loweringPass c d arc s) := by
  unfold Machine.loweringPass
  exact .ite (.of_arbiter rfl) (.enterSettling c false s)

theorem KeepsQueue.passPulse (c : Nat) (d : Direction) (s : State) : KeepsQueue s (passPulse c d s) := by
  have read : KeepsQueue s (s.withSwing c { s.swing c with arcSeen := false, drive := none }) := .of_arbiter rfl
  unfold Machine.passPulse
  dsimp only
  split
  case h_1 | h_2 => exact read.trans (.movedPass c _)
  case h_3 => exact read.trans (.of_arbiter (raisingPass_arbiter c d _ _))
  case h_4 => exact read.trans (.of_arbiter (swingingPass_arbiter c d _ _))
  case h_5 => exact read.trans (.loweringPass c d _ _)
  case h_6 => exact .of_arbiter rfl
  case h_7 => exact read.trans (.enterSettling c true _)
  all_goals exact .refl s

theorem arcPulse_arbiter (c : Nat) (s : State) : (arcPulse c s).arbiter = s.arbiter := by
  unfold arcPulse
  dsimp only
  split <;> rfl

theorem endDrive_arbiter (c : Nat) (s : State) : (endDrive c s).arbiter = s.arbiter := by
  unfold endDrive
  dsimp only
  split <;> rfl

/-! ## The allowance and the lights (R140 to R147) -/

theorem KeepsQueue.of_onlyLights {s t : State} (h : OnlyLights s t) : KeepsQueue s t := .of_arbiter (by rw [h.same])

theorem KeepsQueue.admitHead (c : Nat) (s : State) : KeepsQueue s (admitHead c s) :=
  (KeepsQueue.enterClearing c s).trans (.of_arbiter (leaveRaise_arbiter c _))

theorem KeepsQueue.tryHeads (n : Nat) (s : State) : KeepsQueue s (tryHeads n s) := by
  induction n generalizing s with
  | zero => exact .refl s
  | succ n ih =>
    unfold Machine.tryHeads
    split
    · exact .refl s
    · exact .ite ((KeepsQueue.admitHead _ s).trans (ih _)) (.ite (.refl s) (.of_onlyLights (.orderYield s)))

theorem KeepsQueue.tryHead (s : State) : KeepsQueue s (tryHead s) := (KeepsQueue.tryHeads 13 s).trans (.of_arbiter rfl)

theorem KeepsQueue.release (s : State) : KeepsQueue s (release s) := by
  have begun : KeepsQueue s { s with allowance := { s.allowance with releaseDue := false } } := .of_arbiter rfl
  exact (begun.trans (.tryHead _)).trans (.of_onlyLights (.restoring _))

theorem KeepsQueue.workOff (n : Nat) (s : State) : KeepsQueue s (workOff n s) := by
  induction n generalizing s with
  | zero => exact .refl s
  | succ n ih =>
    unfold Machine.workOff
    exact .ite ((KeepsQueue.tryHead s).trans (ih _)) (.ite ((KeepsQueue.release s).trans (ih _)) (.refl s))

theorem KeepsQueue.settleLoad (s : State) : KeepsQueue s (settleLoad s) := (KeepsQueue.workOff 32 s).trans (.of_arbiter rfl)

/-- An operation that does not touch the arbiter, and what it leaves due in the allowance. -/
theorem KeepsQueue.settled {s t : State} (h : t.arbiter = s.arbiter) : KeepsQueue s (Machine.settleLoad t) :=
  (KeepsQueue.of_arbiter h).trans (.settleLoad t)

theorem KeepsQueue.applyScene (scene fade : Nat) (s : State) : KeepsQueue s (Machine.settleLoad (Machine.applyScene scene fade s)) :=
  (KeepsQueue.of_onlyLights (OnlyLights.applyScene scene fade s)).trans (.settleLoad _)

theorem KeepsQueue.restoreLights (s : State) : KeepsQueue s (restoreLights s) :=
  .ite ((KeepsQueue.of_onlyLights (OnlyLights.scenes _ s)).trans (.settleLoad _)) (.refl s)

theorem KeepsQueue.evaluateAt (m : Nat) (s : State) : KeepsQueue s (evaluateAt m s) :=
  .foldl (fun u (e : SchedEntry) => .applyScene e.scene e.fade u) _ s

theorem grant_arbiter (c d seconds : Nat) (s : State) : (grant c d seconds s).arbiter = s.arbiter := by
  rw [(OnlyLights.grant c d seconds s).same]

theorem KeepsQueue.setLightMode (mode : LightMode) (first last : Nat) (s : State) :
    KeepsQueue s (setLightMode mode first last s) := by
  have forced (s : State) (c : Nat) : KeepsQueue s (forceCircuit s c) := .watchLoad (.of_arbiter rfl)
  have freed (s : State) (c : Nat) : KeepsQueue s (unforceCircuit s c) := .of_arbiter (grant_arbiter c _ _ _)
  unfold Machine.setLightMode
  exact ((KeepsQueue.foldl forced _ _).after.trans (.foldl freed _ _)).trans (.settleLoad _)

/-! ## Starting and stopping the swing bells (R123, R132, R133) -/

theorem staggerEnded_arbiter (c : Nat) (s : State) : (staggerEnded c s).arbiter = s.arbiter := by
  unfold staggerEnded
  dsimp only
  split
  · rfl
  · split
    · rfl
    · exact joinRaise_arbiter c _

theorem KeepsQueue.endStagger (c : Nat) (s : State) : KeepsQueue s (endStagger c s) := .settled (staggerEnded_arbiter c s)

theorem KeepsQueue.startSwings (entries : List (Nat × Nat)) (duration program : Nat) (s : State) :
    KeepsQueue s (startSwings entries duration program s).1 := by
  have set (u : State) (e : (Nat × Nat) × Nat) :
      KeepsQueue u (setStart (clamp 0 120 duration) program s.startRequests u e) := .of_arbiter rfl
  unfold Machine.startSwings
  exact (KeepsQueue.foldl set _ _).after.trans (.foldl (fun u (e : (Nat × Nat) × Nat) => .endStagger e.1.1 u) _ _)

theorem KeepsQueue.timerStartProgram (k : Nat) (s : State) : KeepsQueue s (timerStartProgram k s).1 := by
  unfold Machine.timerStartProgram
  dsimp only
  split
  · exact .of_arbiter rfl
  · split
    · exact .refl s
    · split
      · exact .of_arbiter rfl
      · exact .startSwings _ _ _ s

theorem KeepsQueue.settleLowered (s : State) (c : Nat) : KeepsQueue s (settleLowered s c) :=
  .ite ((KeepsQueue.enterSettling c false s).trans (.settleLoad _)) (.refl s)

theorem KeepsQueue.lowerSwing (c : Nat) (cause : WayDown) (s : State) : KeepsQueue s (lowerSwing c cause s) :=
  (KeepsQueue.settled (enterLowering_arbiter c cause s)).trans (.settleLowered _ c)

theorem KeepsQueue.stopSwing (cause : WayDown) (s : State) (c : Nat) : KeepsQueue s (stopSwing cause s c) := by
  unfold Machine.stopSwing
  dsimp only
  split
  case h_1 => exact .of_arbiter rfl
  case h_2 => exact .of_arbiter (returnDown_arbiter c cause s)
  case h_3 => exact .enterRestoring c cause s
  case h_4 | h_5 => exact .of_arbiter (enterLowering_arbiter c cause s)
  all_goals exact .refl s

theorem KeepsQueue.stopSwings (cause : WayDown) (channels : List Nat) (s : State) : KeepsQueue s (stopSwings cause channels s) :=
  ((KeepsQueue.foldl (KeepsQueue.stopSwing cause) _ s).trans (.settleLoad _)).trans (.foldl KeepsQueue.settleLowered _ _)

theorem KeepsQueue.refuseHead (s : State) : KeepsQueue s (refuseHead s) := by
  unfold Machine.refuseHead
  split
  · exact .refl s
  · rename_i c _
    exact .settled (t := raise _ (returnDown c .refused s)) (returnDown_arbiter c .refused s)

theorem KeepsQueue.hammerEvent {b : Nat} {f : State → State × Option HammerAnswer} {s : State} (h : KeepsQueue s (f s).1) :
    KeepsQueue s (hammerEvent b f s) := (KeepsQueue.answering h).trans (.settleLoad _)

/-! ## A step record (R12, R79) -/

/-- The ACTIVE clock and those that wait have left, and what is left moves by the step as one (R79). -/
theorem KeepsQueue.clocksLeft (step : Int) (s : State) : KeepsQueue s (clocksLeft step s) := by
  refine ⟨fun hq => ?_⟩
  have ended : queueOk (endClock s) := by
    unfold endClock
    split
    · exact (KeepsQueue.endPerf _ _ s).keeps hq
    · exact hq
  obtain ⟨fits, next⟩ := (queueOk_iff _).mp ended
  let left := (endClock s).arbiter.queue.filter (fun p => !(p.isClock && p.state == .waiting))
  have leftFits : QueueFits left := fits.sublist List.filter_sublist
  have plain : ∀ p ∈ left, p.isClock = false := by
    intro p hp
    rw [← Perf.shift_isClock step p]
    refine clocksLeft_noClock hq step _ ?_
    rw [clocksLeft_queue]
    exact List.mem_map_of_mem hp
  refine (queueOk_iff _).mpr ⟨?_, next⟩
  rw [clocksLeft_queue]
  refine leftFits.map step (fun p hp => ?_) (fun a ha b hb => ?_) (fun p hp hk => ?_)
  · exact ⟨Perf.shift_id step p, by rw [Perf.cls, Perf.shift_source, Perf.cls], by simp [Perf.shift, plain p hp]⟩
  · rw [Perf.shift_state, Perf.shift_state]
    exact leftFits.oneActive a ha b hb
  · rw [plain p hp] at hk
    cases hk

theorem KeepsQueue.clocksBuilt (step : Int) (s : State) : KeepsQueue s (clocksBuilt step s) := by
  have omitted : (passedOmitted step s).arbiter = (Machine.clocksLeft step s).arbiter := by
    unfold passedOmitted
    split
    · exact skipEvents_arbiter _ _
    · rfl
  exact ((KeepsQueue.clocksLeft step s).trans (.of_arbiter omitted)).trans (.buildAhead _)

/-- Where the ACTIVE performance was a clock, none is ACTIVE once the clock events have been built afresh. -/
theorem activePerf_clocksBuilt {s : State} {a : Perf} (hq : queueOk s) (ha : activePerf s = some a) (hk : a.isClock = true)
    (step : Int) : activePerf (clocksBuilt step s) = none := by
  obtain ⟨hmem, hact⟩ := activePerf_spec ha
  have ended : endClock s = endPerf a .step s := by simp only [endClock, ha, Option.filter_some, hk, if_true]
  have none : (endClock s).arbiter.queue.find? (·.state == .active) = none := by
    rw [ended]
    exact activePerf_endPerf hq hmem hact .step
  rw [activePerf, clocksBuilt_find? (fun p hw => by simp [hw]) (fun d p => by rw [Perf.shift_state]), none]
  rfl

theorem KeepsQueue.arbiterAfterStep (step : Int) (s : State) : KeepsQueue s (arbiterAfterStep step s) := by
  have rebuilt : KeepsQueue s (Machine.rebuilt step s) := (KeepsQueue.clocksBuilt step s).trans (.endHold _ _)
  refine .of fun hq => ?_
  rw [arbiterAfterStep_eq]
  split
  · rename_i hclock
    obtain ⟨a, ha⟩ := Option.isSome_iff_exists.mp hclock
    obtain ⟨hactive, hk⟩ := Option.filter_eq_some_iff.mp ha
    have none := activePerf_clocksBuilt hq hactive hk step
    have same : Machine.rebuilt step s = Machine.clocksBuilt step s := by simp [rebuilt_eq, Machine.endHold, none]
    exact rebuilt.trans (.offerHammers _ (by rw [same, none]))
  · exact rebuilt

theorem KeepsQueue.publishStep (cause : StepCause) (step : Int) (old : Nat) (before : Validity) (s : State) :
    KeepsQueue s (publishStep cause step old before s) := by
  rw [publishStep_eq]
  exact (((KeepsQueue.of_arbiter (announced_arbiter cause step old before s)).trans (.arbiterAfterStep step _)).trans
    (.settleLoad _)).trans (.restoreLights _)

theorem KeepsQueue.reachEnd (s : State) : KeepsQueue s (reachEnd s) := (KeepsQueue.publishStep _ _ _ _ _).after

theorem KeepsQueue.stepTo (cause : StepCause) (new : Nat) (s : State) : KeepsQueue s (stepTo cause new s) :=
  .ite (.reachEnd s) (KeepsQueue.publishStep _ _ _ _ _).after

theorem KeepsQueue.lockedPulse (s : State) : KeepsQueue s (lockedPulse s) := by
  have corrected (e : Int) (s : State) : KeepsQueue s (correct e s) :=
    .ite (.of_arbiter rfl) (KeepsQueue.stepTo _ _ _).after
  exact .ite (corrected _ _).after (.of_arbiter rfl)

theorem KeepsQueue.referencePulse (s : State) : KeepsQueue s (Machine.referencePulse s) := by
  unfold Machine.referencePulse
  split
  · exact .refl s
  · exact (KeepsQueue.lockedPulse _).after
  · exact .lockedPulse s

theorem KeepsQueue.adjustSecond (s : State) : KeepsQueue s (adjustSecond s) := by
  unfold Machine.adjustSecond
  exact .ite (.of_arbiter rfl) (.ite (KeepsQueue.reachEnd _).after (.of_arbiter (renewIfDue_arbiter _)))

theorem countMs_arbiter (s : State) : (countMs s).arbiter = s.arbiter := by
  unfold countMs whenOperating
  dsimp only
  split
  · rfl
  · split
    · exact renewIfDue_arbiter _
    · rfl

/-! ## Timers (R19) -/

theorem KeepsQueue.expireTimer (n : Nat) (s : State) : KeepsQueue s (expireTimer n s) := by
  have performed (a : TimerAction) (s : State) : KeepsQueue s (performAction a s).1 := by
    cases a with
    | none => exact .refl s
    | startProgram k => exact .timerStartProgram k s
    | stopSwing => exact .stopSwings .stop _ s
    | applyScene n fade => exact .applyScene n fade s
  have expired := (performed (s.timer n).action (s.withTimer n { s.timer n with ends := none })).after (s := s)
  exact expired.andThen

/-! ## MAINTENANCE and the start of operation (R80, R180, R182, R183) -/

theorem KeepsQueue.arbiterMaintenance (s : State) : KeepsQueue s (arbiterMaintenance s) := by
  have cleared (s : State) (p : Perf) : KeepsQueue s (clearForMode s p) := .ite (.omitPerf p _ _ s) (.endPerf p _ s)
  unfold Machine.arbiterMaintenance
  refine KeepsQueue.trans ?_ (KeepsQueue.foldl cleared _ _).after
  split
  · exact (KeepsQueue.endPerf _ _ _).andThen
  · exact .of_arbiter rfl

theorem KeepsQueue.enterMaintenance (s : State) : KeepsQueue s (enterMaintenance s) := by
  have begun : KeepsQueue s (Machine.arbiterMaintenance { s with maintenance := true }) :=
    (KeepsQueue.arbiterMaintenance _).after
  have inhibited := begun.andThen (u := { Machine.arbiterMaintenance { s with maintenance := true } with
    hammers := (Machine.arbiterMaintenance { s with maintenance := true }).hammers.map Hammer.inhibit })
  exact inhibited.trans (.stopSwings .maintenance _ _)

/-- At the start of operation the queue is empty and the counter at 1 (R182). -/
theorem volatileStart_queueOk (s : State) : queueOk (volatileStart s) :=
  (queueOk_iff _).mpr ⟨.nil, Nat.le_refl 1, show 1 ≤ 255 by decide⟩

theorem settleDial_arbiter (c : Nat) (s : State) : (settleDial c s).arbiter = s.arbiter := rfl

theorem restart_queueOk (cause : RestartCause) (s : State) : queueOk (restart cause s) := by
  have lapsed (s : State) (n : Nat) : KeepsQueue s (lapseTimer s n) := .ite (.of_arbiter rfl) (.refl s)
  unfold restart
  dsimp only
  have started := volatileStart_queueOk (if (cause == .powerUp && !s.power.markerGood) = true then retainedLost s else s)
  refine KeepsQueue.keeps ?_ started
  have dials := KeepsQueue.foldl (f := fun s c => settleDial c s) (fun s c => .of_arbiter (settleDial_arbiter c s)) (numbers 1 4)
  exact ((((KeepsQueue.foldl lapsed (numbers 1 2) _).after.trans (dials _)).trans
    (.of_arbiter (skipEvents_arbiter [] _))).trans (.buildAhead _)).trans (.restoreLights _)

theorem KeepsQueue.restartIfFree (cause : RestartCause) (s : State) : KeepsQueue s (restartIfFree cause s) :=
  .ite ⟨fun _ => restart_queueOk _ s⟩ (.refl s)

end Sys2Proof.Machine

/-! SUPPORT. Every request and every event keeps the performance queue as R60 and R61 have it; the settled O27. -/

namespace Sys2Proof.Machine

open Sys2Proof

/-! ## Requests -/

/-- The answer's state keeps the queue, whatever state the request is taken in. -/
structure AnswerKeeps (body : State → Answer) : Prop where
  keeps : ∀ s, KeepsQueue s (body s).state

theorem KeepsQueue.takeRequest {body : State → Answer} (h : AnswerKeeps body) (hd : Header) (kind : Nat) (s : State) :
    KeepsQueue s (takeRequest hd kind body s) := by
  unfold Machine.takeRequest
  refine .ite (.refl s) (.ite (.of_arbiter (countError_arbiter s _ _)) ?_)
  refine KeepsQueue.trans (.trans ?_ (h.keeps _)) (.of_arbiter (withLink_arbiter _ _ _))
  exact .ite (.refl s) (.of_arbiter (closeStream_arbiter s _))

theorem AnswerKeeps.of_arbiter {body : State → Answer} (h : ∀ s, (body s).state.arbiter = s.arbiter) : AnswerKeeps body :=
  ⟨fun s => .of_arbiter (h s)⟩

/-- A refusal changes no state. -/
theorem KeepsQueue.refuse (s : State) (st : Status) : KeepsQueue s (refuse s st).state := .refl s

/-- After `joinQueue` the performance is in the queue, and what is due now is tested (R63). -/
theorem KeepsQueue.queuePerf {s : State} {p : Perf} (room : s.arbiter.queue.length < 8) (hid : p.id = newId s)
    (waits : p.state = .waiting) (touch : p.cls = .touch → ∀ x ∈ s.arbiter.queue, x.cls ≠ .touch) :
    KeepsQueue s (queuePerf p s) := by
  have joined := KeepsQueue.joinQueue room hid waits touch
  unfold Machine.queuePerf
  exact .ite (joined.trans (.startTest ((mem_enqueue p p _).mpr (.inl rfl)))) joined

/-- What the tests of the queueing requests leave (R63, R108). -/
theorem room_of_queueTest {h : Header} {fits touch : Bool} {s : State} (ht : queueTest h fits touch s = none) :
    s.arbiter.queue.length < 8 ∧ (touch = true → ∀ x ∈ s.arbiter.queue, x.cls ≠ .touch) := by
  simp only [queueTest] at ht
  split at ht
  · cases ht
  split at ht
  · cases ht
  split at ht
  · cases ht
  split at ht
  · cases ht
  split at ht
  · cases ht
  rename_i busy
  split at ht
  · cases ht
  rename_i full
  refine ⟨Nat.not_le.mp full, fun touches x hx hc => busy ?_⟩
  rw [touches, Bool.true_and, List.any_eq_true]
  exact ⟨x, hx, beq_iff_eq.mpr hc⟩

theorem playTuneAnswer_keeps (h : Header) (n : Nat) (shift : Option Int) (start : Option Nat) (wait : Nat) :
    AnswerKeeps (playTuneAnswer h n shift start wait) := by
  refine ⟨fun s => ?_⟩
  unfold playTuneAnswer
  dsimp only
  split
  · exact .refuse s _
  · rename_i ht
    exact .queuePerf (room_of_queueTest ht).1 rfl rfl (fun hc => by cases hc)

theorem tollAnswer_keeps (h : Header) (bell strength interval count silenceClock : Nat) (start : Option Nat) (wait : Nat) :
    AnswerKeeps (tollAnswer h bell strength interval count silenceClock start wait) := by
  refine ⟨fun s => ?_⟩
  unfold tollAnswer
  dsimp only
  split
  · exact .refuse s _
  · rename_i ht
    exact .queuePerf (room_of_queueTest ht).1 rfl rfl (fun hc => by cases hc)

theorem touchStartAnswer_keeps (h : Header) (method strength beat opening closing maximum : Nat) (calls : List (Nat × Nat)) :
    AnswerKeeps (touchStartAnswer h method strength beat opening closing maximum calls) := by
  refine ⟨fun s => ?_⟩
  unfold touchStartAnswer
  dsimp only
  split
  · exact .refuse s _
  · rename_i ht
    obtain ⟨room, noTouch⟩ := room_of_queueTest ht
    have queued (t : Touch) :
        KeepsQueue { s with touch := t } (queuePerf (newPerf s .touch none 600000) { s with touch := t }) :=
      .queuePerf room rfl rfl fun _ => noTouch rfl
    simp only [accept]
    exact (queued _).after

theorem hushAnswer_keeps (clockFlag : Nat) : AnswerKeeps (hushAnswer clockFlag) := by
  refine ⟨fun s => ?_⟩
  unfold hushAnswer
  split
  · exact .refuse s _
  · have stopped (s : State) (id : Nat) : KeepsQueue s (updatePerf id (fun p => { p with stopped := some .hushed }) s) :=
      .updatePerf id s
    exact ((KeepsQueue.foldl stopped _ s).trans (.foldl (fun s p => .endPerf p .hushed s) _ _)).trans
      (.foldl .checkEnd _ _)

theorem clockStrikeConfigAnswer_keeps (bell strength interval gap : Nat) :
    AnswerKeeps (clockStrikeConfigAnswer bell strength interval gap) := by
  refine ⟨fun s => ?_⟩
  unfold clockStrikeConfigAnswer
  split
  · exact .refuse s _
  · exact ⟨fun hq => hq⟩

theorem silenceWriteAnswer_keeps (entry enable start stop classes silenced : Nat) :
    AnswerKeeps (silenceWriteAnswer entry enable start stop classes silenced) := by
  refine ⟨fun s => ?_⟩
  unfold silenceWriteAnswer
  split
  · split
    · exact .refuse s _
    · exact ⟨fun hq => hq⟩
  · exact .refuse s _

theorem modeMaintenanceAnswer_keeps : AnswerKeeps modeMaintenanceAnswer := ⟨fun s => .ite (.refl s) (.enterMaintenance s)⟩

theorem modeRunAnswer_keeps : AnswerKeeps modeRunAnswer := ⟨fun s => .ite (.of_arbiter rfl) (.refl s)⟩

theorem timeSetAnswer_keeps (year month day ms : Nat) : AnswerKeeps (timeSetAnswer year month day ms) := by
  refine ⟨fun s => ?_⟩
  unfold timeSetAnswer
  dsimp only
  split
  · exact .refuse s _
  · split
    · exact .refl s
    · exact (KeepsQueue.publishStep _ _ _ _ (setTime _ s)).after

theorem zoneSetAnswer_keeps (minutes : Int) : AnswerKeeps (zoneSetAnswer minutes) := by
  refine ⟨fun s => ?_⟩
  unfold zoneSetAnswer
  split
  · exact .refuse s _
  · dsimp only
    split
    · exact .refl s
    · split
      · exact .refuse s _
      · exact (KeepsQueue.publishStep _ _ _ _ _).after

theorem faultClearHammerAnswer_keeps (b : Nat) : AnswerKeeps (faultClearHammerAnswer b) := by
  refine ⟨fun s => ?_⟩
  unfold faultClearHammerAnswer
  split
  · exact .refuse s _
  · dsimp only
    split
    · split
      · exact .refuse s _
      · exact (KeepsQueue.of_arbiter (beginEngage_arbiter b _)).after
    all_goals exact .of_arbiter rfl

theorem faultClearSwingAnswer_keeps (c : Nat) : AnswerKeeps (faultClearSwingAnswer c) := by
  refine ⟨fun s => ?_⟩
  unfold faultClearSwingAnswer
  split
  · exact .refuse s _
  · dsimp only
    split
    · exact ((KeepsQueue.enterSettling c true _).after).trans (.settleLoad _)
    · exact .refl s

theorem hammerConfigAnswer_keeps (b lead recovery width fitted : Nat) :
    AnswerKeeps (hammerConfigAnswer b lead recovery width fitted) := by
  refine .of_arbiter fun s => ?_
  unfold hammerConfigAnswer
  split
  · rfl
  · dsimp only
    split
    · rfl
    · split
      · rfl
      · exact endRecovery_arbiter b s

theorem testStrokeAnswer_keeps (b strength : Nat) : AnswerKeeps (testStrokeAnswer b strength) := by
  refine .of_arbiter fun s => ?_
  unfold testStrokeAnswer
  split
  · rfl
  · split
    · rfl
    · dsimp only
      split
      · exact endRecovery_arbiter b s
      · rfl

theorem swingStartAnswer_keeps (h : Header) (entries : List (Nat × Nat)) (duration : Nat) :
    AnswerKeeps (swingStartAnswer h entries duration) := by
  refine ⟨fun s => ?_⟩
  unfold swingStartAnswer
  dsimp only
  repeat' split
  · exact .refuse s _
  · exact .refuse s _
  · exact .refuse s _
  · exact .refuse s _
  · exact .startSwings _ _ _ s

theorem swingStopAnswer_keeps (channels : Option (List Nat)) : AnswerKeeps (swingStopAnswer channels) := by
  refine ⟨fun s => ?_⟩
  unfold swingStopAnswer
  dsimp only
  split
  · exact .refuse s _
  · exact .stopSwings .stop _ s

theorem programStartAnswer_keeps (h : Header) (k : Nat) : AnswerKeeps (programStartAnswer h k) := by
  refine ⟨fun s => ?_⟩
  unfold programStartAnswer
  dsimp only
  repeat' split
  · exact .refuse s _
  · exact .refuse s _
  · exact .refuse s _
  · exact .refuse s _
  · exact .refuse s _
  · exact .startSwings _ _ _ s

theorem allowanceSetAnswer_keeps (units : Nat) : AnswerKeeps (allowanceSetAnswer units) := by
  refine ⟨fun s => ?_⟩
  unfold allowanceSetAnswer
  dsimp only
  split
  · exact .refl s
  · refine .settled ?_
    split <;> rfl

theorem circuitConfigAnswer_keeps (c maxDraw yieldFlag floor : Nat) :
    AnswerKeeps (circuitConfigAnswer c maxDraw yieldFlag floor) := by
  refine ⟨fun s => ?_⟩
  unfold circuitConfigAnswer
  split
  · exact .refuse s _
  · dsimp only
    split
    · exact .refuse s _
    · split
      · exact .refl s
      · exact .settled (watchLoad_arbiter rfl)

theorem sceneApplyAnswer_keeps (scene fade : Nat) : AnswerKeeps (sceneApplyAnswer scene fade) := by
  refine ⟨fun s => ?_⟩
  unfold sceneApplyAnswer
  split
  · exact .refuse s _
  · exact .applyScene _ _ s

theorem lightModeAnswer_keeps (mode first last : Nat) : AnswerKeeps (lightModeAnswer mode first last) := by
  refine ⟨fun s => ?_⟩
  unfold lightModeAnswer
  split
  · exact .refuse s _
  · dsimp only
    split
    · exact .refuse s _
    · split
      · exact .refl s
      · exact .setLightMode _ _ _ s

/-! ## Dispatch (R168, R169) -/

/-- A request keeps the queue: those that queue, stop or start something by the lemmas above, and the rest do not touch the
arbiter. -/
theorem KeepsQueue.runRequest (i : Instr) (s : State) : KeepsQueue s (runRequest i s) := by
  cases i
  case playTune => exact .takeRequest (playTuneAnswer_keeps _ _ _ _ _) _ _ s
  case toll => exact .takeRequest (tollAnswer_keeps _ _ _ _ _ _ _ _) _ _ s
  case touchStart => exact .takeRequest (touchStartAnswer_keeps _ _ _ _ _ _ _ _) _ _ s
  case hush => exact .takeRequest (hushAnswer_keeps _) _ _ s
  case clockstrikeConfig => exact .takeRequest (clockStrikeConfigAnswer_keeps _ _ _ _) _ _ s
  case silenceWrite => exact .takeRequest (silenceWriteAnswer_keeps _ _ _ _ _ _) _ _ s
  case modeSetMaintenance => exact .takeRequest modeMaintenanceAnswer_keeps _ _ s
  case modeSetRun => exact .takeRequest modeRunAnswer_keeps _ _ s
  case timeSet => exact .takeRequest (timeSetAnswer_keeps _ _ _ _) _ _ s
  case zoneSet => exact .takeRequest (zoneSetAnswer_keeps _) _ _ s
  case faultClearHammer => exact .takeRequest (faultClearHammerAnswer_keeps _) _ _ s
  case faultClearSwing => exact .takeRequest (faultClearSwingAnswer_keeps _) _ _ s
  case hammerConfig => exact .takeRequest (hammerConfigAnswer_keeps _ _ _ _ _) _ _ s
  case testStroke => exact .takeRequest (testStrokeAnswer_keeps _ _) _ _ s
  case swingStart => exact .takeRequest (swingStartAnswer_keeps _ _ _) _ _ s
  case swingStop => exact .takeRequest (swingStopAnswer_keeps _) _ _ s
  case swingProgramStart => exact .takeRequest (programStartAnswer_keeps _ _) _ _ s
  case allowanceSet => exact .takeRequest (allowanceSetAnswer_keeps _) _ _ s
  case circuitConfig => exact .takeRequest (circuitConfigAnswer_keeps _ _ _ _) _ _ s
  case sceneApply => exact .takeRequest (sceneApplyAnswer_keeps _ _) _ _ s
  case lightMode => exact .takeRequest (lightModeAnswer_keeps _ _ _) _ _ s
  case unknownKind =>
    exact .ite (.refl s) (.takeRequest ⟨fun s => .refuse s _⟩ _ _ s)
  case identify | timeRead | queueRead | timerRead | clockstrikeRead | silenceRead | touchRead | allowanceRead | lightRead
      | reset | strikeQueueRead =>
    exact .takeRequest (.of_arbiter fun s => rfl) _ _ s
  case linkStats | noticeMask | noticeClear | scoreWindow | scoreWrite =>
    refine .takeRequest (.of_arbiter fun s => ?_) _ _ s
    simp only [linkStatsAnswer, noticeMaskAnswer, noticeClearAnswer, scoreWindowAnswer, scoreWriteAnswer]
    repeat' split
    all_goals simp only [accept, Machine.refuse, withLink_arbiter, withWindow_arbiter, closeStream_arbiter]
  case noticeRead | faultClearDial | referenceSet | classWrite | weekdayWrite | calendarWrite | calendarDelete | calendarRead
      | timerStart | timerStop | dialConfig | dialHold | dialSetPosition | dialRelease | dialRead | scoreRead | scoreProtect
      | tuneWrite | tuneClear | tuneRead | chimeWrite | chimeRead | hammerRead | methodWrite | methodClear | methodRead
      | swingConfig | swingProgramWrite | swingProgramRead | swingRead | sceneWrite | sceneRead | duskWrite | duskRead
      | scheduleWrite | scheduleRead =>
    refine .takeRequest (.of_arbiter fun s => ?_) _ _ s
    simp only [noticeReadAnswer, faultClearDialAnswer, referenceSetAnswer, classWriteAnswer, weekdayWriteAnswer,
      calendarWriteAnswer, calendarDeleteAnswer, calendarReadAnswer, timerStartAnswer, timerStopAnswer, dialConfigAnswer,
      dialHoldAnswer, dialSetPositionAnswer, dialReleaseAnswer, dialReadAnswer, scoreReadAnswer, scoreProtectAnswer,
      tuneWriteAnswer, tuneClearAnswer, tuneReadAnswer, chimeWriteAnswer, chimeReadAnswer, hammerReadAnswer,
      methodWriteAnswer, methodClearAnswer, methodReadAnswer, swingConfigAnswer, programWriteAnswer, programReadAnswer,
      swingReadAnswer, sceneWriteAnswer, sceneReadAnswer, duskWriteAnswer, duskReadAnswer, scheduleWriteAnswer,
      scheduleReadAnswer]
    repeat' split
    all_goals rfl
  all_goals exact .refl s

/-! ## Received bytes (R167) -/

theorem KeepsQueue.takeFrame (l : Link) (kind tag : Nat) (payload : List Byte) (s : State) :
    KeepsQueue s (takeFrame l kind tag payload s) := by
  have answered (kind : Nat) {answer : State → Answer} (h : ∀ s, (answer s).state = s) (s : State) :
      KeepsQueue s (answerFrame { link := l, tag := tag } kind answer s) :=
    .takeRequest (.of_arbiter fun s => by rw [h, closeStream_arbiter]) _ kind s
  have badValue (s : State) : (badValueAnswer kind s).state = s := by
    unfold badValueAnswer
    split <;> rfl
  cases hd : decodeRequest { link := l, tag := tag } kind payload with
  | unknown =>
    rw [takeFrame_of_unknown hd]
    exact answered kind (fun s => rfl) s
  | badLength =>
    rw [takeFrame_of_badLength hd]
    exact answered kind (fun s => rfl) s
  | badValue =>
    rw [takeFrame_of_badValue hd]
    exact answered kind badValue s
  | request i =>
    rw [takeFrame_of_request hd]
    exact .runRequest i s

theorem KeepsQueue.takeBytes (l : Link) (fuel : Nat) (bytes : List Byte) (s : State) :
    KeepsQueue s (takeBytes l fuel bytes s) := by
  induction fuel generalizing bytes s with
  | zero => exact .refl s
  | succ fuel ih =>
    cases bytes with
    | nil => exact .refl s
    | cons b rest =>
      have hunting : KeepsQueue s (toHunt l s) := .of_arbiter (withReceiver_arbiter s l _)
      unfold Machine.takeBytes
      split
      · exact (KeepsQueue.of_arbiter (withReceiver_arbiter s l _)).trans (ih _ _)
      · exact (hunting.trans (.takeFrame l _ _ _ _)).trans (ih _ _)
      · exact (hunting.trans (.of_arbiter (countError_arbiter _ l _))).trans (ih _ _)

theorem KeepsQueue.receiveByte (l : Link) (b : Byte) (s : State) : KeepsQueue s (receiveByte l b s) :=
  (KeepsQueue.of_arbiter (withReceiver_arbiter s l _)).trans (.takeBytes l _ _ _)

/-! ## Events -/

theorem KeepsQueue.whenOperating {f : State → State} (h : ∀ s, KeepsQueue s (f s)) (s : State) :
    KeepsQueue s (whenOperating f s) := .ite (h s) (.refl s)

/-- An event that acts when it is due. -/
theorem KeepsQueue.whenDue {due : State → Bool} {f : State → State} (h : ∀ s, KeepsQueue s (f s)) (s : State) :
    KeepsQueue s (Machine.whenOperating (fun s => if due s then f s else s) s) :=
  .whenOperating (fun s => .ite (h s) (.refl s)) s

/-- The hammer's event, where it does not touch the arbiter. -/
theorem KeepsQueue.hammerEvent_of {f : State → State × Option HammerAnswer} (b : Nat) (h : ∀ s, (f s).1.arbiter = s.arbiter)
    (s : State) : KeepsQueue s (Machine.hammerEvent b f s) := .hammerEvent (.of_arbiter (h s))

theorem dialFollow_arbiter (c : Nat) (s : State) : (dialFollow c s).arbiter = s.arbiter := by
  unfold dialFollow
  dsimp only
  split <;> rfl

theorem datumCheck_arbiter (c : Nat) (datum : Bool) (s : State) : (datumCheck c datum s).arbiter = s.arbiter := by
  unfold datumCheck
  dsimp only
  repeat' split
  all_goals rfl

theorem dialImpulseComplete_arbiter (c : Nat) (datum : Bool) (s : State) :
    (dialImpulseComplete c datum s).arbiter = s.arbiter := by
  unfold dialImpulseComplete
  dsimp only
  rw [settleDial_arbiter, datumCheck_arbiter, withDial_arbiter]

theorem KeepsQueue.stepFade (c : Nat) (s : State) : KeepsQueue s (stepFade c s) := by
  unfold Machine.stepFade
  split
  · exact .settled (watchLoad_arbiter rfl)
  · exact .refl s

theorem KeepsQueue.clockEventBuild (s : State) :
    KeepsQueue s (match nextBuild s with | some e => Machine.buildEvent e s | none => s) := by
  split
  · exact .buildEvent _ s
  · exact .refl s

theorem KeepsQueue.dueStart (id : Nat) (s : State) :
    KeepsQueue s (match findPerf s id with | some p => if p.startDue s.now then Machine.startTest p s else s | none => s) := by
  split
  · rename_i p hp
    exact .ite (.startTest (findPerf_mem hp).1) (.refl s)
  · exact .refl s

theorem KeepsQueue.deadline (id : Nat) (s : State) : KeepsQueue s
    (match findPerf s id with | some p => if p.deadlineDue s.now then Machine.omitPerf p .late .whole s else s | none => s) := by
  split
  · exact .ite (.omitPerf _ _ _ s) (.refl s)
  · exact .refl s

theorem KeepsQueue.rowEmission (s : State) : KeepsQueue s
    (match activePerf s with | some p => if emissible s p then Machine.emitRow p s else s | none => s) := by
  split
  · exact .ite (.emitRow _ s) (.refl s)
  · exact .refl s

theorem KeepsQueue.replySent (l : Link) (s : State) : KeepsQueue s
    (match (s.link l).reply with
      | none => s
      | some r =>
        if r.restarts then restart .resetRequest (s.withLink l { s.link l with reply := none })
        else s.withLink l { s.link l with reply := none }) := by
  split
  · exact .refl s
  · exact .ite ⟨fun _ => restart_queueOk _ _⟩ (.of_arbiter (withLink_arbiter s l _))

theorem KeepsQueue.rangeEnd (s : State) : KeepsQueue s
    (if rangeEndDue s then
      if s.power.operating then Machine.reachEnd { s with elapsed := s.elapsed + 1 } else stopAtEnd { s with elapsed := s.elapsed + 1 }
    else s) :=
  .ite (.ite (KeepsQueue.reachEnd _).after (.of_arbiter rfl)) (.refl s)

/-- Every command keeps the queue. -/
theorem KeepsQueue.exec {i : Instr} {s t : State} (h : exec i s = .next t) : KeepsQueue s t := by
  cases hd : headerOf i with
  | some hdr =>
    rw [exec_of_header hd] at h
    cases h
    exact .runRequest i s
  | none =>
    cases i
    case receiveByte l b => cases h; exact .whenOperating (.receiveByte l b) s
    case receiveTimeout l =>
      cases h
      exact .whenDue (fun s => .of_arbiter ((countError_arbiter _ l _).trans (withReceiver_arbiter s l _))) s
    case replySent l => cases h; exact .whenOperating (.replySent l) s
    case chamberKeyChange => cases h; exact .of_arbiter rfl
    case slewSecondAdjust => cases h; exact .whenDue .adjustSecond s
    case rangeEnd => cases h; exact .rangeEnd s
    case dayClassRenewal => cases h; exact .whenOperating (fun s => .of_arbiter (renewIfDue_arbiter s)) s
    case referencePulse => cases h; exact .whenOperating .referencePulse s
    case referenceGap =>
      cases h
      refine .whenDue (fun _ => .of_arbiter ?_) s
      rfl
    case timerExpired n => cases h; exact .whenDue (.expireTimer n) s
    case dialTargetChange c => cases h; exact .whenDue (fun s => .of_arbiter (dialFollow_arbiter c s)) s
    case dialImpulseStart =>
      cases h
      refine .whenDue (fun _ => .of_arbiter ?_) s
      rfl
    case dialImpulseEnd c datum => cases h; exact .whenDue (fun s => .of_arbiter (dialImpulseComplete_arbiter c datum s)) s
    case dialDriverFault =>
      cases h
      refine .whenDue (fun _ => .of_arbiter ?_) s
      rfl
    case clockEventBuild => cases h; exact .whenOperating .clockEventBuild s
    case dueStart id => cases h; exact .whenOperating (.dueStart id) s
    case performanceDeadline id => cases h; exact .whenOperating (.deadline id) s
    case rowEmission => cases h; exact .whenOperating .rowEmission s
    case strikeEntryTaken => cases h; exact .whenDue .takeEntry s
    case hammerPulseEnd b faultInput => cases h; exact .whenDue (fun s => .hammerEvent (.hammerPulseEnded b faultInput s)) s
    case hammerRecoveryEnd b => cases h; exact .whenOperating (fun s => .of_arbiter (endRecovery_arbiter b s)) s
    case hammerConfirmAsserted b => cases h; exact .ite (.hammerEvent_of b (confirmAsserted_arbiter b) s) (.of_arbiter rfl)
    case hammerConfirmCleared b => cases h; exact .ite (.hammerEvent_of b (confirmCleared_arbiter b) s) (.of_arbiter rfl)
    case withdrawConfirmTimeout b => cases h; exact .whenDue (.hammerEvent_of b fun _ => rfl) s
    case engageClearTimeout b => cases h; exact .whenDue (.hammerEvent_of b fun _ => rfl) s
    case staggerEnd c => cases h; exact .whenDue (.endStagger c) s
    case raiseRefused => cases h; exact .whenDue .refuseHead s
    case passPulse c d => cases h; exact .whenDue (fun s => (KeepsQueue.passPulse c d s).trans (.settleLoad _)) s
    case arcPulse c => cases h; exact .whenDue (fun s => .of_arbiter (arcPulse_arbiter c s)) s
    case drivePulseEnd c => cases h; exact .whenDue (fun s => .of_arbiter (endDrive_arbiter c s)) s
    case raiseNoPass =>
      cases h
      refine .whenDue (fun _ => .of_arbiter ?_) s
      rfl
    case raiseLimitEnd c => cases h; exact .whenDue (.lowerSwing c .raiseTimeout) s
    case swingPassWatchEnd c => cases h; exact .whenDue (fun s => .settled (enterFault_arbiter c _ s)) s
    case durationEnd c => cases h; exact .whenDue (.lowerSwing c .duration) s
    case loweringPassWatchEnd c => cases h; exact .whenOperating (KeepsQueue.settleLowered · c) s
    case settleWatchEnd c => cases h; exact .whenDue (fun s => (KeepsQueue.enterRestoring c _ s).trans (.settleLoad _)) s
    case fadeStep c => cases h; exact .whenDue (.stepFade c) s
    case scheduleEvaluation => cases h; exact .whenDue (fun _ => (KeepsQueue.evaluateAt _ _).after) s
    case putaway => cases h; exact .ite (.of_arbiter rfl) (.refl s)
    case supplyRecovered => cases h; exact .ite (KeepsQueue.restartIfFree _ _).after (.refl s)
    case supplyLost => cases h; exact .ite (.of_arbiter rfl) (.refl s)
    case powerUp => cases h; exact .ite (.refl s) (KeepsQueue.restartIfFree _ _).after
    case resetLineAssert => cases h; exact .of_arbiter (by split <;> rfl)
    case resetLineRelease => cases h; exact .ite (KeepsQueue.restartIfFree _ _).after (.refl s)
    all_goals cases hd

/-- Settles O27: every operation of the model keeps the queue, so every command does, whether it waits at the front of the
list of commands or is what the passing of time brings; and the count of a millisecond does not touch the arbiter. -/
theorem performanceQueueStaysInOrder : Obligations.PerformanceQueueStaysInOrder := by
  intro s t hq hstep
  unfold step at hstep
  split at hstep
  · rename_i c rest _
    exact (KeepsQueue.exec hstep).keeps (queueOk_congr (t := { s with pending := rest }) rfl hq)
  · split at hstep
    · exact (KeepsQueue.exec hstep).keeps hq
    · cases hstep
      exact queueOk_congr (countMs_arbiter s) hq

end Sys2Proof.Machine

/-! SUPPORT. QUEUE-READ, the settings of the clock strike and of the silence table, and when a class is silenced; the settled
O30. -/

namespace Sys2Proof.Machine

open Sys2Proof

/-! ## Tables as lists -/

theorem toList_eq_map_slot {α : Type} {n : Nat} [Inhabited α] (v : Vector α n) : v.toList = (List.range n).map (slot v) := by
  apply List.ext_getElem
  · simp
  · intro i h1 h2
    simp only [Vector.length_toList] at h1
    simp [slot, h1]

/-! ## Silence (R70, R71) -/

/-- A window that begins before it ends, one that runs over midnight, and one of equal ends (R70). -/
theorem Silence.holds_iff (e : Silence) (m : Nat) : e.holds m = true ↔
    e.start < e.stop ∧ e.start ≤ m ∧ m < e.stop ∨ e.stop < e.start ∧ (e.start ≤ m ∨ m < e.stop) ∨ e.start = e.stop := by
  unfold Silence.holds
  split
  · rw [decide_eq_true_iff]
    omega
  · split
    · rw [decide_eq_true_iff]
      omega
    · rw [eq_self, true_iff]
      omega

theorem Silence.silences_iff (e : Silence) (k : SilenceClass) (m d : Nat) : e.silences k m d = true ↔
    e.enable = true ∧ e.classes.getLsbD d = true ∧ e.silenced.getLsbD k.bit = true ∧ e.holds m = true := by
  simp only [Silence.silences, Bool.and_eq_true]
  tauto

theorem tableSilences_iff (s : State) (k : SilenceClass) (m d : Nat) : tableSilences s k m d = true ↔
    ∃ n, n ≤ 15 ∧ (slot s.arbiter.silence n).silences k m d = true := by
  simp only [tableSilences, toList_eq_map_slot, List.any_map, List.any_eq_true, List.mem_range, Function.comp_apply,
    Nat.lt_succ_iff]

theorem timersSilence_iff (s : State) (k : SilenceClass) : timersSilence s k = true ↔
    ∃ n, (n = 1 ∨ n = 2) ∧ (s.timer n).ends.isSome = true ∧ (s.timer n).mask.getLsbD k.bit = true := by
  have two (n : Nat) : n ∈ numbers 1 2 ↔ n = 1 ∨ n = 2 := by
    rw [mem_numbers]
    omega
  simp only [timersSilence, toList_eq_map_nth, List.any_map, List.any_eq_true, two, Function.comp_apply, Bool.and_eq_true,
    State.timer]

/-- R70, R71: a class is silenced by an entry of the table or by a RUNNING timer. -/
theorem silenced_iff (s : State) (k : SilenceClass) (m d : Nat) : silenced s k m d = true ↔
    (∃ n, n ≤ 15 ∧ (slot s.arbiter.silence n).silences k m d = true)
      ∨ ∃ n, (n = 1 ∨ n = 2) ∧ (s.timer n).ends.isSome = true ∧ (s.timer n).mask.getLsbD k.bit = true := by
  rw [silenced, Bool.or_eq_true, tableSilences_iff, timersSilence_iff]

/-! ## Requests (R66, R67, R70) -/

theorem clamp_eq (lo hi x : Nat) : clamp lo hi x = max lo (min hi x) := rfl

@[simp] theorem closed_touch (h : Header) (s : State) : (closed h s).touch = s.touch := closeStream_touch _ _

theorem slipLimit_closed (h : Header) (s : State) (p : Perf) : slipLimit (closed h s) p = slipLimit s p := by
  unfold slipLimit
  simp only [closed_touch]

theorem queueReadAnswer_closed (h : Header) (s : State) : queueReadAnswer (closed h s) = accept (closed h s)
    (.queue (s.arbiter.queue.map (fun p => (p, slipLimit s p, if p.cls = .touch then some s.touch.method else none)))
      s.arbiter.nextId (8 - s.arbiter.queue.length)) := by
  simp only [queueReadAnswer, closed_arbiter, closed_touch, slipLimit_closed, Config.queuePlaces, beq_iff_eq]

theorem clockStrikeConfigAnswer_accepted {bell : Nat} (hb : 1 ≤ bell ∧ bell ≤ 24) (strength interval gap : Nat) (s : State) :
    let c : ClockStrike :=
      { bell := bell, strength := max 1 (min 3 strength), interval := max 1000 (min 6000 interval), gap := min 10000 gap }
    clockStrikeConfigAnswer bell strength interval gap s
      = accept { s with arbiter := { s.arbiter with clockStrike := c } } (.clockStrike c) := by
  have inside : within 1 24 bell = true := (within_iff 1 24 bell).mpr hb
  simp only [clockStrikeConfigAnswer, inside, clamp_zero, clamp_eq 1, clamp_eq 1000]
  rfl

theorem silenceWriteAnswer_accepted {entry classes silenced : Nat} (on : Bool) (start stop : Nat) (he : entry ≤ 15)
    (hc : classes < 256) (hs : silenced < 64) (s : State) :
    silenceWriteAnswer entry on.toNat start stop classes silenced s
      = accept
        { s with
          arbiter :=
            { s.arbiter with
              silence := setSlot s.arbiter.silence entry
                { enable := on, start := min 1439 start, stop := min 1439 stop, classes := BitVec.ofNat 8 classes
                  silenced := BitVec.ofNat 6 silenced } } } .none := by
  have inside : within 0 15 entry = true := (within_iff 0 15 entry).mpr ⟨Nat.zero_le _, he⟩
  simp only [silenceWriteAnswer, flag?_toNat, classMask?, silenceMask?, if_pos hc, if_pos hs, inside, clamp_zero]
  rfl

/-- An entry that is none of the table's, and a mask of more than the six classes, are refused (R70, R185). -/
theorem silenceWriteAnswer_refused {entry silenced : Nat} (bad : 15 < entry ∨ 63 < silenced) (enable start stop classes : Nat)
    (s : State) : silenceWriteAnswer entry enable start stop classes silenced s = refuse s .badValue := by
  unfold silenceWriteAnswer
  split
  · rename_i on cs ks _ _ hk
    have fits : silenced < 64 := by
      by_contra hge
      simp [silenceMask?, hge] at hk
    have outside : within 0 15 entry = false := by
      rw [Bool.eq_false_iff, Ne, within_iff]
      omega
    simp only [outside]
    rfl
  · rfl

/-- Settles O30, request by request, and with `silenced_iff`. -/
theorem settingsAndSilence : Obligations.SettingsAndSilence := by
  refine ⟨fun h s ht => ⟨?queueRead, ?config, ?configRead, ?write, ?refused, ?read⟩, fun s k m d => ?silenced⟩
  case queueRead => exact answers_of_accept ht (by decide) rfl (queueReadAnswer_closed h s)
  case config =>
    intro bell strength interval gap lo hi
    refine answers_of_accept ht (by decide) rfl ?_
    rw [clockStrikeConfigAnswer_accepted ⟨lo, hi⟩, closed_arbiter]
  case configRead =>
    refine answers_of_accept ht (by decide) rfl ?_
    rw [clockStrikeReadAnswer, closed_arbiter]
  case write =>
    intro entry on start stop classes silenced he hc hs
    refine ⟨setSlot s.arbiter.silence entry _, answers_of_accept ht (by decide) rfl ?_,
      slot_setSlot_self _ _ _ (Nat.lt_succ_of_le he), fun e hne => slot_setSlot_ne _ _ _ _ hne.symm⟩
    rw [silenceWriteAnswer_accepted on start stop he hc hs, closed_arbiter]
  case refused =>
    intro entry on start stop classes silenced bad
    exact answers_of_refuse ht (by decide) rfl (silenceWriteAnswer_refused bad _ _ _ _ _)
  case read =>
    refine answers_of_accept ht (by decide) rfl ?_
    rw [silenceReadAnswer, closed_arbiter, toList_eq_map_slot]
  case silenced =>
    simp only [silenced_iff, Silence.silences_iff, Silence.holds_iff]

end Sys2Proof.Machine

/-! SUPPORT. One performance of the queue changed, a performance that goes on, and the booking of one stroke; the settled O32. -/

namespace Sys2Proof.Machine

open Sys2Proof

/-! ## One performance changed -/

/-- Two changes of the performance of an id, one after the other. -/
theorem updatePerf_updatePerf {id : Nat} {f : Perf → Perf} (hf : ∀ p, (f p).id = p.id) (g : Perf → Perf) (s : State) :
    updatePerf id g (updatePerf id f s) = updatePerf id (g ∘ f) s := by
  have both : (s.arbiter.queue.map (fun p => if p.id == id then f p else p)).map (fun p => if p.id == id then g p else p)
      = s.arbiter.queue.map (fun p => if p.id == id then (g ∘ f) p else p) := by
    rw [List.map_map]
    refine List.map_congr_left fun p _ => ?_
    by_cases hp : p.id = id
    · simp [hp, hf]
    · simp [hp]
  exact congrArg (fun q => ({ s with arbiter := { s.arbiter with queue := q } } : State)) both

theorem updatePerf_raise (id : Nat) (f : Perf → Perf) (d : Detail) (s : State) :
    updatePerf id f (raise d s) = raise d (updatePerf id f s) := rfl

/-- A change of the performance of an id is told by what it makes of that performance. -/
theorem updatePerf_eq {s : State} (h : (s.arbiter.queue.map (·.id)).Nodup) {p : Perf} (hp : p ∈ s.arbiter.queue)
    {f g : Perf → Perf} (hfg : f p = g p) : updatePerf p.id f s = { s with
      arbiter := { s.arbiter with queue := s.arbiter.queue.map (fun x => if x.id = p.id then g x else x) } } :=
  congrArg (fun q => ({ s with arbiter := { s.arbiter with queue := q } } : State)) (map_eq_of_mem h hp hfg)

/-- A performance that has not ended goes on (R77). -/
theorem checkEnd_of_unfinished {s : State} (h : (s.arbiter.queue.map (·.id)).Nodup) {p : Perf} (hp : p ∈ s.arbiter.queue)
    (hf : finished s p = false) : checkEnd s p.id = s := by
  simp only [checkEnd, findPerf_of_mem h hp, hf, Bool.and_false, Bool.false_eq_true, if_false]

/-! ## One stroke (R87 to R89) -/

/-- The slip of a stroke's actuation behind the one wanted (R87). -/
def slipOf (s : State) (k : Stroke) : Int := actuationFor s k - wantedActuation s k

/-- The entry a stroke of a performance's row is booked as (R85, R87). -/
def entryOf (p : Perf) (row : Nat) (s : State) (k : Stroke) : Entry :=
  { bell := k.bell.toNat, actuation := actuationFor s k, strike := actuationFor s k + ((s.hammer k.bell.toNat).lead : Int)
    pulse := pulseWidth (s.hammer k.bell.toNat).width k.strength, id := p.id, row := row, cls := p.cls, strength := k.strength
    wanted := k.wanted }

section OneStroke
variable {p : Perf} {row limit : Nat} {s : State} {k : Stroke} (hk : k.inRange = true)
include hk

theorem bookStroke_of_booked (hu : (s.hammer k.bell.toNat).usable = true) (hs : slipOf s k ≤ (limit : Int)) :
    bookStroke p row limit s k = updatePerf p.id (fun p => { p with booked := countUp 65535 p.booked })
      { s with strikes := insertEntry (entryOf p row s k) s.strikes } := by
  have inTime : ¬limit < (actuationFor s k - wantedActuation s k).toNat := by
    rw [slipOf] at hs
    omega
  simp only [bookStroke, hk, hu, Bool.not_true, Bool.false_eq_true, if_false, if_neg inTime]
  rfl

theorem bookStroke_of_late (hu : (s.hammer k.bell.toNat).usable = true) (hs : (limit : Int) < slipOf s k) :
    bookStroke p row limit s k = dropStroke p.id p.cls row k.bell k.strength .late k.wanted (slipOf s k).toNat s := by
  have late : limit < (actuationFor s k - wantedActuation s k).toNat := by
    rw [slipOf] at hs
    omega
  simp only [bookStroke, hk, hu, Bool.not_true, Bool.false_eq_true, if_false, if_pos late]
  rfl

theorem bookStroke_of_unusable (hu : (s.hammer k.bell.toNat).usable = false) : bookStroke p row limit s k
    = dropStroke p.id p.cls row k.bell k.strength (s.hammer k.bell.toNat).dropReason k.wanted 0 s := by
  simp only [bookStroke, hk, hu, Bool.not_true, Bool.not_false, Bool.false_eq_true, if_false, if_true]

end OneStroke

/-! ## A toll's row (R65) -/

section Toll
variable {s : State} {p : Perf} {bell strength interval count : Nat} {flag : Bool} {origin : Int}

/-- The stroke of a toll at its cursor. -/
def tollStroke (p : Perf) (bell strength interval : Nat) (origin : Int) : Stroke :=
  { bell := bell, strength := strength, wanted := origin + ((p.cursor * interval : Nat) : Int) }

theorem tollStroke_inRange (hb : 1 ≤ bell ∧ bell ≤ 24) : (tollStroke p bell strength interval origin).inRange = true := by
  rw [Stroke.inRange, decide_eq_true_iff]
  show (1 : Int) ≤ (bell : Int) ∧ (bell : Int) ≤ 24
  omega

variable (hsrc : p.source = .toll bell strength interval count flag) (hor : p.origin = some origin)
  (hb : 1 ≤ bell ∧ bell ≤ 24)
include hsrc hor

theorem rowAt_toll : rowAt s p = singleStroke p.cursor bell strength (tollStroke p bell strength interval origin).wanted := by
  simp only [rowAt, hsrc, hor, Option.getD_some]
  rfl

include hb

/-- A toll's stroke may be emitted from 1,500 ms before its wanted actuation on (R86). -/
theorem emissible_toll (hact : p.state = .active) (hcur : p.cursor < count) (hstop : p.stopped = none)
    (hheld : heldBack s p = false) (hroom : s.strikes.length < 48)
    (hahead : wantedActuation s (tollStroke p bell strength interval origin) ≤ s.now + 1500) : emissible s p = true := by
  have one : (rowAt s p).strokes.filter (·.inRange) = [tollStroke p bell strength interval origin] := by
    rw [rowAt_toll hsrc hor]
    exact List.filter_cons_of_pos (tollStroke_inRange hb)
  have left : remains s p = true := by simp [remains, hsrc, hcur]
  have ahead : earliestWanted s (rowAt s p) ≤ s.now + Config.lookahead := by
    rw [earliestWanted, one]
    exact hahead
  have room : ((rowAt s p).strokes.filter (·.inRange)).length + s.strikes.length ≤ Config.strikePlaces := by
    rw [one, List.length_singleton, Config.strikePlaces]
    omega
  simp [emissible, hact, hstop, left, hheld, ahead, room]

/-- A toll's row is its one stroke. -/
theorem emitRow_toll : emitRow p s = checkEnd (updatePerf p.id Perf.advance
    (bookStroke p p.cursor (interval / 4) s (tollStroke p bell strength interval origin))) p.id := by
  have plain : (p.cls == .touch) = false := by simp [Perf.cls, hsrc, Source.cls]
  have limit : slipLimit s p = interval / 4 := by simp [slipLimit, hsrc]
  have inside := tollStroke_inRange (p := p) (strength := strength) (interval := interval) (origin := origin) hb
  have order : (rowAt s p).strokes.filter (fun k => !k.inRange) ++ (rowAt s p).strokes.filter (·.inRange)
      = [tollStroke p bell strength interval origin] := by
    rw [rowAt_toll hsrc hor]
    show [tollStroke p bell strength interval origin].filter _ ++ [tollStroke p bell strength interval origin].filter _ = _
    simp [inside]
  simp only [emitRow, plain, order, limit, Bool.false_eq_true, if_false, List.foldl_cons, List.foldl_nil]
  rw [rowAt_toll hsrc hor]
  rfl

end Toll

/-- A toll with strokes left to offer has not ended (R77). -/
theorem unfinished_toll {s : State} {p : Perf} {bell strength interval count : Nat} {flag : Bool}
    (hsrc : p.source = .toll bell strength interval count flag) (hcur : p.cursor < count) (hstop : p.stopped = none) :
    finished s p = false := by
  simp [finished, remains, hsrc, hcur, hstop]

theorem Perf.advance_toll {p : Perf} {bell strength interval count : Nat} {flag : Bool}
    (hsrc : p.source = .toll bell strength interval count flag) : p.advance = { p with cursor := p.cursor + 1 } := by
  simp only [Perf.advance, hsrc]

/-- A toll whose cursor has moved on, with strokes left to offer, goes on (R77). -/
theorem checkEnd_toll {s t : State} {p : Perf} {bell strength interval count : Nat} {flag : Bool} {g : Perf → Perf}
    (hids : (s.arbiter.queue.map (·.id)).Nodup) (hp : p ∈ s.arbiter.queue)
    (hsrc : p.source = .toll bell strength interval count flag) (hcur : p.cursor + 1 < count) (hstop : p.stopped = none)
    (ht : t.arbiter.queue = s.arbiter.queue.map (fun y => if y.id = p.id then g y else y))
    (hid : ∀ x, (g x).id = x.id := by intro x; rfl) (hgs : (g p).source = p.source := by rfl)
    (hgc : (g p).cursor = p.cursor + 1 := by rfl) (hgstop : (g p).stopped = p.stopped := by rfl) : checkEnd t p.id = t := by
  have same : t.arbiter.queue.map (·.id) = s.arbiter.queue.map (·.id) := by
    rw [ht, List.map_map]
    refine List.map_congr_left fun x _ => ?_
    rw [Function.comp_apply]
    split
    · exact hid x
    · rfl
  have mem : g p ∈ t.arbiter.queue := by
    rw [ht]
    exact List.mem_map.mpr ⟨p, hp, if_pos rfl⟩
  have unfinished : finished t (g p) = false :=
    unfinished_toll (hgs.trans hsrc) (by rw [hgc]; exact hcur) (hgstop.trans hstop)
  rw [← hid p]
  exact checkEnd_of_unfinished (by rw [same]; exact hids) mem unfinished

/-- Settles O32. The toll's row is one stroke, booked or dropped by `bookStroke_of_booked`, `bookStroke_of_late` and
`bookStroke_of_unusable`; as it is not the toll's last, the toll goes on with its cursor moved. -/
theorem tollStrokeEmitted : Obligations.TollStrokeEmitted := by
  intro s p bell strength interval count flag origin ho hq hp hact hsrc hor hcur hstop hheld lo hi hroom hm wanted floor a slip
    moves dropped hahead
  obtain ⟨fits, -⟩ := (queueOk_iff s).mp hq
  let k := tollStroke p bell strength interval origin
  have hb : 1 ≤ bell ∧ bell ≤ 24 := ⟨lo, hi⟩
  have inside : k.inRange = true := tollStroke_inRange hb
  have actuation : actuationFor s k = a := by
    show (match bookedUntil s bell with | some b => max floor b | none => floor) = _
    cases hbk : bookedUntil s bell <;> simp only [a, hbk]
  have hslip : slipOf s k = slip := by rw [slipOf, actuation]; rfl
  have hcls : p.cls = .toll := by simp [Perf.cls, hsrc, Source.cls]
  have active : activePerf s = some p := activePerf_eq hq.2.2.2.2.2.2.1 hp hact
  have run : exec .rowEmission s
      = .next (checkEnd (updatePerf p.id Perf.advance (bookStroke p p.cursor (interval / 4) s k)) p.id) := by
    rw [← emitRow_toll hsrc hor hb]
    show Host.Outcome.next (whenOperating _ s) = _
    rw [whenOperating_true _ _ ho, active]
    simp only [emissible_toll hsrc hor hb hact (Nat.lt_of_succ_lt hcur) hstop hheld hroom hahead, if_true]
  -- The count and the cursor change together, and the toll goes on.
  have moved (f g : Perf → Perf) (hf : ∀ x, (f x).id = x.id) (hfg : (f p).advance = g p) (t : State)
      (ht : t.arbiter = s.arbiter) : updatePerf p.id Perf.advance (updatePerf p.id f t) = moves g t := by
    rw [updatePerf_updatePerf hf]
    exact updatePerf_eq (by rw [ht]; exact fits.ids) (by rw [ht]; exact hp) hfg
  have drops (r : DropReason) (n : Nat) : checkEnd (updatePerf p.id Perf.advance
      (dropStroke p.id p.cls p.cursor k.bell k.strength r k.wanted n s)) p.id = dropped r n := by
    have count := moved (fun x => { x with dropped := countUp 65535 x.dropped })
      (fun y => { y with dropped := min 65535 (y.dropped + 1), cursor := y.cursor + 1 }) (fun _ => rfl)
      (Perf.advance_toll hsrc) s rfl
    rw [dropStroke, updatePerf_raise, count, hcls]
    exact checkEnd_toll (g := fun y => { y with dropped := min 65535 (y.dropped + 1), cursor := y.cursor + 1 })
      fits.ids hp hsrc hcur hstop rfl
  refine ⟨fun hu hs => ?_, fun hu hs => ?_, fun hu => ?_⟩
  · have count := moved (fun x => { x with booked := countUp 65535 x.booked })
      (fun y => { y with booked := min 65535 (y.booked + 1), cursor := y.cursor + 1 }) (fun _ => rfl)
      (Perf.advance_toll hsrc) { s with strikes := insertEntry (entryOf p p.cursor s k) s.strikes } rfl
    rw [run, bookStroke_of_booked inside hu (hslip ▸ hs), count,
      checkEnd_toll (g := fun y => { y with booked := min 65535 (y.booked + 1), cursor := y.cursor + 1 })
        fits.ids hp hsrc hcur hstop rfl, entryOf, actuation, hcls]
    rfl
  · rw [run, bookStroke_of_late inside hu (hslip ▸ hs), drops, hslip]
  · rw [run, bookStroke_of_unusable inside hu, drops]
    have reason : hm.dropReason = if hm.fitted = false then .notFitted else if hm.state = .fault then .fault else .withdrawn := by
      simp [Hammer.dropReason]
    exact congrArg (fun r => Host.Outcome.next (dropped r 0)) reason

end Sys2Proof.Machine

/-! SUPPORT. Where the performances of the queue come from when the hammers are offered, and what taking the first strike
entry does; the settled O36. -/

namespace Sys2Proof.Machine

open Sys2Proof

/-! ## Where the performances of the queue come from -/

/-- Each performance of the queue was one of the queue before, stopped as it was then, and a clock event if it was one. -/
structure QueueFrom (s t : State) : Prop where
  origin : ∀ p ∈ t.arbiter.queue, ∃ q ∈ s.arbiter.queue, q.id = p.id ∧ q.stopped = p.stopped ∧ (q.isClock = true → p.isClock = true)

theorem QueueFrom.refl (s : State) : QueueFrom s s := ⟨fun p hp => ⟨p, hp, rfl, rfl, fun h => h⟩⟩

theorem QueueFrom.trans {s t u : State} (h : QueueFrom s t) (h' : QueueFrom t u) : QueueFrom s u := by
  refine ⟨fun p hp => ?_⟩
  obtain ⟨q, hq, hqid, hqstop, hqk⟩ := h'.origin p hp
  obtain ⟨r, hr, hrid, hrstop, hrk⟩ := h.origin q hq
  exact ⟨r, hr, hrid.trans hqid, hrstop.trans hqstop, hqk ∘ hrk⟩

theorem QueueFrom.foldl {α : Type} {f : State → α → State} (hf : ∀ s x, QueueFrom s (f s x)) (xs : List α) (s : State) :
    QueueFrom s (xs.foldl f s) := foldl_rel QueueFrom.refl QueueFrom.trans hf xs s

theorem QueueFrom.ite {s t u : State} {p : Prop} [Decidable p] (ht : QueueFrom s t) (hu : QueueFrom s u) :
    QueueFrom s (if p then t else u) := by
  split
  · exact ht
  · exact hu

theorem QueueFrom.of_arbiter {s t : State} (h : t.arbiter = s.arbiter) : QueueFrom s t := by
  constructor
  rw [h]
  exact (QueueFrom.refl s).origin

theorem QueueFrom.dropPerf (id : Nat) (s : State) : QueueFrom s (dropPerf id s) :=
  ⟨fun p hp => ⟨p, List.mem_of_mem_filter hp, rfl, rfl, fun h => h⟩⟩

theorem QueueFrom.updatePerf (id : Nat) {f : Perf → Perf} (s : State) (hid : ∀ p, (f p).id = p.id := by intro p; rfl)
    (hstop : ∀ p, (f p).stopped = p.stopped := by intro p; rfl)
    (hk : ∀ p, p.isClock = true → (f p).isClock = true := by intro p h; exact h) : QueueFrom s (updatePerf id f s) := by
  refine ⟨fun p hp => ?_⟩
  obtain ⟨q, hq, rfl⟩ := List.mem_map.mp hp
  refine ⟨q, hq, ?_⟩
  split
  · exact ⟨(hid q).symm, (hstop q).symm, hk q⟩
  · exact ⟨rfl, rfl, fun h => h⟩

theorem QueueFrom.endHold (was : Option Nat) (s : State) : QueueFrom s (endHold was s) := by
  unfold Machine.endHold
  split
  · exact .ite (.updatePerf _ s) (.refl s)
  · exact .refl s

theorem QueueFrom.leaveOmitted (p : Perf) (s : State) : QueueFrom s (leaveOmitted p s) :=
  ((QueueFrom.dropPerf p.id s).trans (.of_arbiter (serveEvent_arbiter p _))).trans (.endHold _ _)

theorem QueueFrom.omitted (p : Perf) (reason : OmitReason) (part : ClockPart) (s : State) :
    QueueFrom s (omitted p reason part s) := .of_arbiter rfl

theorem QueueFrom.omitPerf (p : Perf) (reason : OmitReason) (part : ClockPart) (s : State) :
    QueueFrom s (omitPerf p reason part s) :=
  ((((QueueFrom.of_arbiter (endTouch_arbiter p _ _ s)).trans (.omitted p reason part _)).trans (.dropPerf p.id _)).trans
    (.of_arbiter (serveEvent_arbiter p _))).trans (.endHold _ _)

theorem QueueFrom.startPlain (p : Perf) (s : State) : QueueFrom s (startPlain p s) := by
  have started : QueueFrom s (Machine.updatePerf p.id
      (fun p => { p with state := .active, tested := true, origin := some (s.now + Config.startAllowance) }) s) :=
    .updatePerf p.id s
  unfold Machine.startPlain
  exact .ite (started.trans (.of_arbiter rfl)) started

theorem QueueFrom.startClock (p : Perf) (event : Nat) (chime : Option ChimePart) (strike : Option StrikePart) (s : State) :
    QueueFrom s (startClock p event chime strike s) := by
  have started : QueueFrom s (Machine.updatePerf p.id (fun p => { p with
      state := .active, tested := true, source := .clock event chime strike, inStrike := chime.isNone }) s) :=
    .updatePerf p.id s (hk := fun _ _ => rfl)
  have moved := started.trans (.of_arbiter (moveMarker_arbiter event _))
  cases chime with
  | none => exact moved
  | some c => exact moved.trans (.of_arbiter (advanceChime_arbiter _ _ _))

theorem QueueFrom.arbitrateClock (p : Perf) (event : Nat) (chime : Option ChimePart) (strike : Option StrikePart)
    (part : ClockPart) (s : State) : QueueFrom s (arbitrateClock p event chime strike part s) := by
  unfold Machine.arbitrateClock
  split
  · exact .startClock p event chime strike s
  · have paused (id : Nat) : QueueFrom s (pause id s) := .updatePerf id s
    exact .ite ((paused _).trans (.startClock p event chime strike _)) (.omitPerf p _ _ s)

theorem QueueFrom.testClock (p : Perf) (event : Nat) (chime : Option ChimePart) (strike : Option StrikePart) (s : State) :
    QueueFrom s (testClock p event chime strike s) := by
  unfold Machine.testClock
  refine .ite (.omitPerf p _ _ s) ?_
  dsimp only
  generalize h1 : partTest p .silence .chime _ chime s = c1
  generalize h2 : partTest p .silence .strike _ strike c1.2 = k1
  generalize h3 : partTest p .withdrawn .chime _ c1.1 k1.2 = c2
  generalize h4 : partTest p .withdrawn .strike _ k1.1 c2.2 = k2
  have same : k2.2.arbiter = s.arbiter := by
    rw [← h4, partTest_arbiter, ← h3, partTest_arbiter, ← h2, partTest_arbiter, ← h1, partTest_arbiter]
  exact (QueueFrom.of_arbiter same).trans (.ite (.leaveOmitted p _) (.arbitrateClock _ _ _ _ _ _))

theorem QueueFrom.testPlain (p : Perf) (k : SilenceClass) (lacks : Bool) (s : State) : QueueFrom s (testPlain p k lacks s) := by
  unfold Machine.testPlain
  refine .ite (.omitPerf _ _ _ s) (.ite (.omitPerf _ _ _ s) ?_)
  split
  · exact .startPlain p s
  · exact .updatePerf _ s

theorem QueueFrom.startTest (p : Perf) (s : State) : QueueFrom s (startTest p s) := by
  unfold Machine.startTest
  refine .ite (.omitPerf _ _ _ s) ?_
  split
  · exact .testClock p _ _ _ s
  all_goals exact .testPlain p _ _ s

theorem QueueFrom.offerTo (s : State) (id : Nat) : QueueFrom s (offerTo s id) := by
  unfold Machine.offerTo
  split
  · exact .ite (.startTest _ s) (.refl s)
  · exact .refl s

theorem QueueFrom.offerHammers (clock : Option Int) (s : State) : QueueFrom s (offerHammers clock s) := by
  unfold Machine.offerHammers
  split
  · exact .updatePerf _ s
  · exact .foldl QueueFrom.offerTo _ s

/-! ## A performance with entries goes on, and one that ends leaves the strike queue as it was (R77) -/

theorem checkEnd_of_entries {s : State} {id : Nat} (h : hasEntries s id = true) : checkEnd s id = s := by
  unfold checkEnd
  split
  · rename_i p hfind
    have entries : hasEntries s p.id = true := by rw [(findPerf_mem hfind).2, h]
    simp only [finished, entries, Bool.not_true, Bool.and_false, Bool.false_eq_true, if_false]
  · rfl

theorem Offers.strikes {s t : State} (h : Offers s t) : t.strikes = s.strikes := by rw [h.same]

theorem endPerf_strikes {s : State} {p : Perf} (h : hasEntries s p.id = false) (how : How) :
    (endPerf p how s).strikes = s.strikes := by
  have unused : s.strikes.filter (·.id != p.id) = s.strikes :=
    List.filter_eq_self.mpr fun e he => by simpa using List.any_eq_false.mp h e he
  have removed : (if how == .step || how == .mode then removeEntries p.id s else s).strikes = s.strikes := by
    split
    · exact unused
    · rfl
  exact ((Offers.endTouch p (touchHow how) none _).strikes).trans removed

theorem checkEnd_strikes (s : State) (id : Nat) : (checkEnd s id).strikes = s.strikes := by
  unfold checkEnd
  split
  · rename_i p _
    split
    · rename_i ended
      have noEntries : hasEntries s p.id = false := by
        simp only [finished, Bool.and_eq_true, Bool.not_eq_true'] at ended
        exact ended.2.2
      dsimp only
      split
      · exact (Offers.offerHammers _ _).strikes.trans (endPerf_strikes noEntries _)
      · exact endPerf_strikes noEntries _
    · rfl
  · rfl

theorem dropEntriesFor_strikes (b : Nat) (reason : DropReason) (s : State) :
    (dropEntriesFor b reason s).strikes = s.strikes.filter (·.bell != b) := by
  have checks (ids : List Nat) (s : State) : (ids.foldl checkEnd s).strikes = s.strikes :=
    foldl_rel (R := fun s t : State => t.strikes = s.strikes) (fun _ => rfl) (fun h h' => h'.trans h) checkEnd_strikes ids s
  have drops (es : List Entry) (s : State) : (es.foldl (dropEntry reason) s).strikes = s.strikes :=
    foldl_rel (R := fun s t : State => t.strikes = s.strikes) (fun _ => rfl) (fun h h' => h'.trans h)
      (f := dropEntry reason) (fun _ _ => rfl) es s
  exact (checks _ _).trans (drops _ _)

/-! ## The hammer at the actuation instant (R90 to R92) -/

section Taken
variable {s : State} {e : Entry} {rest : List Entry}

/-- A pulse that has run its length on a STRIKING hammer. -/
theorem pulseDone_of {b p : Nat} (hp : (s.hammer b).pulseEnds = some p) (hle : p ≤ s.elapsed) : pulseDone s b = true := by
  simp [pulseDone, hp, hle]

/-- A hammer that is neither STRIKING nor RECOVERING is as it was. -/
theorem ripen_of_settled {b : Nat} (hs : (s.hammer b).state ≠ .striking) (hr : (s.hammer b).state ≠ .recovering) :
    ripen b s = s := by
  simp [ripen, endRecovery, hs, hr]

/-- The recovery end has come: in RUN the hammer is READY (R90). -/
theorem endRecovery_of_recovered {b : Nat} (hs : (s.hammer b).state = .recovering)
    (hr : ∀ r, (s.hammer b).recoveryEnd = some r → r ≤ s.now) (hm : s.maintenance = false) :
    endRecovery b s = s.withHammer b { s.hammer b with state := .ready } := by
  have recovered : (s.hammer b).recovered s.now = true := by
    cases hx : (s.hammer b).recoveryEnd with
    | none => simp [Hammer.recovered, hx]
    | some r => simp [Hammer.recovered, hx, hr r hx]
  simp only [endRecovery, hs, recovered, restState, hm, beq_self_eq_true, Bool.and_self, if_true, Bool.false_eq_true, if_false]

/-- What makes a hammer free for a stroke: it is READY, or in RUN its recovery, with its pulse where that was still driven, ends
at this moment with no fault (R90). -/
inductive Frees (s : State) (b : Nat) : Prop
  | ready (h : (s.hammer b).state = .ready)
  | recovered (hm : s.maintenance = false) (hr : ∀ r, (s.hammer b).recoveryEnd = some r → r ≤ (s.time.instant : Int))
      (h : (s.hammer b).state = .recovering)
  | pulsed (hm : s.maintenance = false) (hr : ∀ r, (s.hammer b).recoveryEnd = some r → r ≤ (s.time.instant : Int))
      (h : (s.hammer b).state = .striking) (p : Nat) (hp : (s.hammer b).pulseEnds = some p) (hle : p ≤ s.elapsed)
      (clear : (s.hammer b).faultInput = false)

/-- A hammer that is free goes READY, and nothing else of it changes but its pulse. -/
theorem ripen_of_free {b : Nat} (hb : within 1 24 b = true) (hf : Frees s b) :
    ∃ p, ripen b s = s.withHammer b { s.hammer b with state := .ready, pulseEnds := p } := by
  rcases hf with ready | ⟨hm, hr, recovering⟩ | ⟨hm, hr, striking, p, hp, hle, clear⟩
  · refine ⟨(s.hammer b).pulseEnds, ?_⟩
    rw [ripen_of_settled (by simp [ready]) (by simp [ready]), ← ready]
    exact (congrArg (fun hs => ({ s with hammers := hs } : State)) (setNth_nth s.hammers b)).symm
  · refine ⟨(s.hammer b).pulseEnds, ?_⟩
    have idle : ripen b s = endRecovery b s := by simp [ripen, recovering]
    rw [idle, endRecovery_of_recovered recovering hr hm]
  · refine ⟨none, ?_⟩
    let y : Hammer := { s.hammer b with pulseEnds := none, faultInput := false, state := .recovering }
    have self : (s.withHammer b y).hammer b = y := hammer_withHammer_self s b y hb
    have ended : pulseEnd b false s = s.withHammer b { y with state := .ready } := by
      have run : pulseEnd b false s = endRecovery b (s.withHammer b y) := by
        simp only [pulseEnd, striking, Bool.false_eq_true, if_false, beq_self_eq_true, if_true, withHammer_withHammer, y]
      rw [run, endRecovery_of_recovered (s := s.withHammer b y) (by rw [self]) (by rw [self]; exact hr) hm, self,
        withHammer_withHammer]
    have rests : endRecovery b (s.withHammer b { y with state := .ready }) = s.withHammer b { y with state := .ready } := by
      simp [endRecovery, hammer_withHammer_self s b _ hb]
    simp only [ripen, striking, pulseDone_of hp hle, clear, beq_self_eq_true, Bool.and_self, if_true, ended, rests, y]

/-- The stroke overwrites what the hammer's rest had changed. -/
theorem strokeTaken_withHammer (hb : within 1 24 e.bell = true) (p : Option Nat) : strokeTaken e rest
    (s.withHammer e.bell { s.hammer e.bell with state := .ready, pulseEnds := p }) = strokeTaken e rest s := by
  let y : Hammer := { s.hammer e.bell with state := .ready, pulseEnds := p }
  have self : ({ s.withHammer e.bell y with strikes := rest } : State).hammer e.bell = y :=
    hammer_withHammer_self s e.bell y hb
  have actuated : actuate e.bell e.id e.pulse e.actuation { s.withHammer e.bell y with strikes := rest }
      = actuate e.bell e.id e.pulse e.actuation { s with strikes := rest } := by
    simp only [actuate, self]
    exact withHammer_withHammer { s with strikes := rest } e.bell y _
  exact congrArg (updatePerf e.id _) actuated

/-- A hammer that is free takes the stroke (R90). -/
theorem takeEntry_of_free (hs : s.strikes = e :: rest) (hb : within 1 24 e.bell = true) (hf : Frees s e.bell) :
    takeEntry s = checkEnd (strokeTaken e rest s) e.id := by
  obtain ⟨p, ripe⟩ := ripen_of_free hb hf
  let y : Hammer := { s.hammer e.bell with state := .ready, pulseEnds := p }
  have ready : (({ s.withHammer e.bell y with strikes := rest } : State).hammer e.bell).state = .ready :=
    congrArg Hammer.state (hammer_withHammer_self s e.bell y hb)
  rw [← strokeTaken_withHammer hb p]
  simp only [takeEntry, hs, ripe, withHammer_strikes, bne_self_eq_false, Bool.false_eq_true, if_false]
  rw [if_pos (by rw [ready]; rfl)]
  rfl

theorem exec_strikeEntryTaken_due (ho : s.power.operating = true) (hs : s.strikes = e :: rest)
    (hd : e.actuation ≤ s.time.instant) : exec .strikeEntryTaken s = .next (takeEntry s) := by
  have due : entryDue s = true := by simp [entryDue, hs, State.now, hd]
  show Host.Outcome.next (whenOperating _ s) = _
  rw [whenOperating_true _ _ ho, if_pos due]

/-- A hammer that is not free drops the stroke (R89, R91). -/
theorem takeEntry_of_unfree (hs : s.strikes = e :: rest) (hready : (s.hammer e.bell).state ≠ .ready)
    (hstrike : (s.hammer e.bell).state ≠ .striking) (hrec : (s.hammer e.bell).state ≠ .recovering) :
    takeEntry s = checkEnd (dropEntry (s.hammer e.bell).dropReason { s with strikes := rest } e) e.id := by
  have busy : (({ s with strikes := rest } : State).hammer e.bell).state ≠ .ready := hready
  simp only [takeEntry, hs, ripen_of_settled hstrike hrec, bne_self_eq_false, Bool.false_eq_true, if_false]
  rw [if_neg (by simpa using busy)]
  rfl

/-- A hammer that has faulted at the end of its pulse (R92). -/
def Hammer.faulted (x : Hammer) : Hammer :=
  { x with pulseEnds := none, faultInput := true, state := .fault, actuatorFault := true, faultCause := some .actuator }

theorem pulseEnd_fault {b : Nat} (hb : within 1 24 b = true) : pulseEnd b true s = dropEntriesFor b .fault
    (raise (.hammerFault b .actuator (s.hammer b).pulseId (s.strikes.filter (·.bell == b)).length)
      (s.withHammer b (s.hammer b).faulted)) := by
  simp only [pulseEnd, actuatorFault, if_true, hammer_withHammer_self s b _ hb, withHammer_withHammer, withHammer_strikes,
    Hammer.faulted]

/-- The pulse ends with a fault: that has dropped the entry with the bell's others, and nothing is left to take (R92). -/
theorem takeEntry_of_fault (hs : s.strikes = e :: rest) (hb : within 1 24 e.bell = true) {p : Nat}
    (hstrike : (s.hammer e.bell).state = .striking) (hp : (s.hammer e.bell).pulseEnds = some p) (hle : p ≤ s.elapsed)
    (hfault : (s.hammer e.bell).faultInput = true) : takeEntry s = pulseEnd e.bell true s := by
  have faulted : ((pulseEnd e.bell true s).hammer e.bell).state = .fault := by
    rw [pulseEnd_fault hb, (OnlyArbiter.dropEntriesFor e.bell .fault _).hammer]
    exact congrArg Hammer.state (hammer_withHammer_self s e.bell _ hb)
  have gone : (pulseEnd e.bell true s).strikes ≠ s.strikes := by
    rw [pulseEnd_fault hb, dropEntriesFor_strikes]
    intro same
    have mem : e ∈ s.strikes.filter (·.bell != e.bell) := by
      have same' : s.strikes.filter (·.bell != e.bell) = s.strikes := same
      rw [same', hs]
      exact List.mem_cons_self
    simp at mem
  have ripe : ripen e.bell s = pulseEnd e.bell true s := by
    simp only [ripen, hstrike, pulseDone_of hp hle, hfault, beq_self_eq_true, Bool.and_self, if_true]
    simp [endRecovery, faulted]
  have moved : ((pulseEnd e.bell true s).strikes != e :: rest) = true := by simpa [← hs] using gone
  simp only [takeEntry, hs, ripe, moved, if_true]

end Taken

/-- The end of a pulse with a fault settles nothing in the allowance (R92). -/
theorem exec_hammerPulseEnd_fault {s : State} {b p : Nat} (ho : s.power.operating = true) (hb : within 1 24 b = true)
    (hstrike : (s.hammer b).state = .striking) (hp : (s.hammer b).pulseEnds = some p) (hle : p ≤ s.elapsed)
    (hn : nothingDue s) : exec (.hammerPulseEnd b true) s = .next (pulseEnd b true s) := by
  have engaged : (s.hammer b).midWithdrawal = false := by simp [Hammer.midWithdrawal, hstrike]
  have ends : hammerPulseEnded b true s = (pulseEnd b true s, none) := by
    simp [hammerPulseEnded, hstrike, engaged]
  have only : (pulseEnd b true s).allowance = s.allowance := by
    rw [pulseEnd_fault hb, (OnlyArbiter.dropEntriesFor b .fault _).same]
    rfl
  obtain ⟨head, release⟩ := hn
  show Host.Outcome.next (whenOperating _ s) = _
  rw [whenOperating_true _ _ ho, if_pos (pulseDone_of hp hle), hammerEvent, answering, ends]
  exact congrArg _ (settleLoad_idle _ (by rw [only]; exact head) (by rw [only]; exact release))

end Sys2Proof.Machine

/-! The settled O36. -/

namespace Sys2Proof.Machine

open Sys2Proof

/-- The ids of the queue do not grow where the performances come from the queue before. -/
theorem QueueFrom.not_mem {s t : State} (h : QueueFrom s t) {id : Nat} (hid : id ∉ s.arbiter.queue.map (·.id)) :
    id ∉ t.arbiter.queue.map (·.id) := by
  intro hmem
  obtain ⟨p, hp, rfl⟩ := List.mem_map.mp hmem
  obtain ⟨q, hq, hqid, -⟩ := h.origin p hp
  exact hid (List.mem_map.mpr ⟨q, hq, hqid⟩)

/-- What the end of a performance leaves on record (R77). -/
theorem endPerf_record (p : Perf) (how : How) (s : State) : nth (endPerf p how s).details 9
    = some { instant := s.time.instant, detail := .performanceEnded p.id p.cls how p.booked p.dropped } := by
  have instant (u : State) : (endTouch p (touchHow how) none u).time.instant = u.time.instant := by
    rw [(Offers.endTouch p (touchHow how) none u).same]
  have removed : (if how == .step || how == .mode then removeEntries p.id s else s).time = s.time := by
    split <;> rfl
  rw [endPerf, ← removed, ← instant]
  exact raise_details_self (d := .performanceEnded p.id p.cls how p.booked p.dropped) _ (show within 1 18 9 = true by decide)

/-- Settles O36: a hammer that is free takes the stroke (`takeEntry_of_free`), one whose pulse ends with a fault has dropped it
with the bell's others (`takeEntry_of_fault`), and any other drops it (`takeEntry_of_unfree`). -/
theorem strikeEntryTaken : Obligations.StrikeEntryTaken := by
  intro s e rest ho hq hs hd lo hi x told strikes pulsed rested free
  have hb : within 1 24 e.bell = true := (within_iff 1 24 e.bell).mpr ⟨lo, hi⟩
  have run := exec_strikeEntryTaken_due ho hs hd
  have frees (hf : free) : Frees s e.bell := by
    rcases hf with ready | ⟨⟨hm, hr⟩, recovering | ⟨⟨striking, p, hp, hle⟩, clear⟩⟩
    · exact .ready ready
    · exact .recovered hm hr recovering
    · exact .pulsed hm hr striking p hp hle clear
  have struck : strokeTaken e rest s = strikes := by
    simp only [strokeTaken, updatePerf, strikes, told, beq_iff_eq]
    rfl
  have more (u : State) (hu : u.strikes = rest) (h : ∃ r ∈ rest, r.id = e.id) : checkEnd u e.id = u := by
    refine checkEnd_of_entries ?_
    rw [hasEntries, hu, List.any_eq_true]
    obtain ⟨r, hr, hid⟩ := h
    exact ⟨r, hr, beq_iff_eq.mpr hid⟩
  refine ⟨fun hf hmore => ?taken, fun hp hfault hn => ?fault, fun hstate hmore => ?dropped,
    fun p hp hid hact hstop hrem hlast hf => ?ended⟩
  case taken => rw [run, takeEntry_of_free hs hb (frees hf), struck, more _ rfl hmore]
  case fault =>
    obtain ⟨hstrike, n, hn', hle⟩ := hp
    rw [run, takeEntry_of_fault hs hb hstrike hn' hle hfault, exec_hammerPulseEnd_fault ho hb hstrike hn' hle hn]
  case dropped =>
    have reason : x.dropReason = if x.fitted = false then .notFitted else if x.state = .fault then .fault else .withdrawn := by
      simp [Hammer.dropReason]
    have unfree : x.state ≠ .ready ∧ x.state ≠ .striking ∧ x.state ≠ .recovering := by
      refine ⟨?_, ?_, ?_⟩ <;> intro hx <;> simp [hx] at hstate
    obtain ⟨hready, hstrike, hrec⟩ := unfree
    rw [run, takeEntry_of_unfree hs hready hstrike hrec, more _ rfl hmore, ← reason]
    simp only [dropEntry, dropStroke, updatePerf, told, beq_iff_eq]
    rfl
  case ended =>
    have gone : p.id ∉ (lastEnded e rest p s).arbiter.queue.map (·.id) := by
      rw [lastEnded, endPerf_arbiter]
      simp
    have noEntries : hasEntries (strokeTaken e rest s) p.id = false := by
      rw [hid]
      exact List.any_eq_false.mpr fun r hr => by simpa using hlast r hr
    have offered := Offers.offerHammers (if p.isClock then some e.strike else none) (lastEnded e rest p s)
    have hammers : (lastEnded e rest p s).hammers = (strokeTaken e rest s).hammers := by
      rw [lastEnded, (OnlyArbiter.endPerf _ _ _).same]
    refine ⟨offerHammers (if p.isClock then some e.strike else none) (lastEnded e rest p s), ?_, ?_, (QueueFrom.offerHammers _ _).not_mem gone, ?_, ?_⟩
    · rw [run, takeEntry_of_free hs hb (frees hf), checkEnd_of_last hq hp hid hact (.inl ⟨hstop, hrem⟩) hlast]
    · rw [offered.details 9 (by decide) (by decide), lastEnded, endPerf_record, hstop]
      rfl
    · rw [offered.strikes]
      exact endPerf_strikes (p := { p with lastTaken := some e.strike }) noEntries _
    · rw [offered.same, ← struck]
      exact hammers

end Sys2Proof.Machine

/-! SUPPORT. The queueing requests: their tests in order, a performance that joins the queue and starts or is omitted at once, and
the first landing a start asks for. -/

namespace Sys2Proof.Machine

open Sys2Proof

/-! ## The tests of the queueing requests (R63) -/

section QueueTest
variable {h : Header} {s : State} {fits touch : Bool}

theorem queueTest_keyed (hk : h.link ≠ s.key) : queueTest h fits touch s = some .refusedLocal := by
  simp [queueTest, keyedOut, hk]

variable (hk : h.link = s.key)
include hk

theorem queueTest_mode (hm : s.maintenance = true) : queueTest h fits touch s = some .refusedMode := by
  simp [queueTest, keyedOut, hk, hm]

variable (hm : s.maintenance = false)
include hm

theorem queueTest_unset (hv : s.time.validity = .unset) : queueTest h fits touch s = some .timeUnset := by
  simp [queueTest, keyedOut, hk, hm, hv]

variable (hv : s.time.validity = .isSet)
include hv

theorem queueTest_unfit (hf : fits = false) : queueTest h fits touch s = some .badValue := by
  simp [queueTest, keyedOut, hk, hm, hv, hf]

variable (hf : fits = true)
include hf

theorem queueTest_busy (ht : touch = true) (hx : ∃ p ∈ s.arbiter.queue, p.cls = .touch) :
    queueTest h fits touch s = some .busy := by
  have any : s.arbiter.queue.any (fun p => p.cls == .touch) = true := by simpa [List.any_eq_true] using hx
  simp [queueTest, keyedOut, hk, hm, hv, hf, ht, any]

variable (ht : touch = true → ∀ p ∈ s.arbiter.queue, p.cls ≠ .touch)
include ht

theorem queueTest_places : queueTest h fits touch s = if 8 ≤ s.arbiter.queue.length then some .full else none := by
  have free : (touch && s.arbiter.queue.any (fun p => p.cls == .touch)) = false := by
    cases touch with
    | false => rfl
    | true => simpa using ht rfl
  simp only [queueTest, keyedOut, hk, hm, hv, hf, free, Config.queuePlaces, bne_self_eq_false, Bool.false_eq_true, if_false,
    Bool.not_true]
  rfl

end QueueTest

/-! ## Joining the queue (R60, R61, R63) -/

/-- A change of the performance that joins the queue, one that leaves its place, may come before or after. -/
theorem map_enqueue {p : Perf} {f : Perf → Perf} {q : List Perf} (hp : p.id ∉ q.map (·.id))
    (same : (f p).id = p.id ∧ (f p).cls = p.cls ∧ (f p).dueStart = p.dueStart) :
    (enqueue p q).map (fun x => if x.id == p.id then f x else x) = enqueue (f p) q := by
  have others (xs : List Perf) (hxs : p.id ∉ xs.map (·.id)) : xs.map (fun x => if x.id == p.id then f x else x) = xs := by
    refine (List.map_congr_left fun x hx => if_neg ?_).trans (List.map_id xs)
    intro hid
    exact hxs (List.mem_map.mpr ⟨x, hx, beq_iff_eq.mp hid⟩)
  have place (x : Perf) : (f p).before x = p.before x := by simp only [Perf.before, same]
  induction q with
  | nil => simp [enqueue]
  | cons x xs ih =>
    have first := others (x :: xs) hp
    rw [List.map_cons, List.mem_cons, not_or] at hp
    obtain ⟨hx, hxs⟩ := hp
    by_cases hb : p.before x = true
    · rw [enqueue, if_pos hb, enqueue, if_pos (by rw [place, hb]), List.map_cons, first, if_pos (beq_iff_eq.mpr rfl)]
    · rw [enqueue, if_neg hb, enqueue, if_neg (by rw [place]; exact hb), List.map_cons, ih hxs,
        if_neg (by simpa using Ne.symm hx)]

section Joined
variable {p : Perf} {s : State}

theorem activePerf_joinQueue (hw : p.state = .waiting) : activePerf (joinQueue p s) = activePerf s := by
  have active : (fun x : Perf => x.state == .active) p = false := by simp [hw]
  simp only [activePerf, joinQueue, ← List.head?_filter]
  rw [filter_enqueue active]

/-- Behind an ACTIVE performance, and before its due start, it waits (R63, R72). -/
theorem queuePerf_waits (h : (activePerf s).isSome = true ∨ s.now < p.dueStart) : queuePerf p s = joinQueue p s := by
  have wait : (decide (p.dueStart ≤ s.now) && (activePerf s).isNone) = false := by
    rcases h with ha | hd
    · rw [Option.isNone_eq_false_iff.mpr ha, Bool.and_false]
    · rw [decide_eq_false (Int.not_le.mpr hd), Bool.false_and]
  simp only [queuePerf, wait, Bool.false_eq_true, if_false]

/-- At its due start, with nothing ACTIVE, it is tested (R63). -/
theorem queuePerf_tested (hd : p.dueStart ≤ s.now) (ha : activePerf s = none) :
    queuePerf p s = startTest p (joinQueue p s) := by
  simp only [queuePerf, hd, ha, decide_true, Option.isNone_none, Bool.and_self, if_true]

/-- What has started as it joined the queue (R62). -/
def startedPerf (p : Perf) (s : State) : Perf :=
  { p with state := .active, tested := true, origin := some (s.now + 2000) }

theorem startPlain_joinQueue (hp : p.id ∉ s.arbiter.queue.map (·.id)) : (startPlain p (joinQueue p s)).arbiter
    = { s.arbiter with queue := enqueue (startedPerf p s) s.arbiter.queue, nextId := idAfter p.id } := by
  rw [startPlain_arbiter]
  exact congrArg (fun q => ({ s.arbiter with queue := q, nextId := idAfter p.id } : Arbiter))
    (map_enqueue (f := fun x => startedPerf x s) hp ⟨rfl, rfl, rfl⟩)

end Joined

/-! ## A tune, toll or touch that is omitted (R72, R76) -/

/-- Whether a performance holds back rests on itself and on the clock events that wait. -/
theorem heldBack_of_clocks {s t : State} {a : Perf}
    (h : ∀ c, c.isClock = true → (c ∈ t.arbiter.queue ↔ c ∈ s.arbiter.queue)) : heldBack t a = heldBack s a := by
  rw [Bool.eq_iff_iff, heldBack_iff, heldBack_iff]
  refine and_congr_right fun _ => and_congr_right fun yields => and_congr_right fun _ => and_congr ?_ ?_
  · cases hs : a.source <;> simp_all [remains, Perf.yieldsToClock]
  · refine exists_congr fun c => and_congr_left fun ⟨hk, _⟩ => h c hk

/-- It leaves the queue; a hold in force stays, as no clock event has left (R74). -/
theorem omitPerf_of_plain {s : State} {p : Perf} (hids : (s.arbiter.queue.map (·.id)).Nodup) (hp : p ∈ s.arbiter.queue)
    (hk : p.isClock = false) (hw : p.state = .waiting) (reason : OmitReason) (part : ClockPart) :
    omitPerf p reason part s = dropPerf p.id (omitted p reason part (endTouch p .omitted (some reason) s)) := by
  let t := dropPerf p.id (omitted p reason part (endTouch p .omitted (some reason) s))
  have queue : t.arbiter.queue = s.arbiter.queue.filter (·.id != p.id) := by
    show (endTouch p .omitted (some reason) s).arbiter.queue.filter _ = _
    rw [endTouch_arbiter]
  have active : activePerf t = activePerf s := by
    rw [activePerf, queue]
    exact find?_others hids hp (by simp [hw])
  have clocks (c : Perf) (hc : c.isClock = true) : c ∈ t.arbiter.queue ↔ c ∈ s.arbiter.queue := by
    rw [queue, List.mem_filter]
    refine ⟨And.left, fun hmem => ⟨hmem, bne_iff_ne.mpr fun hid => ?_⟩⟩
    rw [eq_of_id hids hmem hp hid, hk] at hc
    cases hc
  have stays : endHold (holder s) t = t := by
    unfold endHold
    rw [active]
    split
    · rename_i id a hwas ha
      have held : heldBack s a = true := by
        rw [holder, ha, Option.map_eq_some_iff] at hwas
        obtain ⟨b, hb, -⟩ := hwas
        obtain ⟨same, held⟩ := Option.filter_eq_some_iff.mp hb
        cases same
        exact held
      rw [heldBack_of_clocks clocks, held]
      simp
    · rfl
  rw [omitPerf, serveEvent_of_plain hk]
  exact stays

end Sys2Proof.Machine

/-! SUPPORT. PLAY-TUNE and TOLL as one queueing request; the settled O28. -/

namespace Sys2Proof.Machine

open Sys2Proof

/-! ## The first landing (R64) -/

/-- The first instant from now + 2,000 ms on with the ms-of-day asked for. -/
theorem firstLanding_some (now m : Nat) : now + 2000 ≤ firstLanding now (some m)
    ∧ firstLanding now (some m) < now + 2000 + 86400000 ∧ firstLanding now (some m) % 86400000 = min 86399999 m := by
  simp only [firstLanding, Config.dayMs, clamp_zero]
  split <;> omega

/-! ## One answer for both requests (R63 to R65) -/

/-- The answer to a queueing request whose performance has the source, once its fields are read. -/
def queueAnswer (h : Header) (fits : Bool) (src : Source) (start : Option Nat) (wait : Nat) (s : State) : Answer :=
  match queueTest h fits false s with
  | some st => refuse s st
  | none =>
    let p := newPerf s src start (waitMs wait)
    accept (queuePerf p s) (.queued p.id p.firstLanding p.dueStart p.deadline)

theorem playTuneAnswer_eq (h : Header) (n : Nat) (shift : Option Int) (start : Option Nat) (wait : Nat) (s : State) :
    playTuneAnswer h n shift start wait s = queueAnswer h (within 0 31 n && (slot s.tunes n).valid)
      (.tune n { (slot s.tunes n).snap with shift := (shift.map (clampInt (-11) 11)).getD (slot s.tunes n).snap.shift })
      start wait s := rfl

theorem tollAnswer_eq (h : Header) (bell strength interval count silenceClock : Nat) (start : Option Nat) (wait : Nat)
    (s : State) : tollAnswer h bell strength interval count silenceClock start wait s
      = queueAnswer h (within 1 24 bell && (flag? silenceClock).isSome) (.toll bell (clamp 1 3 strength)
        (clamp 1000 60000 interval) (clamp 1 1000 count) ((flag? silenceClock).getD false)) start wait s := rfl

/-- The instruction is a queueing request of that answer. -/
structure Queues (i : Instr) (h : Header) (kind : Nat) (fits : Bool) (src : Source) (start : Option Nat) (wait : Nat)
    (s : State) : Prop where
  other : kind ≠ 0x31
  taken : ∃ body, exec i s = .next (takeRequest h kind body s) ∧ body (closed h s) = queueAnswer h fits src start wait (closed h s)

@[simp] theorem closed_tunes (h : Header) (s : State) : (closed h s).tunes = s.tunes := closeStream_tunes _ _
@[simp] theorem closed_key (h : Header) (s : State) : (closed h s).key = s.key := closeStream_key _ _

theorem queues_playTune (h : Header) (n : Nat) (shift : Option Int) (start : Option Nat) (wait : Nat) (s : State) :
    Queues (.playTune h n shift start wait) h 0x40 (within 0 31 n && (slot s.tunes n).valid)
      (.tune n { (slot s.tunes n).snap with shift := (shift.map (clampInt (-11) 11)).getD (slot s.tunes n).snap.shift })
      start wait s :=
  ⟨by decide, playTuneAnswer h n shift start wait, rfl, by rw [playTuneAnswer_eq, closed_tunes]⟩

theorem queues_toll (h : Header) (bell strength interval count silenceClock : Nat) (start : Option Nat) (wait : Nat)
    (s : State) : Queues (.toll h bell strength interval count silenceClock start wait) h 0x41
      (within 1 24 bell && (flag? silenceClock).isSome) (.toll bell (clamp 1 3 strength) (clamp 1000 60000 interval)
        (clamp 1 1000 count) ((flag? silenceClock).getD false)) start wait s :=
  ⟨by decide, _, rfl, tollAnswer_eq ..⟩

theorem Queues.refused {i : Instr} {h : Header} {kind : Nat} {fits : Bool} {src : Source} {start : Option Nat} {wait : Nat}
    {s : State} (hi : Queues i h kind fits src start wait s) (ht : Taken h s) {st : Status}
    (hst : queueTest h fits false (closed h s) = some st) : answers i h kind s st .none (closed h s) := by
  obtain ⟨body, run, answer⟩ := hi.taken
  exact answers_of_refuse ht hi.other run (answer.trans (by rw [queueAnswer, hst]))

theorem Queues.accepted {i : Instr} {h : Header} {kind : Nat} {fits : Bool} {src : Source} {start : Option Nat} {wait : Nat}
    {s : State} (hi : Queues i h kind fits src start wait s) (ht : Taken h s)
    (hst : queueTest h fits false (closed h s) = none) :
    let p := newPerf (closed h s) src start (waitMs wait)
    answers i h kind s .ok (.queued p.id p.firstLanding p.dueStart p.deadline) (queuePerf p (closed h s)) := by
  obtain ⟨body, run, answer⟩ := hi.taken
  exact answers_of_accept ht hi.other run (answer.trans (by rw [queueAnswer, hst]))

/-! ## The counter (R60) -/

/-- The operation leaves the next-id counter. -/
def SameNextId (s t : State) : Prop := t.arbiter.nextId = s.arbiter.nextId

theorem omitPerf_nextId (p : Perf) (reason : OmitReason) (part : ClockPart) (s : State) :
    SameNextId s (omitPerf p reason part s) := by
  have left : SameNextId s (serveEvent p (dropPerf p.id (omitted p reason part (endTouch p .omitted (some reason) s)))) := by
    rw [SameNextId, serveEvent_arbiter]
    show (endTouch p .omitted (some reason) s).arbiter.nextId = _
    rw [endTouch_arbiter]
  rw [omitPerf]
  rcases endHold_cases (holder s) (serveEvent p (dropPerf p.id (omitted p reason part (endTouch p .omitted (some reason) s))))
    with hold | ⟨id, g, hold⟩
  · rw [hold]
    exact left
  · rw [hold]
    exact left

theorem testPlain_nextId (p : Perf) (k : SilenceClass) (lacks : Bool) (s : State) : SameNextId s (testPlain p k lacks s) := by
  unfold testPlain
  split
  · exact omitPerf_nextId p _ _ s
  · split
    · exact omitPerf_nextId p _ _ s
    · split
      · rw [SameNextId, startPlain_arbiter]
      · rfl

/-- A tune or a toll takes an id, and the counter stands one past it, also where it is tested at once. -/
theorem queuePerf_nextId {p : Perf} {s : State} (hk : p.isClock = false) : (queuePerf p s).arbiter.nextId = idAfter p.id := by
  have tested : SameNextId (joinQueue p s) (startTest p (joinQueue p s)) := by
    unfold startTest
    split
    · exact omitPerf_nextId p _ _ _
    · split
      · rename_i hs
        simp [Perf.isClock, Perf.cls, hs, Source.cls] at hk
      all_goals exact testPlain_nextId p _ _ _
  unfold queuePerf
  dsimp only
  split
  · exact tested
  · rfl

theorem newId_of_free {s : State} (h : s.arbiter.nextId ∉ s.arbiter.queue.map (·.id)) : newId s = s.arbiter.nextId := by
  have unused : ¬(s.arbiter.queue.map (·.id)).contains s.arbiter.nextId = true := by simpa using h
  rw [newId, freeId, if_neg unused]

/-! ## The queued performance in the state of the request -/

/-- What a tune or a toll is as it joins the queue (R59, R63). -/
theorem newPerf_closed (h : Header) (s : State) {src : Source} (hs : src.strikeOnly = false) (start : Option Nat) (wait : Nat) :
    newPerf (closed h s) src start (waitMs wait) =
      { id := newId s, source := src, firstLanding := (firstLanding s.time.instant start : Nat)
        dueStart := ((firstLanding s.time.instant start : Nat) : Int) - 2000
        deadline := ((firstLanding s.time.instant start : Nat) : Int) - 2000 + (min 3600 wait * 1000 : Nat), state := .waiting
        tested := false, origin := none, cursor := 0, inStrike := false, stopped := none, booked := 0, dropped := 0
        lastTaken := none } := by
  rw [newPerf, newId_congr (closed_arbiter h s), closed_time, waitingPerf, waitMs, clamp_zero, hs]
  rfl

theorem joinQueue_closed (h : Header) (s : State) (p : Perf) : joinQueue p (closed h s) = { closed h s with
    arbiter := { s.arbiter with queue := enqueue p s.arbiter.queue, nextId := idAfter p.id } } := by
  simp only [joinQueue, closed_arbiter]

theorem startPlain_of_plain {p : Perf} (hk : p.cls ≠ .touch) (s : State) :
    startPlain p s = { s with arbiter := (startPlain p s).arbiter } := by
  have plain : (p.cls == .touch) = false := by simpa using hk
  simp only [startPlain, plain, Bool.false_eq_true, if_false]
  rfl

/-- A tune or a toll that starts as it joins the queue. -/
theorem startPlain_joinQueue_closed (h : Header) {s : State} {p : Perf} (hk : p.cls ≠ .touch)
    (hp : p.id ∉ s.arbiter.queue.map (·.id)) : startPlain p (joinQueue p (closed h s)) = { closed h s with
      arbiter := { s.arbiter with queue := enqueue (startedPerf p s) s.arbiter.queue, nextId := idAfter p.id } } := by
  have now : startedPerf p (closed h s) = startedPerf p s := by simp only [startedPerf, State.now, closed_time]
  rw [startPlain_of_plain hk, startPlain_joinQueue (by rw [closed_arbiter]; exact hp), now, closed_arbiter]
  rfl

theorem nowSilenced_closed (h : Header) (s : State) (k : SilenceClass) : nowSilenced (closed h s) k = nowSilenced s k := by
  simp only [nowSilenced, silenced, tableSilences, timersSilence, closed_arbiter, closed_timers, closed_time, closed_calendar]

@[simp] theorem closed_score (h : Header) (s : State) : (closed h s).score = s.score := closeStream_score _ _

theorem tuneLacks_closed (h : Header) (s : State) (x : TuneSnap) : tuneLacks (closed h s) x = tuneLacks s x := by
  simp only [tuneLacks, closed_score, closed_hammer]

theorem activePerf_closed (h : Header) (s : State) : activePerf (closed h s) = activePerf s :=
  activePerf_congr (closed_arbiter h s)

/-- A tune or a toll that is free to start does so as it joins the queue (R63, R72). -/
theorem queuePerf_starts {h : Header} {s : State} {p : Perf} {k : SilenceClass} (hm : s.maintenance = false)
    (hids : p.id ∉ s.arbiter.queue.map (·.id)) (hw : p.state = .waiting) (hd : p.dueStart ≤ s.now) (ha : activePerf s = none)
    (hsrc : (∃ n x, p.source = .tune n x ∧ k = .tune ∧ tuneLacks s x = false)
      ∨ ∃ b v x n f, p.source = .toll b v x n f ∧ k = .toll ∧ (s.hammer b).usable = true) (hs : nowSilenced s k = false) :
    queuePerf p (closed h s) = { closed h s with
      arbiter := { s.arbiter with queue := enqueue (startedPerf p s) s.arbiter.queue, nextId := idAfter p.id } } := by
  have plain : p.cls ≠ .touch := by
    rcases hsrc with ⟨n, x, src, -⟩ | ⟨b, v, x, n, f, src, -⟩ <;> simp [Perf.cls, src, Source.cls]
  have now : (closed h s).now = s.now := by rw [State.now, closed_time]; rfl
  rw [queuePerf_tested (by rw [now]; exact hd) (by rw [activePerf_closed, ha]),
    startTest_of_free (s := joinQueue p (closed h s)) (k := k) ((closed_maintenance h s).trans hm) ((activePerf_joinQueue hw).trans (by rw [activePerf_closed, ha]))
      ?_ ((nowSilenced_closed h s k).trans hs), startPlain_joinQueue_closed h plain hids]
  rcases hsrc with ⟨n, x, src, hk, lacks⟩ | ⟨b, v, x, n, f, src, hk, usable⟩
  · exact .inl ⟨n, x, src, hk, (tuneLacks_closed h s x).trans lacks⟩
  · refine .inr (.inl ⟨b, v, x, n, f, src, hk, ?_⟩)
    rw [← closed_hammer h s b] at usable
    exact usable

/-! ## O28 -/

/-- What the queueing requests of O28 are: PLAY-TUNE of a valid tune, or TOLL of a bell. -/
theorem queues_of_fitting {h : Header} {src : Source} {i : Instr} {kind : Nat} {start : Option Nat} {wait : Nat} {s : State}
    (hi : (∃ n shift, i = .playTune h n shift start wait ∧ kind = 0x40 ∧ n ≤ 31 ∧ (slot s.tunes n).valid = true
         ∧ src = .tune n { (slot s.tunes n).snap with
             shift := (shift.map (clampInt (-11) 11)).getD (slot s.tunes n).snap.shift })
       ∨ ∃ bell strength interval count flag, i = .toll h bell strength interval count (Bool.toNat flag) start wait ∧ kind = 0x41
         ∧ 1 ≤ bell ∧ bell ≤ 24
         ∧ src = .toll bell (max 1 (min 3 strength)) (max 1000 (min 60000 interval)) (max 1 (min 1000 count)) flag) :
    Queues i h kind true src start wait s
      ∧ ((∃ n x, src = .tune n x ∧ kind = 0x40) ∨ ∃ b v x n f, src = .toll b v x n f ∧ kind = 0x41) := by
  rcases hi with ⟨n, shift, rfl, rfl, hn, hv, rfl⟩ | ⟨bell, strength, interval, count, flag, rfl, rfl, lo, hi, rfl⟩
  · have fits : (within 0 31 n && (slot s.tunes n).valid) = true := by
      rw [Bool.and_eq_true]
      exact ⟨(within_iff 0 31 n).mpr ⟨Nat.zero_le n, hn⟩, hv⟩
    have queues := queues_playTune h n shift start wait s
    rw [fits] at queues
    exact ⟨queues, .inl ⟨_, _, rfl, rfl⟩⟩
  · have fits : (within 1 24 bell && (flag? flag.toNat).isSome) = true := by
      rw [Bool.and_eq_true, flag?_toNat]
      exact ⟨(within_iff 1 24 bell).mpr ⟨lo, hi⟩, rfl⟩
    have queues := queues_toll h bell strength interval count flag.toNat start wait s
    rw [fits, flag?_toNat] at queues
    exact ⟨queues, .inr ⟨_, _, _, _, _, rfl, rfl⟩⟩

/-- Settles O28. -/
theorem queueingRequests : Obligations.QueueingRequests := by
  refine ⟨?fitting, ?refused⟩
  case fitting =>
    intro h src i kind start wait s ht hq hi from_ free
    obtain ⟨queues, hsrc⟩ := queues_of_fitting (hi.imp_left fun ⟨n, shift, hi, hk, hn, hv, hs⟩ =>
      ⟨n, shift, hi, hk, hn, hv, by rw [hs]; cases shift <;> rfl⟩)
    refine ⟨fun hfree hfull => ?full, fun hfree hroom => ?accepted⟩
    case full =>
      obtain ⟨hk, hm, hv⟩ := hfree
      refine queues.refused ht ?_
      rw [queueTest_places (by simpa using hk) (by simpa using hm) (by simpa using hv) rfl (by simp), closed_arbiter, hfull]
      rfl
    case accepted =>
      obtain ⟨hk, hm, hv⟩ := hfree
      have test : queueTest h true false (closed h s) = none := by
        rw [queueTest_places (by simpa using hk) (by simpa using hm) (by simpa using hv) rfl (by simp), closed_arbiter,
          if_neg (Nat.not_le.mpr hroom)]
      have accepted := queues.accepted ht test
      have strike : src.strikeOnly = false := by
        rcases hsrc with ⟨n, x, rfl, -⟩ | ⟨b, v, x, n, f, rfl, -⟩ <;> rfl
      dsimp only at accepted
      rw [newPerf_closed h s strike] at accepted
      have fits := ((queueOk_iff s).mp hq).1
      have free := newId_free fits.room
      refine ⟨newId s, firstLanding s.time.instant start, _, accepted, free, (newId_range hq).1, (newId_range hq).2, newId_of_free,
        queuePerf_nextId ?_, fun hs => by rw [hs]; rfl, fun m hs => hs ▸ firstLanding_some _ m, fun hwait => ?waits,
        fun hnone hfirst hsil hlacks => ?starts⟩
      · rcases hsrc with ⟨n, x, rfl, -⟩ | ⟨b, v, x, n, f, rfl, -⟩ <;> rfl
      case waits =>
        rw [queuePerf_waits ?_, joinQueue_closed]
        · rfl
        · rw [activePerf_closed, State.now, closed_time]
          refine hwait.imp id fun hlt => ?_
          show (s.time.instant : Int) < ((firstLanding s.time.instant start : Nat) : Int) - 2000
          omega
      case starts =>
        have lands : ((firstLanding s.time.instant start : Nat) : Int) = s.now + 2000 := by
          rw [hfirst]
          exact Int.natCast_add _ _
        have started := queuePerf_starts (h := h) (p :=
          { id := newId s, source := src, firstLanding := (firstLanding s.time.instant start : Nat)
            dueStart := ((firstLanding s.time.instant start : Nat) : Int) - 2000
            deadline := ((firstLanding s.time.instant start : Nat) : Int) - 2000 + (min 3600 wait * 1000 : Nat), state := .waiting
            tested := false, origin := none, cursor := 0, inStrike := false, stopped := none, booked := 0, dropped := 0
            lastTaken := none }) (k := if kind = 0x40 then .tune else .toll) hm free rfl
          (by show ((firstLanding s.time.instant start : Nat) : Int) - 2000 ≤ s.now; omega) hnone ?_ hsil
        · rw [started, startedPerf, ← lands]
          rfl
        · rcases hsrc with ⟨n, x, rfl, rfl⟩ | ⟨b, v, x, n, f, rfl, rfl⟩
          · exact .inl ⟨n, x, rfl, rfl, hlacks⟩
          · exact .inr ⟨b, v, x, n, f, rfl, rfl, hlacks⟩
  case refused =>
    intro h i kind fits start wait s ht hi
    have same : ∃ fit src, Queues i h kind fit src start wait s ∧ (fit = true → fits) := by
      rcases hi with ⟨n, shift, rfl, rfl, hf⟩ | ⟨bell, strength, interval, count, flag, rfl, rfl, hf⟩
      · refine ⟨_, _, queues_playTune h n shift start wait s, fun hfit => hf.mpr ?_⟩
        rw [Bool.and_eq_true, within_iff] at hfit
        exact ⟨hfit.1.2, hfit.2⟩
      · refine ⟨_, _, queues_toll h bell strength interval count flag start wait s, fun hfit => hf.mpr ?_⟩
        rw [Bool.and_eq_true, within_iff] at hfit
        obtain ⟨⟨lo, hi⟩, hflag⟩ := hfit
        refine ⟨lo, hi, ?_⟩
        by_contra hgt
        simp [flag?, show flag ≠ 0 by omega, show flag ≠ 1 by omega] at hflag
    obtain ⟨fit, src, queues, hfit⟩ := same
    refine ⟨fun hk => ?_, fun hk hm => ?_, fun hk hm hv => ?_, fun hk hm hv hf => ?_⟩
    · exact queues.refused ht (queueTest_keyed (by simpa using hk))
    · exact queues.refused ht (queueTest_mode (by simpa using hk) (by simpa using hm))
    · exact queues.refused ht (queueTest_unset (by simpa using hk) (by simpa using hm) (by simpa using hv))
    · refine queues.refused ht (queueTest_unfit (by simpa using hk) (by simpa using hm) (by simpa using hv) ?_)
      exact Bool.eq_false_iff.mpr fun h => hf (hfit h)

end Sys2Proof.Machine

/-! SUPPORT. The fields of TOUCH-START, and the touch as it joins the queue, starts or is silenced. -/

namespace Sys2Proof.Machine

open Sys2Proof

/-! ## The call list (R108, R185) -/

/-- A call as TOUCH-START's list gives it: its lead, and its kind as a byte. -/
def Call.code (c : Call) : Nat × Nat := (c.lead, if c.kind = .bob then 0 else 1)

/-- The call that a pair of bytes spells, where its kind is one (R108). -/
def readCall (c : Nat × Nat) : Call := { lead := c.1, kind := if c.2 = 0 then .bob else .single }

theorem callKind?_eq_some_iff (n : Nat) (k : CallKind) : callKind? n = some k ↔ n = if k = .bob then 0 else 1 := by
  unfold callKind?
  cases k <;> split_ifs <;> simp_all

/-- The entries of a call list are the calls that spell it. -/
theorem callList_eq_some_iff (calls : List (Nat × Nat)) (cs : List Call) : callList calls = some cs ↔ cs.map Call.code = calls := by
  induction calls generalizing cs with
  | nil => cases cs <;> simp [callList]
  | cons c rest ih =>
    obtain ⟨lead, n⟩ := c
    have unfolds : callList ((lead, n) :: rest) = some cs ↔
        ∃ k xs, callKind? n = some k ∧ callList rest = some xs ∧ { lead := lead, kind := k } :: xs = cs := by
      have step : callList ((lead, n) :: rest) = match callKind? n, callList rest with
        | some kind, some cs => some ({ lead := lead, kind := kind } :: cs)
        | _, _ => none := rfl
      rw [step]
      cases callKind? n <;> cases callList rest <;> simp
    rw [unfolds]
    cases cs with
    | nil => simp
    | cons x xs =>
      simp only [callKind?_eq_some_iff, ih, List.map_cons, List.cons.injEq, Call.code, Prod.mk.injEq]
      constructor
      · rintro ⟨k, ys, rfl, rfl, rfl, rfl⟩
        exact ⟨⟨rfl, rfl⟩, rfl⟩
      · rintro ⟨⟨rfl, rfl⟩, rfl⟩
        exact ⟨x.kind, xs, rfl, rfl, rfl, rfl⟩

theorem leadsAscend_iff (cs : List Call) : leadsAscend cs = true ↔ cs.Pairwise (fun a b => a.lead < b.lead) := by
  have chain : leadsAscend cs = true ↔ (cs.map (·.lead)).IsChain (· < ·) := by
    induction cs with
    | nil => simp [leadsAscend]
    | cons a rest ih =>
      cases rest with
      | nil => simp [leadsAscend]
      | cons b rest =>
        rw [leadsAscend, Bool.and_eq_true, ih, decide_eq_true_iff]
        simp
  rw [chain, List.isChain_iff_pairwise, List.pairwise_map]

theorem callFits_iff (m : Method) (c : Call) : callFits m c = true ↔ 1 ≤ c.code.1 ∧ c.code.1 ≤ 9999
    ∧ (c.code.2 = 0 ∧ m.bob.isSome = true ∨ c.code.2 = 1 ∧ m.single.isSome = true) := by
  obtain ⟨lead, kind⟩ := c
  rw [callFits, Bool.and_eq_true, within_iff, and_assoc]
  cases kind <;> simp [Call.code]

/-- What a TOUCH-START's fields must be (R108). -/
def TouchFits (m : Method) (k : Nat) (calls : List (Nat × Nat)) : Prop :=
  k ≤ 7 ∧ m.valid = true ∧ calls.length ≤ 64 ∧ calls.Pairwise (fun a b => a.1 < b.1)
    ∧ ∀ c ∈ calls, 1 ≤ c.1 ∧ c.1 ≤ 9999 ∧ (c.2 = 0 ∧ m.bob.isSome = true ∨ c.2 = 1 ∧ m.single.isSome = true)

theorem touchFits_iff (s : State) (k : Nat) (calls : List (Nat × Nat)) :
    touchFits s k calls = true ↔ TouchFits (slot s.methods k) k calls := by
  have list : (callList calls).any (fun cs => cs.all (callFits (slot s.methods k)) && leadsAscend cs) = true ↔
      calls.Pairwise (fun a b => a.1 < b.1) ∧ ∀ c ∈ calls, 1 ≤ c.1 ∧ c.1 ≤ 9999
        ∧ (c.2 = 0 ∧ (slot s.methods k).bob.isSome = true ∨ c.2 = 1 ∧ (slot s.methods k).single.isSome = true) := by
    cases hl : callList calls with
    | some cs =>
      rw [callList_eq_some_iff] at hl
      subst hl
      rw [Option.any_some, Bool.and_eq_true, List.all_eq_true, leadsAscend_iff, List.pairwise_map, List.forall_mem_map, and_comm]
      simp only [callFits_iff]
      rfl
    | none =>
      refine ⟨fun h => (by cases h), fun ⟨_, hc⟩ => ?_⟩
      have spelled : (calls.map readCall).map Call.code = calls := by
        rw [List.map_map]
        refine (List.map_congr_left fun c hmem => ?_).trans (List.map_id calls)
        obtain ⟨-, -, h0 | h1⟩ := hc c hmem
        · exact Prod.ext rfl (by simp [readCall, Call.code, h0])
        · exact Prod.ext rfl (by simp [readCall, Call.code, h1])
      rw [(callList_eq_some_iff calls _).mpr spelled] at hl
      cases hl
  simp only [touchFits, Bool.and_eq_true, list, within_iff, decide_eq_true_eq, TouchFits, Nat.zero_le, true_and, and_assoc]

theorem openingCount_eq (n : Nat) : openingCount n
    = if max 2 (min 40 n) % 2 = 0 then max 2 (min 40 n) else max 2 (min 40 n) + 1 := by
  simp only [openingCount, clamp_eq]
  split <;> omega

/-! ## The touch that joins the queue (R63, R108) -/

/-- The performance an accepted TOUCH-START queues. -/
def touchPerf (s : State) : Perf := newPerf s .touch none 600000

theorem touchPerf_closed (h : Header) (s : State) : newPerf (closed h s) .touch none 600000 = touchPerf s := by
  rw [touchPerf, newPerf, newPerf, newId_congr (closed_arbiter h s), closed_time]

theorem touchPerf_congr {s t : State} (ha : t.arbiter = s.arbiter) (ht : t.time = s.time) : touchPerf t = touchPerf s := by
  rw [touchPerf, touchPerf, newPerf, newPerf, newId_congr ha, ht]

theorem touchPerf_firstLanding (s : State) : (touchPerf s).firstLanding = ((s.time.instant + 2000 : Nat) : Int) := rfl

theorem touchPerf_dueStart (s : State) : (touchPerf s).dueStart = (s.time.instant : Int) := by
  show ((s.time.instant + 2000 : Nat) : Int) - 2000 = _
  omega

theorem touchPerf_deadline (s : State) : (touchPerf s).deadline = (s.time.instant : Int) + 600000 := by
  show ((s.time.instant + 2000 : Nat) : Int) - 2000 + 600000 = _
  omega

/-- The context an accepted TOUCH-START sets, its calls read. -/
def touchSet (s : State) (k strength beat opening closing maximum : Nat) (cs : List Call) : Touch :=
  newTouch (newId s) k strength beat opening closing maximum (slot s.methods k) cs

/-- The request taken, with the touch context set: the state in which the touch joins the queue. -/
def touchTaken (h : Header) (s : State) (t : Touch) : State := { closed h s with touch := t }

@[simp] theorem closed_methods (h : Header) (s : State) : (closed h s).methods = s.methods := closeStream_methods _ _

section TouchStart
variable {h : Header} {k strength beat opening closing maximum : Nat} {calls : List (Nat × Nat)} {s : State} (ht : Taken h s)
include ht

theorem touchStart_refused {st : Status} (hst : queueTest h (touchFits s k calls) true (closed h s) = some st) :
    answers (.touchStart h k strength beat opening closing maximum calls) h 0x5B s st .none (closed h s) := by
  have fits : touchFits (closed h s) k calls = touchFits s k calls := by simp only [touchFits, closed_methods]
  refine answers_of_refuse ht (by decide) rfl ?_
  rw [touchStartAnswer, fits, hst]

theorem touchStart_accepted (hst : queueTest h (touchFits s k calls) true (closed h s) = none) {cs : List Call}
    (hc : callList calls = some cs) :
    answers (.touchStart h k strength beat opening closing maximum calls) h 0x5B s .ok
      (.touchQueued (newId s) ((s.time.instant + 2000 : Nat) : Int) s.time.instant ((s.time.instant : Int) + 600000)
        (max 1 (min 3 strength)) (max 150 (min 1000 beat)) (openingCount opening) (min 40 closing) (max 1 (min 15000 maximum)))
      (queuePerf (touchPerf s) (touchTaken h s (touchSet s k strength beat opening closing maximum cs))) := by
  have fits : touchFits (closed h s) k calls = touchFits s k calls := by simp only [touchFits, closed_methods]
  refine answers_of_accept ht (by decide) rfl ?_
  rw [touchStartAnswer, fits, hst, ← touchPerf_deadline, ← touchPerf_dueStart, ← touchPerf_firstLanding, hc]
  simp only [touchPerf_closed, closed_methods, newTouch, clamp_zero, clamp_eq 1, clamp_eq 150, touchSet, touchTaken, Option.getD_some]
  rfl

end TouchStart

/-- A touch that starts as it joins the queue (R63, R109). -/
theorem queuePerf_touch_starts {s : State} (hm : s.maintenance = false) (hfree : newId s ∉ s.arbiter.queue.map (·.id))
    (ha : activePerf s = none) (hs : nowSilenced s .touch = false) : queuePerf (touchPerf s) s = { s with
      arbiter := { s.arbiter with
        queue := enqueue (startedPerf (touchPerf s) s) s.arbiter.queue, nextId := idAfter (newId s) }
      touch := { s.touch with status := .ringing, phase := .opening } } := by
  have due : (touchPerf s).dueStart ≤ s.now := le_of_eq (touchPerf_dueStart s)
  have active : activePerf (joinQueue (touchPerf s) s) = none := (activePerf_joinQueue rfl).trans ha
  rw [queuePerf_tested due ha, startTest_of_free (s := joinQueue (touchPerf s) s) (k := .touch) hm active (.inr (.inr ⟨rfl, rfl⟩)) hs]
  have queue := startPlain_joinQueue (p := touchPerf s) (s := s) hfree
  have touch := startPlain_touch (touchPerf s) (joinQueue (touchPerf s) s)
  rw [if_pos (show (touchPerf s).source = .touch from rfl)] at touch
  rw [(show startPlain (touchPerf s) (joinQueue (touchPerf s) s) = { s with
    arbiter := (startPlain (touchPerf s) (joinQueue (touchPerf s) s)).arbiter
    touch := (startPlain (touchPerf s) (joinQueue (touchPerf s) s)).touch } from rfl), queue, touch]
  rfl

/-- A touch that is silenced as it joins the queue is omitted at once (R71, R72). -/
theorem queuePerf_touch_silenced {s : State} (hm : s.maintenance = false) (hids : (s.arbiter.queue.map (·.id)).Nodup)
    (hfree : newId s ∉ s.arbiter.queue.map (·.id)) (ha : activePerf s = none) (hs : nowSilenced s .touch = true) :
    let p := touchPerf s
    queuePerf p s = dropPerf p.id (omitted p .silence .whole (endTouch p .omitted (some .silence) (joinQueue p s))) := by
  intro p
  have due : p.dueStart ≤ s.now := le_of_eq (touchPerf_dueStart s)
  have silent : nowSilenced (joinQueue p s) .touch = true := hs
  have running : (joinQueue p s).maintenance = false := hm
  have tested : startTest p (joinQueue p s) = omitPerf p .silence .whole (joinQueue p s) := by
    rw [startTest, running]
    show testPlain p .touch false (joinQueue p s) = _
    rw [testPlain, if_pos silent]
  rw [queuePerf_tested due ha, tested]
  exact omitPerf_of_plain (nodup_enqueue hids hfree) ((mem_enqueue p p _).mpr (.inl rfl)) rfl rfl _ _

/-- What joining the queue, two notices and leaving again make of the state, the touch context apart. -/
theorem dropPerf_raise_joinQueue (id : Nat) (d e : Detail) (p : Perf) (s : State) (t : Touch) :
    let u := dropPerf id (raise d (raise e { joinQueue p s with touch := t }))
    u.arbiter.queue = (enqueue p s.arbiter.queue).filter (·.id != id) ∧ u.touch = t ∧ u.strikes = s.strikes ∧ u.time = s.time
      ∧ u.hammers = s.hammers :=
  ⟨rfl, rfl, rfl, rfl, rfl⟩

/-! ## The touch taken (O45) -/

theorem nowSilenced_touchTaken (h : Header) (s : State) (t : Touch) (k : SilenceClass) :
    nowSilenced (touchTaken h s t) k = nowSilenced s k := nowSilenced_closed h s k

/-- TOUCH-ENDED of a touch that is silenced as it joins the queue (R116). -/
def touchSilenced (id : Nat) (t : Touch) : Detail :=
  .touchEnded id t.method .omitted (some .silence) t.cameRound t.rowsRung t.changedRows t.falseRows t.leadNumber t.nextCall
    t.calls.length t.row

section TouchTaken
variable {h : Header} {s : State} {t : Touch}

theorem touchTaken_arbiter : (touchTaken h s t).arbiter = s.arbiter := closed_arbiter h s

theorem touchTaken_strikes : (touchTaken h s t).strikes = s.strikes := closeStream_strikes s h.link

theorem touchTaken_hammers : (touchTaken h s t).hammers = s.hammers := closeStream_hammers s h.link

theorem touchPerf_touchTaken : touchPerf (touchTaken h s t) = touchPerf s :=
  touchPerf_congr (closed_arbiter h s) (closed_time h s)

/-- It starts at once, or waits behind what is ACTIVE, under its id and with its context (R108, R109). -/
theorem queuePerf_touchTaken (hq : queueOk s) (hm : s.maintenance = false) (hs : nowSilenced s .touch = false) :
    ∃ p : Perf, p.id = newId s ∧ p.source = .touch ∧ p.firstLanding = ((s.time.instant + 2000 : Nat) : Int)
      ∧ p.dueStart = (s.time.instant : Int) ∧ p.deadline = (s.time.instant : Int) + 600000
      ∧ queuePerf (touchPerf s) (touchTaken h s t) = { closed h s with
        arbiter := { s.arbiter with queue := enqueue p s.arbiter.queue, nextId := idAfter (newId s) }
        touch := if activePerf s = none then { t with status := .ringing, phase := .opening } else t }
      ∧ (activePerf s = none → p.state = .active ∧ p.origin = some ((s.time.instant + 2000 : Nat) : Int))
      ∧ ((activePerf s).isSome = true → p.state = .waiting) := by
  have free := newId_free ((queueOk_iff s).mp hq).1.room
  have id : newId (touchTaken h s t) = newId s := newId_congr touchTaken_arbiter
  by_cases ha : activePerf s = none
  · have started := queuePerf_touch_starts (s := touchTaken h s t) ((closed_maintenance h s).trans hm)
      (by rw [id, touchTaken_arbiter]; exact free) ((activePerf_congr touchTaken_arbiter).trans ha)
      ((nowSilenced_touchTaken h s t .touch).trans hs)
    rw [touchPerf_touchTaken, touchTaken_arbiter, id] at started
    have instant : (touchTaken h s t).now = (s.time.instant : Int) := congrArg (fun x : TowerTime => (x.instant : Int)) (closed_time h s)
    refine ⟨startedPerf (touchPerf s) (touchTaken h s t), rfl, rfl, rfl, touchPerf_dueStart s, touchPerf_deadline s, ?_,
      fun _ => ⟨rfl, ?_⟩, fun hsome => ?_⟩
    · rw [started, if_pos ha]
      rfl
    · rw [startedPerf, instant]
      rfl
    · rw [ha] at hsome
      cases hsome
  · have some := Option.ne_none_iff_isSome.mp ha
    refine ⟨touchPerf s, rfl, rfl, rfl, touchPerf_dueStart s, touchPerf_deadline s, ?_, fun hnone => absurd hnone ha,
      fun _ => rfl⟩
    rw [queuePerf_waits (.inl ((activePerf_congr touchTaken_arbiter).symm ▸ some)), if_neg ha, joinQueue, touchTaken_arbiter]
    rfl

/-- Silenced, it has left again: its context is ENDED, with TOUCH-ENDED and PERFORMANCE-OMITTED (R71, R72, R116). -/
theorem queuePerf_touchTaken_silenced (hq : queueOk s) (hm : s.maintenance = false) (ha : activePerf s = none)
    (hs : nowSilenced s .touch = true) :
    let u := queuePerf (touchPerf s) (touchTaken h s t)
    u.arbiter.queue = s.arbiter.queue ∧ u.touch = { t with status := .ended }
      ∧ nth u.details 8
        = some { instant := s.time.instant, detail := .performanceOmitted (newId s) .touch .silence .whole none 0 0 }
      ∧ nth u.details 11 = some { instant := s.time.instant, detail := touchSilenced (newId s) t }
      ∧ u.strikes = s.strikes ∧ u.time = s.time ∧ u.hammers = s.hammers := by
  intro u
  have fits := ((queueOk_iff s).mp hq).1
  have free := newId_free fits.room
  have id : newId (touchTaken h s t) = newId s := newId_congr touchTaken_arbiter
  have omits := queuePerf_touch_silenced (s := touchTaken h s t) ((closed_maintenance h s).trans hm)
    (by rw [touchTaken_arbiter]; exact fits.ids) (by rw [id, touchTaken_arbiter]; exact free)
    ((activePerf_congr touchTaken_arbiter).trans ha) ((nowSilenced_touchTaken h s t .touch).trans hs)
  rw [touchPerf_touchTaken] at omits
  let v := raise (touchSilenced (newId s) t)
    { joinQueue (touchPerf s) (touchTaken h s t) with touch := { t with status := .ended } }
  have hu : u = dropPerf (newId s) (raise (.performanceOmitted (newId s) .touch .silence .whole none 0 0) v) := omits
  have instant : v.time = s.time := closed_time h s
  have left : (enqueue (touchPerf s) s.arbiter.queue).filter (·.id != newId s) = s.arbiter.queue := by
    rw [filter_enqueue (bne_self_eq_false (newId s))]
    exact List.filter_eq_self.mpr fun x hx => bne_iff_ne.mpr fun hid => free (List.mem_map.mpr ⟨x, hx, hid⟩)
  obtain ⟨queue, touch, strikes, time, hammers⟩ := dropPerf_raise_joinQueue (newId s)
    (.performanceOmitted (newId s) .touch .silence .whole none 0 0) (touchSilenced (newId s) t) (touchPerf s) (touchTaken h s t)
    { t with status := .ended }
  rw [← hu] at queue touch strikes time hammers
  rw [touchTaken_arbiter, left] at queue
  refine ⟨queue, touch, ?_, ?_, strikes.trans touchTaken_strikes, time.trans instant, hammers.trans touchTaken_hammers⟩
  · rw [hu, ← instant]
    exact raise_details_self (d := .performanceOmitted (newId s) .touch .silence .whole none 0 0) v
      (show within 1 18 8 = true by decide)
  · rw [hu, ← instant]
    refine (raise_details_ne (d := .performanceOmitted (newId s) .touch .silence .whole none 0 0) (k := 11) v
      (show (8 : Nat) ≠ 11 by decide)).trans ?_
    exact raise_details_self (d := touchSilenced (newId s) t) _ (show within 1 18 11 = true by decide)

end TouchTaken

end Sys2Proof.Machine

/-! The settled O45: TOUCH-START taken, refused and silenced at once. -/

namespace Sys2Proof.Machine

open Sys2Proof

/-- A TOUCH-START that fits has a call list that spells its calls (R108). -/
theorem callList_of_fits {s : State} {k : Nat} {calls : List (Nat × Nat)} (h : touchFits s k calls = true) :
    ∃ cs, callList calls = some cs ∧ cs.map Call.code = calls := by
  cases hc : callList calls with
  | some cs => exact ⟨cs, rfl, (callList_eq_some_iff calls cs).mp hc⟩
  | none => simp [touchFits, hc] at h

/-- What the context of a touch is as it is queued, whatever its status (R108, R109). -/
theorem touchSet_fields (s : State) (k strength beat opening closing maximum : Nat) (cs : List Call) (x : TouchStatus) :
    let t := { touchSet s k strength beat opening closing maximum cs with status := x }
    t.method = k ∧ t.snap = slot s.methods k ∧ t.strength = max 1 (min 3 strength) ∧ t.beat = max 150 (min 1000 beat)
      ∧ t.opening = openingCount opening ∧ t.closing = min 40 closing ∧ t.maximum = max 1 (min 15000 maximum)
      ∧ t.id = newId s ∧ t.calls.map Call.code = cs.map Call.code ∧ t.phase = .opening ∧ t.row = rounds (slot s.methods k).stage
      ∧ t.rowNumber = none ∧ t.leadNumber = 1 ∧ t.changeIndex = 1 ∧ t.nextCall = 0 ∧ t.rowsRung = 0 ∧ t.changedRows = 0
      ∧ t.falseRows = 0 ∧ t.cameRound = false ∧ t.marks = if (slot s.methods k).stage ≤ 7 then some [] else none :=
  ⟨rfl, rfl, rfl, rfl, rfl, clamp_zero 40 closing, rfl, rfl, rfl, rfl, rfl, rfl, rfl, rfl, rfl, rfl, rfl, rfl, rfl, rfl⟩

/-- Settles O45: the fields are what `touchFits_iff` says, and the touch that joins the queue starts or waits
(`queuePerf_touchTaken`) or is silenced at once (`queuePerf_touchTaken_silenced`). -/
theorem touchStartSetsContext : Obligations.TouchStartSetsContext := by
  refine ⟨?taken, ?tests⟩
  case taken =>
    intro h k strength beat opening closing maximum calls s ht hq hk hm hv hk7 hvalid hlen hasc hcalls i o first
    have fits := (touchFits_iff s k calls).mpr ⟨hk7, hvalid, hlen, hasc, hcalls⟩
    have hk' : h.link = (closed h s).key := by simpa using hk
    have hm' : (closed h s).maintenance = false := by simpa using hm
    have hv' : (closed h s).time.validity = .isSet := by simpa using hv
    refine ⟨fun hbusy => touchStart_refused ht (queueTest_busy hk' hm' hv' fits rfl (by simpa using hbusy)),
      fun hnone hroom => ?_⟩
    obtain ⟨cs, hcs, code⟩ := callList_of_fits fits
    have test : queueTest h (touchFits s k calls) true (closed h s) = none := by
      rw [queueTest_places hk' hm' hv' fits (by simpa using hnone), closed_arbiter, if_neg (Nat.not_le.mpr hroom)]
    have accepted := touchStart_accepted (strength := strength) (beat := beat) (opening := opening) (closing := closing)
      (maximum := maximum) ht test hcs
    by_cases hs : nowSilenced s .touch = false
    · obtain ⟨p, hid, hsrc, hfirst, hdue, hdead, hqueued, hstart, hwait⟩ :=
        queuePerf_touchTaken (h := h) (t := touchSet s k strength beat opening closing maximum cs) hq hm hs
      rw [openingCount_eq] at accepted
      refine ⟨newId s, _, p, accepted, hid, hsrc, hfirst, hdue, hdead, newId_free ((queueOk_iff s).mp hq).1.room, fun _ => ?_⟩
      have fields := touchSet_fields s k strength beat opening closing maximum cs
      rw [code, openingCount_eq] at fields
      rw [hqueued]
      by_cases ha : activePerf s = none
      · rw [if_pos ha]
        refine ⟨rfl, fun hnone => ⟨(hstart hnone).1, (hstart hnone).2, rfl⟩, fun hsome => ?_, fields .ringing⟩
        rw [ha] at hsome
        cases hsome
      · rw [if_neg ha]
        exact ⟨rfl, fun hnone => absurd hnone ha, fun hsome => ⟨hwait hsome, rfl⟩, fields .waiting⟩
    · rw [openingCount_eq] at accepted
      exact ⟨newId s, _, touchPerf s, accepted, rfl, rfl, rfl, touchPerf_dueStart s, touchPerf_deadline s,
        newId_free ((queueOk_iff s).mp hq).1.room, fun hfalse => absurd hfalse hs⟩
  case tests =>
    intro h k strength beat opening closing maximum calls s ht hq m i fits free
    have fit : fits ↔ touchFits s k calls = true := (touchFits_iff s k calls).symm
    refine ⟨fun hk => ?_, fun hk hm => ?_, fun hk hm hv => ?_, fun ⟨hk, hm, hv⟩ hf => ?_, fun ⟨hk, hm, hv⟩ hf hnone hfull => ?_,
      fun ⟨hk, hm, hv⟩ hf hnone hroom ha hs => ?_⟩
    · exact touchStart_refused ht (queueTest_keyed (by simpa using hk))
    · exact touchStart_refused ht (queueTest_mode (by simpa using hk) (by simpa using hm))
    · exact touchStart_refused ht (queueTest_unset (by simpa using hk) (by simpa using hm) (by simpa using hv))
    · refine touchStart_refused ht (queueTest_unfit (by simpa using hk) (by simpa using hm) (by simpa using hv) ?_)
      exact Bool.eq_false_iff.mpr (mt fit.mpr hf)
    · refine touchStart_refused ht ?_
      rw [queueTest_places (by simpa using hk) (by simpa using hm) (by simpa using hv) (fit.mp hf) (by simpa using hnone),
        closed_arbiter, hfull]
      rfl
    · have hfit := fit.mp hf
      obtain ⟨cs, hcs, code⟩ := callList_of_fits hfit
      have test : queueTest h (touchFits s k calls) true (closed h s) = none := by
        rw [queueTest_places (by simpa using hk) (by simpa using hm) (by simpa using hv) hfit (by simpa using hnone),
          closed_arbiter, if_neg (Nat.not_le.mpr hroom)]
      have accepted := touchStart_accepted (strength := strength) (beat := beat) (opening := opening) (closing := closing)
        (maximum := maximum) ht test hcs
      obtain ⟨queue, touch, omitted, ended, strikes, time, hammers⟩ := queuePerf_touchTaken_silenced (h := h)
        (t := touchSet s k strength beat opening closing maximum cs) hq hm ha hs
      have landing : ((s.time.instant + 2000 : Nat) : Int) = (s.time.instant : Int) + 2000 := Int.natCast_add _ _
      have count : cs.length = calls.length := by rw [← code, List.length_map]
      rw [landing] at accepted
      refine ⟨newId s, openingCount opening, _, accepted, newId_free ((queueOk_iff s).mp hq).1.room, queue, ?_, ?_, ?_, ?_,
        omitted, ?_, strikes, time, hammers⟩
      · rw [touch]
      · rw [touch]; rfl
      · rw [touch]; rfl
      · rw [touch]; rfl
      · rw [← count]
        exact ended

end Sys2Proof.Machine

/-! SUPPORT. A performance that waits past its deadline, and the building of clock events, for O29. -/

namespace Sys2Proof.Machine

open Sys2Proof

/-! ## The deadline (R76) -/

/-- The touch as a performance's end leaves it (R116). -/
def touchAfter (p : Perf) (s : State) : Touch := if p.cls = .touch then { s.touch with status := .ended } else s.touch

/-- Beside the touch, its end changes the notices alone. -/
theorem endTouch_same (p : Perf) (how : TouchHow) (reason : Option OmitReason) (s : State) :
    let t := endTouch p how reason s
    t = { s with touch := touchAfter p s, details := t.details, panel := t.panel, chamber := t.chamber } := by
  dsimp only
  unfold endTouch touchAfter
  by_cases h : p.cls = .touch
  · rw [if_pos (beq_iff_eq.mpr h), if_pos h]
    rfl
  · rw [if_neg (mt beq_iff_eq.mp h), if_neg h]

/-- A tested tune, toll or touch whose deadline has come is omitted LATE. -/
theorem exec_performanceDeadline {s : State} {p : Perf} (ho : s.power.operating = true) (hids : (s.arbiter.queue.map (·.id)).Nodup)
    (hp : p ∈ s.arbiter.queue) (hw : p.state = .waiting) (ht : p.tested = true) (hd : p.deadline ≤ s.time.instant) :
    exec (.performanceDeadline p.id) s = .next (omitPerf p .late .whole s) := by
  have due : p.deadlineDue s.now = true := by
    simp only [Perf.deadlineDue, hw, ht, State.now, hd, beq_self_eq_true, Bool.and_self, decide_true]
  show execPerformanceDeadline p.id s = _
  rw [execPerformanceDeadline, whenOperating, if_pos ho, findPerf_of_mem hids hp]
  exact congrArg _ (if_pos due)

/-- What the omission of a waiting tune, toll or touch does (R72, R116). -/
theorem omitPerf_plain_same {s : State} {p : Perf} (hids : (s.arbiter.queue.map (·.id)).Nodup) (hp : p ∈ s.arbiter.queue)
    (hk : p.isClock = false) (hw : p.state = .waiting) (reason : OmitReason) :
    let t := omitPerf p reason .whole s
    t = { s with
        arbiter := { s.arbiter with queue := s.arbiter.queue.filter (fun x => x.id != p.id) }, touch := touchAfter p s
        details := t.details, panel := t.panel, chamber := t.chamber }
      ∧ nth t.details 8
        = some { instant := s.time.instant, detail := .performanceOmitted p.id p.cls reason .whole none 0 0 } := by
  dsimp only
  rw [omitPerf_of_plain hids hp hk hw, omitted, Perf.event_of_plain hk]
  constructor
  · rw [endTouch_same]
    rfl
  · have record := raise_details_self (d := .performanceOmitted p.id p.cls reason .whole none 0 0)
      (endTouch p .omitted (some reason) s) (show within 1 18 8 = true by decide)
    rw [endTouch_same] at record ⊢
    exact record

/-- The third part of O29: a tested tune, toll or touch that waits past its deadline. -/
theorem deadline_omits {s : State} {p : Perf} (ho : s.power.operating = true) (hq : queueOk s) (hp : p ∈ s.arbiter.queue)
    (hk : p.isClock = false) (hw : p.state = .waiting) (ht : p.tested = true) (hd : p.deadline ≤ s.time.instant) :
    ∃ t, exec (.performanceDeadline p.id) s = .next t
      ∧ t.arbiter = { s.arbiter with queue := s.arbiter.queue.filter (fun x => x.id != p.id) }
      ∧ nth t.details 8
        = some { instant := s.time.instant, detail := .performanceOmitted p.id p.cls .late .whole none 0 0 }
      ∧ t.touch = (if p.cls = .touch then { s.touch with status := .ended } else s.touch)
      ∧ t.time = s.time ∧ t.strikes = s.strikes ∧ t.hammers = s.hammers ∧ t.swings = s.swings ∧ t.lights = s.lights := by
  have hids := ((queueOk_iff s).mp hq).1.ids
  obtain ⟨same, record⟩ := omitPerf_plain_same hids hp hk hw .late
  refine ⟨_, exec_performanceDeadline ho hids hp hw ht hd, ?_, record, ?_⟩ <;> rw [same]
  exact ⟨rfl, rfl, rfl, rfl, rfl, rfl⟩

end Sys2Proof.Machine

/-! SUPPORT. The parts of a clock event, the first event that may be built, and its building, for O29. -/

namespace Sys2Proof.Machine

open Sys2Proof

/-! ## The parts of an event (R68, R69) -/

theorem planStrike_eq (s : State) (e : Nat) : planStrike s e
    = if e % 4 = 0 ∧ (slot s.calendar.classes (classOf s.calendar (e / 96)).1).strikeHours = true then
        some { bell := s.arbiter.clockStrike.bell, strength := s.arbiter.clockStrike.strength
               count := if e % 96 / 4 % 12 = 0 then 12 else e % 96 / 4 % 12, interval := s.arbiter.clockStrike.interval
               first := (e * 900000 : Nat) }
      else none := by
  have hour : e % 96 % 4 = e % 4 := by omega
  simp only [planStrike, hour, Bool.and_eq_true, decide_eq_true_eq]
  rfl

/-- The position of a set whose tune chimes at an event (R57). -/
def chimePosition (e : Nat) : Nat := if e % 4 = 0 then 4 else e % 4

/-- The chime part of an event that a tune of a set gives. -/
def chimePart (s : State) (e k n : Nat) : ChimePart where
  snap := (slot s.tunes n).snap
  tune := n
  chimeSet := k
  position := chimePosition e
  entry := (nth (slot s.chimes k) (chimePosition e)).pointer
  first :=
    if e % 4 = 0 then
      (e * 900000 : Nat) - (s.arbiter.clockStrike.gap : Int)
        - (((slot s.tunes n).snap.length - 1) * (slot s.tunes n).snap.beat : Nat)
    else (e * 900000 : Nat)

theorem planChime_eq (s : State) (e : Nat) : planChime s e
    = let cls := slot s.calendar.classes (classOf s.calendar (e / 96)).1
      if cls.chimeQuarters = true then
        cls.chimeSet.bind fun k =>
          let p := nth (slot s.chimes k) (chimePosition e)
          p.tunes[p.pointer]?.map (chimePart s e k)
      else none := by
  have hour : e % 96 % 4 = e % 4 := by omega
  simp only [planChime, hour]
  cases (slot s.calendar.classes (classOf s.calendar (e / 96)).1).chimeQuarters with
  | false => rfl
  | true =>
    cases (slot s.calendar.classes (classOf s.calendar (e / 96)).1).chimeSet with
    | none => rfl
    | some k =>
      show (match (nth (slot s.chimes k) (chimePosition e)).tunes[(nth (slot s.chimes k) (chimePosition e)).pointer]? with
        | none => none
        | some n => some (chimePart s e k n)) = _
      cases h : (nth (slot s.chimes k) (chimePosition e)).tunes[(nth (slot s.chimes k) (chimePosition e)).pointer]? <;> simp [h]

/-- The chime part of a class that chimes the quarters from a set (R69). -/
theorem planChime_of_set {s : State} {e k : Nat} (hc : (slot s.calendar.classes (classOf s.calendar (e / 96)).1).chimeQuarters = true)
    (hk : (slot s.calendar.classes (classOf s.calendar (e / 96)).1).chimeSet = some k) : planChime s e
    = (nth (slot s.chimes k) (chimePosition e)).tunes[(nth (slot s.chimes k) (chimePosition e)).pointer]?.map (chimePart s e k) := by
  rw [planChime_eq]
  simp only [hc, if_true, hk, Option.bind_some]

theorem planChime_of_unset {s : State} {e : Nat}
    (h : (slot s.calendar.classes (classOf s.calendar (e / 96)).1).chimeQuarters = false
      ∨ (slot s.calendar.classes (classOf s.calendar (e / 96)).1).chimeSet = none) : planChime s e = none := by
  rw [planChime_eq]
  rcases h with hc | hk
  · simp [hc]
  · simp [hk]

/-- Every part of an event lands at most 13,777,000 ms before its quarter, where the tunes and the gap are in range (R47, R67). -/
structure PlansBounded (s : State) : Prop where
  gap : s.arbiter.clockStrike.gap ≤ 10000
  tunes : ∀ k ∈ numbers 0 31, let t := (slot s.tunes k).snap
    t.intro ≤ 255 ∧ t.body ≤ 255 ∧ t.coda ≤ 255 ∧ t.passes ≤ 16 ∧ t.beat ≤ 3000

theorem PlansBounded.duration {s : State} (h : PlansBounded s) (n : Nat) :
    ((slot s.tunes n).snap.length - 1) * (slot s.tunes n).snap.beat ≤ 13767000 := by
  have range : (slot s.tunes n).snap.length - 1 ≤ 4589 ∧ (slot s.tunes n).snap.beat ≤ 3000 := by
    by_cases hn : n ≤ 31
    · obtain ⟨intro, body, coda, passes, beat⟩ := h.tunes n ((mem_numbers 0 31 n).mpr ⟨Nat.zero_le n, hn⟩)
      have bodies : (slot s.tunes n).snap.body * (slot s.tunes n).snap.passes ≤ 255 * 16 := Nat.mul_le_mul body passes
      refine ⟨?_, beat⟩
      rw [TuneSnap.length]
      omega
    · rw [slot, dif_neg (by omega)]
      decide
  exact Nat.mul_le_mul range.1 range.2

theorem PlansBounded.firstOf {s : State} (h : PlansBounded s) {e : Nat} {f : Int}
    (hf : firstOf (planChime s e) (planStrike s e) = some f) : (e * 900000 : Nat) - 13777000 ≤ f := by
  have chime (c : ChimePart) (hc : planChime s e = some c) : (e * 900000 : Nat) - 13777000 ≤ c.first := by
    rw [planChime_eq] at hc
    obtain ⟨-, hc⟩ := Option.ite_none_right_eq_some.mp hc
    obtain ⟨k, -, hc⟩ := Option.bind_eq_some_iff.mp hc
    obtain ⟨n, -, rfl⟩ := Option.map_eq_some_iff.mp hc
    have gap := h.gap
    have duration := h.duration n
    simp only [chimePart]
    split <;> omega
  have strike (k : StrikePart) (hk : planStrike s e = some k) : (e * 900000 : Nat) - 13777000 ≤ k.first := by
    rw [planStrike_eq] at hk
    obtain ⟨-, hk⟩ := Option.ite_none_right_eq_some.mp hk
    cases hk
    dsimp only
    omega
  cases hc : planChime s e <;> cases hk : planStrike s e <;> rw [hc, hk] at hf <;> cases hf
  · exact strike _ hk
  · exact chime _ hc
  · exact le_min (chime _ hc) (strike _ hk)

/-! ## The first event that may be built (R68) -/

/-- The build time of an event, none when it would build nothing (R68, R69). -/
def buildTime (s : State) (n : Nat) : Option Int := (firstOf (planChime s n) (planStrike s n)).map (· - 62000)

theorem buildTime_eq_some {s : State} {n : Nat} {d : Int} : buildTime s n = some d ↔ eventDue s n = some (d + 60000) := by
  rw [eventDue_eq_some, buildTime, Option.map_eq_some_iff]
  constructor
  · rintro ⟨f, hf, rfl⟩
    rw [hf]
    exact congrArg some (by omega)
  · exact fun h => ⟨_, h, by omega⟩

/-- An event after the marker that may not be built stands in the queue, builds nothing or has its build time to come. -/
theorem not_buildable_iff {s : State} {m n : Nat} (hv : s.time.validity = .isSet) (hm : s.time.marker = some m) (hmn : m < n) :
    ¬buildable s n = true ↔ (∃ p ∈ s.arbiter.queue, p.event = some n) ∨ ∀ d, buildTime s n = some d → (s.time.instant : Int) < d := by
  rw [buildable_iff, ← eventQueued_iff]
  cases hq : eventQueued s n with
  | true => simp
  | false =>
    have after : ∃ k, s.time.marker = some k ∧ k < n := ⟨m, hm, hmn⟩
    simp only [hv, after, true_and, Bool.false_eq_true, false_or, not_exists, not_and, Int.not_le, buildTime_eq_some]
    refine ⟨fun h d hd => ?_, fun h x hx => ?_⟩
    · have := h _ hd
      rw [State.now] at this
      omega
    · have := h (x - 60000) (by rw [hx]; exact congrArg some (by omega))
      rw [State.now]
      omega

theorem nextBuild_of_set {s : State} (hv : s.time.validity = .isSet) : nextBuild s = (candidates s).find? (buildable s) := by
  rw [nextBuild, hv]
  rfl

/-- With none to build, no event after the marker may be built (R68). -/
theorem not_buildable_of_none {s : State} (hn : nextBuild s = none) (hv : s.time.validity = .isSet) (hb : PlansBounded s)
    {m n : Nat} (hm : s.time.marker = some m) (hmn : m < n) (hlast : n * 900000 ≤ 3155759999999) : ¬buildable s n = true := by
  intro h
  obtain ⟨-, -, -, x, hx, hle⟩ := (buildable_iff s n).mp h
  have early := hb.firstOf (eventDue_eq_some.mp hx)
  rw [State.now] at hle
  have candidate : n ∈ candidates s := by
    rw [mem_candidates hm, lastCandidate]
    refine ⟨hmn, ?_⟩
    rw [Config.quarterMs, Config.lastInstant, Nat.le_div_iff_mul_le (by decide)]
    omega
  rw [nextBuild_of_set hv, List.find?_eq_none] at hn
  exact hn n candidate h

/-- The event to build is the first after the marker that may be built (R68). -/
theorem nextBuild_eq_some {s : State} {e : Nat} (hn : nextBuild s = some e) : s.time.validity = .isSet
    ∧ ∃ m, s.time.marker = some m ∧ m < e ∧ buildable s e = true ∧ ∀ n, m < n → n < e → ¬buildable s n = true := by
  have hv : s.time.validity = .isSet := by
    cases hv : s.time.validity with
    | isSet => rfl
    | _ => simp [nextBuild, hv] at hn
  rw [nextBuild_of_set hv] at hn
  obtain ⟨hb, before, behind, split, early⟩ := List.find?_eq_some_iff_append.mp hn
  obtain ⟨-, ⟨m, hm, hme⟩, -⟩ := (buildable_iff s e).mp hb
  refine ⟨hv, m, hm, hme, hb, fun n hmn hne => ?_⟩
  have ordered : (candidates s).Pairwise (· < ·) := by
    rw [candidates, hm]
    exact List.pairwise_map.mpr (List.pairwise_lt_range.imp (Nat.add_lt_add_right · _))
  have mem : n ∈ candidates s := by
    have last := ((mem_candidates hm).mp (List.mem_of_find?_eq_some hn)).2
    exact (mem_candidates hm).mpr ⟨hmn, by omega⟩
  rw [split, List.mem_append, List.mem_cons] at mem
  rw [split, List.pairwise_append, List.pairwise_cons] at ordered
  rcases mem with first | rfl | later
  · exact (Bool.not_eq_true' _).mp (early n first) ▸ Bool.false_ne_true
  · exact absurd hne (Nat.lt_irrefl _)
  · exact absurd (ordered.2.1.1 n later) (by omega)

end Sys2Proof.Machine

/-! SUPPORT. A clock event as it is built, whole or in part, or served unbuilt, for O29. -/

namespace Sys2Proof.Machine

open Sys2Proof

/-! ## Building (R68, R69) -/

/-- The state as a clock event of the parts joins the queue under the id. -/
def joinEvent (id e : Nat) (c : Option ChimePart) (k : Option StrikePart) (f : Int) (s : State) : State :=
  joinQueue (waitingPerf id (.clock e c k) f 0) s

/-- The waiting performance of a clock event has no wait limit (R62). -/
theorem joinEvent_eq (id e : Nat) (c : Option ChimePart) (k : Option StrikePart) (f : Int) (s : State) : joinEvent id e c k f s
    = { s with
      arbiter :=
        { s.arbiter with
          queue := enqueue
            { id := id, source := .clock e c k, firstLanding := f, dueStart := f - 2000, deadline := f - 2000
              state := .waiting, tested := false, origin := none, cursor := 0, inStrike := c.isNone, stopped := none
              booked := 0, dropped := 0, lastTaken := none } s.arbiter.queue
          nextId := if id < 255 then id + 1 else 1 } } := by
  have deadline : f - 2000 + ((0 : Nat) : Int) = f - 2000 := Int.add_zero _
  show { s with arbiter := { s.arbiter with
    queue := enqueue { waitingPerf id (.clock e c k) f 0 with deadline := f - 2000 + ((0 : Nat) : Int) } s.arbiter.queue
    nextId := idAfter id } } = _
  rw [deadline]
  rfl

/-- What is left of a part that may come too late. -/
def inTime {α : Type} (late : Bool) (x : Option α) : Option α := if late then none else x

/-- No part comes too late, or whatever part there is does. -/
theorem late_eq_false {α : Type} {s : State} {x : Option α} {first : α → Int}
    (h : ∀ c, x = some c → s.now + 2000 ≤ first c) : x.any (fun c => tooLate s (first c)) = false := by
  cases x with
  | none => rfl
  | some c => exact (tooLate_eq_false_iff s _).mpr (h c rfl)

theorem late_eq_isSome {α : Type} {s : State} {x : Option α} {first : α → Int}
    (h : ∀ c, x = some c → ¬s.now + 2000 ≤ first c) : x.any (fun c => tooLate s (first c)) = x.isSome := by
  cases x with
  | none => rfl
  | some c => exact Bool.not_eq_false _ ▸ mt (tooLate_eq_false_iff s _).mp (h c rfl)

theorem inTime_isSome {α : Type} (x : Option α) : inTime x.isSome x = none := by
  cases x <;> rfl

section Built
variable {s : State} {e : Nat} (room : s.arbiter.queue.length < 8)
include room

theorem buildEvent_of_room : buildEvent e s
    = let chimeLate := (planChime s e).any (fun c => tooLate s c.first)
      let strikeLate := (planStrike s e).any (fun k => tooLate s k.first)
      let c := inTime chimeLate (planChime s e)
      let k := inTime strikeLate (planStrike s e)
      let told (id : Nat) := latePart id e .strike strikeLate (latePart id e .chime chimeLate s)
      match firstOf c k with
      | none => moveMarker e (told 0)
      | some f => joinEvent (newId s) e c k f (told (newId s)) := by
  have full : ¬Config.queuePlaces ≤ s.arbiter.queue.length := Nat.not_le.mpr room
  rw [buildEvent, if_neg full]
  dsimp only [inTime]
  split
  · rename_i h
    rw [h]
    rfl
  · rename_i f h
    rw [h]
    rfl

theorem buildEvent_whole (hc : ∀ c, planChime s e = some c → s.now + 2000 ≤ c.first)
    (hk : ∀ k, planStrike s e = some k → s.now + 2000 ≤ k.first) {f : Int}
    (hf : firstOf (planChime s e) (planStrike s e) = some f) :
    buildEvent e s = joinEvent (newId s) e (planChime s e) (planStrike s e) f s := by
  rw [buildEvent_of_room room, late_eq_false hc, late_eq_false hk]
  simp only [inTime, Bool.false_eq_true, if_false, hf]
  rfl

/-- The chime is too late, the strike is not (R69). -/
theorem buildEvent_strike {c : ChimePart} {k : StrikePart} (hc : planChime s e = some c) (hk : planStrike s e = some k)
    (late : ¬s.now + 2000 ≤ c.first) (intime : s.now + 2000 ≤ k.first) : buildEvent e s
      = joinEvent (newId s) e none (planStrike s e) k.first
        (raise (.performanceOmitted (newId s) .clock .late .chime (some e) 0 0) s) := by
  have chime : (planChime s e).any (fun c => tooLate s c.first) = (planChime s e).isSome :=
    late_eq_isSome fun x hx => by rw [← Option.some.inj (hc.symm.trans hx)]; exact late
  have strike : (planStrike s e).any (fun k => tooLate s k.first) = false :=
    late_eq_false fun x hx => by rw [← Option.some.inj (hk.symm.trans hx)]; exact intime
  rw [buildEvent_of_room room, chime, strike, hc, hk]
  rfl

/-- Every part is too late: each is reported, and the event is served. -/
theorem buildEvent_late (hc : ∀ c, planChime s e = some c → ¬s.now + 2000 ≤ c.first)
    (hk : ∀ k, planStrike s e = some k → ¬s.now + 2000 ≤ k.first) : buildEvent e s
      = moveMarker e (latePart 0 e .strike (planStrike s e).isSome (latePart 0 e .chime (planChime s e).isSome s)) := by
  rw [buildEvent_of_room room, late_eq_isSome hc, late_eq_isSome hk]
  dsimp only
  rw [inTime_isSome, inTime_isSome]
  rfl

end Built

/-- CLOCK-EVENT-BUILD builds the event found, and nothing where there is none (R68). -/
theorem exec_clockEventBuild {s : State} (ho : s.power.operating = true) :
    exec .clockEventBuild s = .next ((nextBuild s).elim s (buildEvent · s)) := by
  show execClockEventBuild s = _
  rw [execClockEventBuild, whenOperating, if_pos ho]
  cases nextBuild s <;> rfl

theorem latePart_eq (id e : Nat) (part : ClockPart) (late : Bool) (s : State) : latePart id e part late s
    = if late then raise (.performanceOmitted id .clock .late part (some e) 0 0) s else s := rfl

/-- Late parts are reported without moving the marker. -/
theorem latePart_marker (id e : Nat) (part : ClockPart) (late : Bool) (s : State) :
    (latePart id e part late s).time = s.time := by
  rw [latePart_eq]
  split <;> rfl

end Sys2Proof.Machine

/-! SUPPORT. The pending set of a link as a notice occurs, and what offering the hammers leaves of it, for O29. -/

namespace Sys2Proof.Machine

open Sys2Proof

/-! ## A notice at a link (R174) -/

@[simp] theorem occur_unmasked (l : LinkState) (k : Nat) : (l.occur k).unmasked = l.unmasked := (occur_frame l k).2.2.1

/-- A kind that is not masked counts up to 255. -/
theorem occur_pending_self {l : LinkState} {k : Nat} (hk : within 1 18 k = true) (hu : nth l.unmasked k = true) :
    nth (l.occur k).pending k = min 255 (nth l.pending k + 1) := by
  rw [LinkState.occur, if_pos hu, nth_setNth_self _ _ _ hk]
  rfl

theorem occur_pending_ne (l : LinkState) {k j : Nat} (h : k ≠ j) : nth (l.occur k).pending j = nth l.pending j := by
  unfold LinkState.occur
  split
  · exact nth_setNth_ne _ _ _ _ h
  · split <;> rfl

/-! ## No performance ends where the hammers are offered -/

/-- No PERFORMANCE-ENDED is raised: its pending counts stay, and what the links have unmasked. -/
structure NoneEnds (s t : State) : Prop where
  pending : ∀ l, nth (t.link l).pending 9 = nth (s.link l).pending 9
  unmasked : ∀ l, (t.link l).unmasked = (s.link l).unmasked

theorem NoneEnds.of_link {s t : State} (h : ∀ l, t.link l = s.link l) : NoneEnds s t :=
  ⟨fun l => by rw [h], fun l => by rw [h]⟩

theorem NoneEnds.refl (s : State) : NoneEnds s s := .of_link fun _ => rfl

theorem NoneEnds.trans {s t u : State} (h : NoneEnds s t) (h' : NoneEnds t u) : NoneEnds s u :=
  ⟨fun l => (h'.pending l).trans (h.pending l), fun l => (h'.unmasked l).trans (h.unmasked l)⟩

theorem NoneEnds.foldl {α : Type} {f : State → α → State} (hf : ∀ s x, NoneEnds s (f s x)) (xs : List α) (s : State) :
    NoneEnds s (xs.foldl f s) := foldl_rel NoneEnds.refl NoneEnds.trans hf xs s

theorem NoneEnds.ite {s t u : State} {p : Prop} [Decidable p] (ht : NoneEnds s t) (hu : NoneEnds s u) :
    NoneEnds s (if p then t else u) := by
  split
  · exact ht
  · exact hu

/-- The queue, the marker, a chime pointer and the touch are no matter of the links. -/
theorem NoneEnds.of_sets {s t : State} (hp : t.panel = s.panel := by rfl) (hc : t.chamber = s.chamber := by rfl) : NoneEnds s t :=
  .of_link fun l => by cases l <;> assumption

theorem NoneEnds.raise {d : Detail} (s : State) (h : d.kind ≠ 9) : NoneEnds s (raise d s) :=
  ⟨fun l => by rw [raise_link, occur_pending_ne _ h], fun l => by rw [raise_link, occur_unmasked]⟩

theorem NoneEnds.omitted (p : Perf) (reason : OmitReason) (part : ClockPart) (s : State) :
    NoneEnds s (omitted p reason part s) := .raise s (show (8 : Nat) ≠ 9 by decide)

theorem NoneEnds.endTouch (p : Perf) (how : TouchHow) (reason : Option OmitReason) (s : State) :
    NoneEnds s (endTouch p how reason s) :=
  .ite ((NoneEnds.of_sets (s := s)).trans (.raise { s with touch := { s.touch with status := .ended } } (show (11 : Nat) ≠ 9 by decide)))
    (.refl s)

theorem NoneEnds.moveMarker (event : Nat) (s : State) : NoneEnds s (moveMarker event s) := by
  rw [moveMarker_same]
  exact .of_sets

theorem NoneEnds.serveEvent (p : Perf) (s : State) : NoneEnds s (serveEvent p s) := by
  unfold Machine.serveEvent
  split
  · exact .moveMarker _ s
  · exact .refl s

theorem NoneEnds.endHold (was : Option Nat) (s : State) : NoneEnds s (endHold was s) := by
  unfold Machine.endHold
  split
  · exact .ite .of_sets (.refl s)
  · exact .refl s

theorem NoneEnds.served (p : Perf) (was : Option Nat) (s : State) :
    NoneEnds s (Machine.endHold was (Machine.serveEvent p (dropPerf p.id s))) :=
  ((NoneEnds.of_sets (t := dropPerf p.id s)).trans (.serveEvent p _)).trans (.endHold _ _)

theorem NoneEnds.omitPerf (p : Perf) (reason : OmitReason) (part : ClockPart) (s : State) : NoneEnds s (omitPerf p reason part s) :=
  ((NoneEnds.endTouch p _ _ s).trans (.omitted p reason part _)).trans (.served p _ _)

theorem NoneEnds.advanceChime (set position : Nat) (s : State) : NoneEnds s (advanceChime set position s) := by
  unfold Machine.advanceChime
  exact .ite (.refl s) .of_sets

theorem NoneEnds.startClock (p : Perf) (event : Nat) (chime : Option ChimePart) (strike : Option StrikePart) (s : State) :
    NoneEnds s (startClock p event chime strike s) := by
  have moved (f : Perf → Perf) : NoneEnds s (Machine.moveMarker event (updatePerf p.id f s)) :=
    (NoneEnds.of_sets (t := updatePerf p.id f s)).trans (.moveMarker event _)
  cases chime with
  | none => exact moved _
  | some c => exact (moved _).trans (.advanceChime _ _ _)

theorem NoneEnds.arbitrateClock (p : Perf) (event : Nat) (chime : Option ChimePart) (strike : Option StrikePart)
    (part : ClockPart) (s : State) : NoneEnds s (arbitrateClock p event chime strike part s) := by
  unfold Machine.arbitrateClock
  split
  · exact .startClock p event chime strike s
  · exact .ite ((NoneEnds.of_sets (t := pause _ s)).trans (.startClock p event chime strike _)) (.omitPerf p _ _ s)

theorem NoneEnds.partTest {α : Type} (p : Perf) (reason : OmitReason) (part : ClockPart) (fails : α → Bool) (x : Option α)
    (s : State) : NoneEnds s (partTest p reason part fails x s).2 := by
  unfold Machine.partTest
  split
  · exact .omitted p reason part s
  · exact .refl s

theorem NoneEnds.testClock (p : Perf) (event : Nat) (chime : Option ChimePart) (strike : Option StrikePart) (s : State) :
    NoneEnds s (testClock p event chime strike s) := by
  unfold Machine.testClock
  refine .ite (.omitPerf p _ _ s) (NoneEnds.trans ?_ (.ite (.served p _ _) (.arbitrateClock _ _ _ _ _ _)))
  exact (((NoneEnds.partTest _ _ _ _ _ s).trans (.partTest _ _ _ _ _ _)).trans (.partTest _ _ _ _ _ _)).trans
    (.partTest _ _ _ _ _ _)

theorem NoneEnds.startPlain (p : Perf) (s : State) : NoneEnds s (startPlain p s) := by
  unfold Machine.startPlain
  exact .ite .of_sets .of_sets

theorem NoneEnds.testPlain (p : Perf) (k : SilenceClass) (lacks : Bool) (s : State) : NoneEnds s (testPlain p k lacks s) := by
  unfold Machine.testPlain
  refine .ite (.omitPerf _ _ _ s) (.ite (.omitPerf _ _ _ s) ?_)
  split
  · exact .startPlain p s
  · exact .of_sets

theorem NoneEnds.startTest (p : Perf) (s : State) : NoneEnds s (startTest p s) := by
  unfold Machine.startTest
  refine .ite (.omitPerf _ _ _ s) ?_
  split
  · exact .testClock p _ _ _ s
  all_goals exact .testPlain p _ _ s

theorem NoneEnds.offerTo (s : State) (id : Nat) : NoneEnds s (offerTo s id) := by
  unfold Machine.offerTo
  split
  · exact .ite (.startTest _ s) (.refl s)
  · exact .refl s

theorem NoneEnds.offerHammers (clock : Option Int) (s : State) : NoneEnds s (offerHammers clock s) := by
  unfold Machine.offerHammers
  split
  · exact .of_sets
  · exact .foldl NoneEnds.offerTo _ s

end Sys2Proof.Machine

/-! SUPPORT. What HUSH stops and removes, and the performances that end by it one after another, for O29. -/

namespace Sys2Proof.Machine

open Sys2Proof

/-! ## Performances that end HUSHED one after another (R77, R78) -/

/-- The notice of the end of a performance by HUSH. -/
def hushedNote (s : State) (p : Perf) : Note :=
  { instant := s.time.instant, detail := .performanceEnded p.id p.cls .hushed p.booked p.dropped }

/-- The performances have ended HUSHED, the last of them last. -/
structure EndHushed (l : List Perf) (s t : State) : Prop where
  same : t = { s with
    arbiter := { s.arbiter with queue := s.arbiter.queue.filter (fun x => !l.any (·.id == x.id)) }
    touch := if l.any (·.cls == .touch) then { s.touch with status := .ended } else s.touch
    details := t.details, panel := t.panel, chamber := t.chamber }
  record : ∀ p, l.getLast? = some p → nth t.details 9 = some (hushedNote s p)
  pending : ∀ k, nth (s.link k).unmasked 9 = true → l ≠ [] →
    nth (t.link k).pending 9 = min 255 (nth (s.link k).pending 9 + l.length)
  unmasked : ∀ k, (t.link k).unmasked = (s.link k).unmasked
  unchanged : l = [] → t = s

theorem endPerf_hushed_same (p : Perf) (s : State) :
    let t := endPerf p .hushed s
    t = { s with
      arbiter := { s.arbiter with queue := s.arbiter.queue.filter (·.id != p.id) }, touch := touchAfter p s
      details := t.details, panel := t.panel, chamber := t.chamber } := by
  have ends : endPerf p .hushed s
      = dropPerf p.id (raise (.performanceEnded p.id p.cls .hushed p.booked p.dropped) (endTouch p .hushed none s)) := rfl
  dsimp only
  rw [ends, endTouch_same]
  rfl

theorem endPerf_hushed_link (p : Perf) (s : State) (l : Link) :
    ((endPerf p .hushed s).link l) = (((endTouch p .hushed none s).link l).occur 9) :=
  raise_link (.performanceEnded p.id p.cls .hushed p.booked p.dropped) (endTouch p .hushed none s) l

theorem EndHushed.nil (s : State) : EndHushed [] s s where
  same := by simp
  record p hp := by cases hp
  pending k _ h := absurd rfl h
  unmasked k := rfl
  unchanged _ := rfl

/-- The queue and the touch after one more has ended. -/
theorem filter_concat_ids (l : List Perf) (p : Perf) (q : List Perf) :
    (q.filter (fun x => !l.any (·.id == x.id))).filter (·.id != p.id) = q.filter (fun x => !(l ++ [p]).any (·.id == x.id)) := by
  rw [List.filter_filter]
  refine List.filter_congr fun x _ => ?_
  rw [List.any_append, List.any_cons, List.any_nil, Bool.or_false, Bool.not_or, Bool.and_comm, bne, Bool.beq_comm]

theorem touchAfter_concat {l : List Perf} {s t : State} (h : t.touch
    = if l.any (·.cls == .touch) then { s.touch with status := .ended } else s.touch) (p : Perf) : touchAfter p t
    = if (l ++ [p]).any (·.cls == .touch) then { s.touch with status := .ended } else s.touch := by
  rw [List.any_append, List.any_cons, List.any_nil, Bool.or_false, touchAfter, h]
  by_cases hp : p.cls = .touch <;> cases l.any (·.cls == .touch) <;> simp [hp]

theorem EndHushed.snoc {l : List Perf} {s t : State} (h : EndHushed l s t) (p : Perf) :
    EndHushed (l ++ [p]) s (endPerf p .hushed t) where
  same := by
    have touch := touchAfter_concat (s := s) (t := t) (by rw [h.same]) p
    rw [endPerf_hushed_same, touch, h.same, ← filter_concat_ids]
  record q hq := by
    rw [List.getLast?_concat] at hq
    cases hq
    rw [endPerf_record, h.same]
    rfl
  pending k hu _ := by
    have touched := NoneEnds.endTouch p .hushed none t
    rw [endPerf_hushed_link, occur_pending_self (by decide) (by rw [touched.unmasked, h.unmasked]; exact hu), touched.pending,
      List.length_append, List.length_singleton]
    by_cases hl : l = []
    · rw [h.unchanged hl, hl]
      rfl
    · rw [h.pending k hu hl]
      omega
  unmasked k := by rw [endPerf_hushed_link, occur_unmasked, (NoneEnds.endTouch p .hushed none t).unmasked, h.unmasked]
  unchanged hl := absurd hl (List.append_ne_nil_of_right_ne_nil l (List.cons_ne_nil p []))

theorem EndHushed.foldl (l : List Perf) (s : State) : EndHushed l s (l.foldl (fun s p => endPerf p .hushed s) s) := by
  induction l using List.reverseRecOn with
  | nil => exact .nil s
  | append_singleton l p ih =>
    rw [List.foldl_append]
    exact ih.snoc p

end Sys2Proof.Machine

/-! SUPPORT. What HUSH makes of the queue, and the performances that it ends, for O29. -/

namespace Sys2Proof.Machine

open Sys2Proof

/-! ## What HUSH stops, removes and ends (R78) -/

/-- A performance as HUSH marks it. -/
def hushMark (f : Bool) (p : Perf) : Perf := if hushable f p then { p with stopped := some .hushed } else p

/-- A stopped performance with no entries left to take ends at once, as every one that is removed does. -/
def hushEnds (f : Bool) (s : State) (p : Perf) : Bool := hushRemoves p || hushable f p && !hasEntries s p.id

/-- The performances that HUSH ends, in the order in which they do. -/
def hushEnded (f : Bool) (s : State) : List Perf :=
  s.arbiter.queue.filter hushRemoves ++ (s.arbiter.queue.filter (fun p => hushable f p && !hasEntries s p.id)).map (hushMark f)

theorem hushRemoves_eq (p : Perf) : hushRemoves p = (p.state != .active && p.stopped.isNone && !p.isClock) := by
  rw [hushRemoves, Bool.and_assoc, Bool.and_comm (!p.isClock), ← Bool.and_assoc]

theorem hushable_iff (f : Bool) (p : Perf) :
    hushable f p = true ↔ p.state = .active ∧ p.stopped = none ∧ (f = true ∨ p.isClock = false) := by
  simp [hushable, and_assoc]

theorem hushRemoves_iff (p : Perf) : hushRemoves p = true ↔ p.state ≠ .active ∧ p.isClock = false ∧ p.stopped = none := by
  simp [hushRemoves, and_assoc]

/-- What is stopped is not removed. -/
theorem hushRemoves_of_hushable {f : Bool} {p : Perf} (h : hushable f p = true) : hushRemoves p = false := by
  obtain ⟨active, -, -⟩ := (hushable_iff f p).mp h
  simp [hushRemoves, active]

theorem hushMark_of_not {f : Bool} {p : Perf} (h : ¬hushable f p = true) : hushMark f p = p := if_neg h

theorem hushMark_of_hushable {f : Bool} {p : Perf} (h : hushable f p = true) : hushMark f p = { p with stopped := some .hushed } :=
  if_pos h

/-- The mark changes nothing else of it. -/
theorem hushMark_same (f : Bool) (p : Perf) : hushMark f p = { p with stopped := (hushMark f p).stopped } := by
  unfold hushMark
  split <;> rfl

theorem hushMark_id (f : Bool) (p : Perf) : (hushMark f p).id = p.id := by rw [hushMark_same]

theorem hushMark_cls (f : Bool) (p : Perf) : (hushMark f p).cls = p.cls := by rw [hushMark_same]; rfl

theorem hushMark_state (f : Bool) (p : Perf) : (hushMark f p).state = p.state := by rw [hushMark_same]

/-- HUSH stops one performance at most, the ACTIVE one. -/
theorem hushable_unique {f : Bool} {q : List Perf} (hq : QueueFits q) {a p : Perf} (ha : a ∈ q) (hp : p ∈ q)
    (hsa : hushable f a = true) (hsp : hushable f p = true) : p = a := by
  obtain ⟨pa, -⟩ := (hushable_iff f p).mp hsp
  obtain ⟨aa, -⟩ := (hushable_iff f a).mp hsa
  exact eq_of_id hq.ids hp ha (hq.oneActive p hp a ha pa aa)

theorem filter_hushable {f : Bool} {q : List Perf} (hq : QueueFits q) :
    q.filter (hushable f) = [] ∨ ∃ a ∈ q, hushable f a = true ∧ q.filter (hushable f) = [a] := by
  have one : (q.filter (hushable f)).length ≤ 1 :=
    (length_filter_le_one_iff hq.ids _).mpr fun a ha p hp hsa hsp => by rw [hushable_unique hq ha hp hsa hsp]
  match h : q.filter (hushable f) with
  | [] => exact .inl rfl
  | [a] =>
    obtain ⟨ha, hsa⟩ := List.mem_filter.mp (h ▸ List.mem_singleton_self a : a ∈ q.filter (hushable f))
    exact .inr ⟨a, ha, hsa, rfl⟩
  | _ :: _ :: _ =>
    rw [h] at one
    exact absurd one (by simp)

/-- A sort that none or only one of the performances stopped is of. -/
theorem filter_hushable_and {f : Bool} {q : List Perf} (hq : QueueFits q) (g : Perf → Bool) {a : Perf} (ha : a ∈ q)
    (hsa : hushable f a = true) (hg : g a = true) : q.filter (fun p => hushable f p && g p) = [a] := by
  have mem : a ∈ q.filter (hushable f) := List.mem_filter.mpr ⟨ha, hsa⟩
  rcases filter_hushable (f := f) hq with none | ⟨b, -, -, one⟩
  · rw [none] at mem
    cases mem
  · rw [one, List.mem_singleton] at mem
    rw [← List.filter_filter, List.filter_comm, one, ← mem, List.filter_cons_of_pos hg, List.filter_nil]

/-- The marks are made one by one (R78). -/
theorem foldl_hushMark {f : Bool} {s : State} (hq : QueueFits s.arbiter.queue) :
    ((s.arbiter.queue.filter (hushable f)).map (·.id)).foldl
      (fun s id => updatePerf id (fun p => { p with stopped := some .hushed }) s) s = s.withQueue (s.arbiter.queue.map (hushMark f)) := by
  rcases filter_hushable (f := f) hq with none | ⟨a, ha, hsa, one⟩
  · have unmarked : s.arbiter.queue.map (hushMark f) = s.arbiter.queue := by
      refine (List.map_congr_left fun p hp => ?_).trans (List.map_id _)
      exact hushMark_of_not (List.filter_eq_nil_iff.mp none p hp)
    rw [none, unmarked]
    rfl
  · rw [one]
    refine congrArg s.withQueue (List.map_congr_left fun p hp => ?_)
    by_cases hid : p.id = a.id
    · rw [eq_of_id hq.ids hp ha hid, hushMark_of_hushable hsa, beq_self_eq_true, if_pos rfl]
    · rw [hushMark_of_not fun hsp => hid (by rw [hushable_unique hq ha hp hsa hsp]), if_neg (mt beq_iff_eq.mp hid)]

/-- Two sorts that exclude each other are counted apart. -/
theorem length_filter_or {α : Type} (l : List α) {f g : α → Bool} (h : ∀ x ∈ l, f x = true → g x = false) :
    (l.filter (fun x => f x || g x)).length = (l.filter f).length + (l.filter g).length := by
  rw [List.length_eq_length_filter_add f, List.filter_filter, List.filter_filter]
  refine congrArg₂ (· + ·) (congrArg List.length (List.filter_congr fun x _ => ?_)) (congrArg List.length (List.filter_congr fun x hx => ?_))
  · cases f x <;> simp
  · cases hf : f x
    · simp
    · simp [h x hx hf]

theorem hushEnded_length (f : Bool) (s : State) :
    (hushEnded f s).length = (s.arbiter.queue.filter (hushEnds f s)).length := by
  rw [hushEnded, List.length_append, List.length_map]
  refine (length_filter_or _ fun p _ hr => ?_).symm
  rw [Bool.and_eq_false_iff]
  exact .inl (Bool.eq_false_iff.mpr fun hs => by rw [hushRemoves_of_hushable hs] at hr; cases hr)

/-- A property that the mark does not touch is one of those that end. -/
theorem any_hushEnded {f : Bool} {s : State} {g : Perf → Bool} (hg : ∀ p, g (hushMark f p) = g p) :
    (hushEnded f s).any g = (s.arbiter.queue.filter (hushEnds f s)).any g := by
  have marked : g ∘ hushMark f = g := funext hg
  rw [hushEnded, List.any_append, List.any_map, marked, List.any_filter, List.any_filter, List.any_filter, Bool.eq_iff_iff,
    Bool.or_eq_true, List.any_eq_true, List.any_eq_true, List.any_eq_true, ← exists_or]
  refine exists_congr fun p => ?_
  rw [← and_or_left, ← Bool.or_eq_true, ← Bool.and_or_distrib_right]
  rfl

/-- The queue that HUSH leaves: what does not end, with its mark (R78). -/
theorem filter_hushEnded {f : Bool} {s : State} (hq : QueueFits s.arbiter.queue) :
    (s.arbiter.queue.map (hushMark f)).filter (fun x => !(hushEnded f s).any (·.id == x.id))
      = (s.arbiter.queue.filter (fun p => !hushEnds f s p)).map (hushMark f) := by
  rw [List.filter_map]
  refine congrArg (List.map _) (List.filter_congr fun p hp => congrArg not ?_)
  rw [any_hushEnded fun x => by rw [hushMark_id], hushMark_id, List.any_filter, Bool.eq_iff_iff, List.any_eq_true]
  constructor
  · rintro ⟨x, hx, h⟩
    obtain ⟨ends, same⟩ := (Bool.and_eq_true _ _).mp h
    rw [← eq_of_id hq.ids hx hp (beq_iff_eq.mp same)]
    exact ends
  · exact fun ends => ⟨p, hp, by rw [ends, beq_self_eq_true]; rfl⟩

end Sys2Proof.Machine

/-! SUPPORT. HUSH as one answer: the marks, the performances that end, and the hammers offered, for O29. -/

namespace Sys2Proof.Machine

open Sys2Proof

/-- The ACTIVE performance, stopped and with no entry left, ends as it was stopped, and the hammers are offered (R76, R77). -/
theorem checkEnd_of_stopped {s : State} {p : Perf} {how : How} (hids : (s.arbiter.queue.map (·.id)).Nodup) (hp : p ∈ s.arbiter.queue)
    (hact : p.state = .active) (hstop : p.stopped = some how) (hn : hasEntries s p.id = false) :
    checkEnd s p.id = offerHammers (resumeFrom how p) (endPerf p how s) := by
  have ended : (p.state != .waiting && finished s p) = true := by
    simp [finished, hact, hstop, hn]
  rw [checkEnd, findPerf_of_mem hids hp]
  dsimp only
  rw [if_pos ended, hstop, hact]
  rfl

/-- The queue as HUSH marks it. -/
def hushMarked (f : Bool) (s : State) : State := s.withQueue (s.arbiter.queue.map (hushMark f))

/-- What HUSH leaves before the hammers are offered. -/
def hushLeft (f : Bool) (s : State) : State := (hushEnded f s).foldl (fun s p => endPerf p .hushed s) (hushMarked f s)

theorem hushLeft_ends (f : Bool) (s : State) : EndHushed (hushEnded f s) (hushMarked f s) (hushLeft f s) := .foldl _ _

/-- A performance stopped by HUSH has no entry in the strike queue. -/
def HushEndsActive (f : Bool) (s : State) : Prop := ∃ a ∈ s.arbiter.queue, hushable f a = true ∧ hasEntries s a.id = false

/-- What HUSH leaves: where the ACTIVE performance ends by it, the hammers are offered (R76, R78). -/
def Hushed (f : Bool) (s t : State) : Prop :=
  ¬HushEndsActive f s ∧ t = hushLeft f s ∨ HushEndsActive f s ∧ ∃ clock, t = offerHammers clock (hushLeft f s)

/-- The number that HUSH stops and removes (R78). -/
def hushCount (f : Bool) (s : State) : Nat := (s.arbiter.queue.filter (fun p => hushable f p || hushRemoves p)).length

/-- The check of what was stopped: with entries it stays, with none it ends and the hammers are offered. -/
theorem foldl_checkEnd_hushed {f : Bool} {s : State} (hq : QueueFits s.arbiter.queue) :
    let removed := (s.arbiter.queue.filter hushRemoves).foldl (fun s p => endPerf p .hushed s) (hushMarked f s)
    let t := ((s.arbiter.queue.filter (hushable f)).map (·.id)).foldl checkEnd removed
    Hushed f s t := by
  intro removed t
  have same := (EndHushed.foldl (s.arbiter.queue.filter hushRemoves) (hushMarked f s)).same
  have entries (id : Nat) : hasEntries removed id = hasEntries s id := by
    rw [hasEntries, show removed = _ from same]
    rfl
  have left (h : s.arbiter.queue.filter (fun p => hushable f p && !hasEntries s p.id) = []) : hushLeft f s = removed := by
    rw [hushLeft, hushEnded, h, List.map_nil, List.append_nil]
  have stays (h : ∀ p ∈ s.arbiter.queue, hushable f p = true → hasEntries s p.id = true) : ¬HushEndsActive f s ∧ hushLeft f s = removed := by
    refine ⟨fun ⟨a, ha, hsa, hn⟩ => Bool.false_ne_true (hn ▸ h a ha hsa), left (List.filter_eq_nil_iff.mpr fun p hp hs => ?_)⟩
    obtain ⟨stops, unbooked⟩ := (Bool.and_eq_true _ _).mp hs
    rw [h p hp stops] at unbooked
    cases unbooked
  rcases filter_hushable (f := f) hq with none | ⟨a, ha, hsa, one⟩
  · obtain ⟨no, leaves⟩ := stays fun p hp hs => absurd hs (List.filter_eq_nil_iff.mp none p hp)
    refine .inl ⟨no, ?_⟩
    rw [leaves, show t = ((s.arbiter.queue.filter (hushable f)).map (·.id)).foldl checkEnd removed from rfl, none]
    rfl
  · have checked : t = checkEnd removed a.id := by
      rw [show t = ((s.arbiter.queue.filter (hushable f)).map (·.id)).foldl checkEnd removed from rfl, one]
      rfl
    cases hn : hasEntries s a.id with
    | true =>
      obtain ⟨no, leaves⟩ := stays fun p hp hs => by rw [hushable_unique hq ha hp hsa hs, hn]
      exact .inl ⟨no, by rw [leaves, checked, checkEnd_of_entries (by rw [entries, hn])]⟩
    | false =>
      have leaves : hushLeft f s = endPerf (hushMark f a) .hushed removed := by
        rw [hushLeft, hushEnded, filter_hushable_and hq (fun p => !hasEntries s p.id) ha hsa (by rw [hn]; rfl), List.foldl_append]
        rfl
      have queue : removed.arbiter.queue
          = (s.arbiter.queue.map (hushMark f)).filter (fun x => !(s.arbiter.queue.filter hushRemoves).any (·.id == x.id)) := by
        rw [show removed = _ from same]
        rfl
      have ids : (removed.arbiter.queue.map (·.id)).Nodup := by
        rw [queue]
        refine List.Nodup.sublist (List.filter_sublist.map _) ?_
        rw [List.map_map, show (·.id) ∘ hushMark f = (·.id) from funext (hushMark_id f)]
        exact hq.ids
      have mem : hushMark f a ∈ removed.arbiter.queue := by
        rw [queue]
        refine List.mem_filter.mpr ⟨List.mem_map_of_mem ha, ?_⟩
        rw [Bool.not_eq_true', List.any_eq_false]
        intro x hx hid
        obtain ⟨hxq, removes⟩ := List.mem_filter.mp hx
        rw [eq_of_id hq.ids hxq ha ((beq_iff_eq.mp hid).trans (hushMark_id f a)), hushRemoves_of_hushable hsa] at removes
        cases removes
      obtain ⟨active, -⟩ := (hushable_iff f a).mp hsa
      refine .inr ⟨⟨a, ha, hsa, hn⟩, resumeFrom .hushed (hushMark f a), ?_⟩
      rw [leaves, checked, ← hushMark_id f a]
      exact checkEnd_of_stopped ids mem ((hushMark_state f a).trans active) (by rw [hushMark_of_hushable hsa])
        (by rw [entries, hushMark_id, hn])

theorem hushAnswer_eq {s : State} (hq : queueOk s) (f : Bool) : ∃ t, hushAnswer f.toNat s = accept t (.count (hushCount f s))
    ∧ Hushed f s t := by
  have fits := ((queueOk_iff s).mp hq).1
  refine ⟨_, ?_, foldl_checkEnd_hushed fits⟩
  rw [hushAnswer, flag?_toNat]
  dsimp only
  rw [foldl_hushMark fits, List.length_map, hushCount, length_filter_or _ fun p _ => hushRemoves_of_hushable]
  rfl

end Sys2Proof.Machine

/-! SUPPORT. What HUSH leaves of the state, the queue and the notices, for O29. -/

namespace Sys2Proof.Machine

open Sys2Proof

section Left
variable {f : Bool} {s : State} (hq : QueueFits s.arbiter.queue)
include hq

/-- Beside the notices, HUSH changes the queue and the context of a touch that ends. -/
theorem hushLeft_same : hushLeft f s = { s with
    arbiter := { s.arbiter with queue := (s.arbiter.queue.filter (fun p => !hushEnds f s p)).map (hushMark f) }
    touch := if (s.arbiter.queue.filter (hushEnds f s)).any (·.cls == .touch) then { s.touch with status := .ended } else s.touch
    details := (hushLeft f s).details, panel := (hushLeft f s).panel, chamber := (hushLeft f s).chamber } := by
  have touch := any_hushEnded (f := f) (s := s) (g := (·.cls == .touch)) fun p => by rw [hushMark_cls]
  rw [(hushLeft_ends f s).same, touch, ← filter_hushEnded hq]
  rfl

theorem hushLeft_queue : (hushLeft f s).arbiter.queue = (s.arbiter.queue.filter (fun p => !hushEnds f s p)).map (hushMark f) := by
  rw [hushLeft_same hq]

theorem mem_hushLeft {r : Perf} :
    r ∈ (hushLeft f s).arbiter.queue ↔ ∃ p ∈ s.arbiter.queue, hushEnds f s p = false ∧ hushMark f p = r := by
  rw [hushLeft_queue hq, List.mem_map]
  simp only [List.mem_filter, Bool.not_eq_true', and_assoc]

/-- What stands in the queue is a clock event, or stopped: by this HUSH as the ACTIVE one, or by an earlier one (R78). -/
theorem hushLeft_origin {r : Perf} (hr : r ∈ (hushLeft f s).arbiter.queue) : r.isClock = true
    ∨ r.state = .active ∧ r.stopped.isSome = true
    ∨ r.stopped.isSome = true ∧ ∃ p ∈ s.arbiter.queue, p.id = r.id ∧ p.stopped.isSome = true := by
  obtain ⟨p, hp, ends, rfl⟩ := (mem_hushLeft hq).mp hr
  obtain ⟨stays, -⟩ := Bool.or_eq_false_iff.mp ends
  by_cases hs : hushable f p = true
  · obtain ⟨active, -⟩ := (hushable_iff f p).mp hs
    rw [hushMark_of_hushable hs]
    exact .inr (.inl ⟨active, rfl⟩)
  · rw [hushMark_of_not hs]
    cases hk : p.isClock with
    | true => exact .inl rfl
    | false =>
      refine .inr (.inr ?_)
      have stopped : p.stopped ≠ none := fun hn => by
        by_cases active : p.state = .active
        · exact hs ((hushable_iff f p).mpr ⟨active, hn, .inr hk⟩)
        · exact Bool.false_ne_true (stays ▸ (hushRemoves_iff p).mpr ⟨active, hk, hn⟩)
      have some := Option.isSome_iff_ne_none.mpr stopped
      exact ⟨some, p, hp, rfl, some⟩

/-- Where the ACTIVE performance has ended, none is ACTIVE. -/
theorem hushLeft_inactive (ha : HushEndsActive f s) {r : Perf} (hr : r ∈ (hushLeft f s).arbiter.queue) : r.state ≠ .active := by
  obtain ⟨a, haq, hsa, hn⟩ := ha
  obtain ⟨p, hp, ends, rfl⟩ := (mem_hushLeft hq).mp hr
  obtain ⟨active, -⟩ := (hushable_iff f a).mp hsa
  rw [hushMark_state]
  intro hact
  rw [eq_of_id hq.ids hp haq (hq.oneActive p hp a haq hact active), hushEnds, hsa, hn] at ends
  simp at ends

/-- Also when the hammers have been offered (R76). -/
theorem hushed_origin {t : State} (ht : Hushed f s t) {p : Perf} (hp : p ∈ t.arbiter.queue) :
    p.isClock = true ∨ p.state = .active ∧ p.stopped.isSome = true
      ∨ p.stopped.isSome = true ∧ ∃ q ∈ s.arbiter.queue, q.id = p.id ∧ q.stopped.isSome = true := by
  rcases ht with ⟨-, rfl⟩ | ⟨ha, clock, rfl⟩
  · exact hushLeft_origin hq hp
  · obtain ⟨r, hr, hid, hstop, hclock⟩ := (QueueFrom.offerHammers clock _).origin p hp
    rw [← hstop, ← hid]
    rcases hushLeft_origin hq hr with clock | ⟨active, -⟩ | stopped
    · exact .inl (hclock clock)
    · exact absurd active (hushLeft_inactive hq ha hr)
    · exact .inr (.inr stopped)

/-- With no other performance due the hammers go to none: what was PAUSED has left (R75, R76). -/
theorem offerHammers_hushLeft (clock : Option Int) (hd : ∀ p ∈ s.arbiter.queue, hushRemoves p = false → p.state = .waiting →
    (s.time.instant : Int) < p.dueStart) : offerHammers clock (hushLeft f s) = hushLeft f s := by
  have ids : ((hushLeft f s).arbiter.queue.map (·.id)).Nodup := by
    rw [hushLeft_queue hq, List.map_map, show (·.id) ∘ hushMark f = (·.id) from funext (hushMark_id f)]
    exact hq.ids.sublist (List.filter_sublist.map _)
  have now : (hushLeft f s).now = s.time.instant := by
    rw [State.now, hushLeft_same hq]
  have paused : (hushLeft f s).arbiter.queue.find? (fun p => p.state == .paused && p.stopped.isNone) = none := by
    refine List.find?_eq_none.mpr fun r hr h => ?_
    obtain ⟨state, unstopped⟩ := (Bool.and_eq_true _ _).mp h
    rw [beq_iff_eq] at state
    rcases hushLeft_origin hq hr with clock | ⟨active, -⟩ | ⟨stopped, -⟩
    · obtain ⟨p, hp, -, rfl⟩ := (mem_hushLeft hq).mp hr
      rw [hushMark_state] at state
      refine hq.noClockPaused p hp ?_ state
      rw [← clock, Perf.isClock, Perf.isClock, hushMark_cls]
    · rw [state] at active
      cases active
    · rw [Option.isNone_iff_eq_none] at unstopped
      rw [unstopped] at stopped
      cases stopped
  have waiting : ∀ r ∈ (hushLeft f s).arbiter.queue, (r.state == .waiting && decide (r.dueStart ≤ (hushLeft f s).now)) = false := by
    intro r hr
    obtain ⟨p, hp, ends, rfl⟩ := (mem_hushLeft hq).mp hr
    obtain ⟨stays, -⟩ := Bool.or_eq_false_iff.mp ends
    rw [hushMark_state, show (hushMark f p).dueStart = p.dueStart by rw [hushMark_same], now, Bool.and_eq_false_iff]
    by_cases hw : p.state = .waiting
    · exact .inr (decide_eq_false (Int.not_le.mpr (hd p hp stays hw)))
    · exact .inl (beq_eq_false_iff_ne.mpr hw)
  rw [offerHammers, paused]
  exact foldl_offerTo_of_not_due ids (fun _ h => h) waiting

end Left

/-! ## The notices (R77, R78) -/

section Notices
variable {f : Bool} {s t : State}

/-- The last performance that ends, where the ACTIVE one does. -/
theorem hushEnded_last_active (hq : QueueFits s.arbiter.queue) {a : Perf} (ha : a ∈ s.arbiter.queue) (hsa : hushable f a = true)
    (hn : hasEntries s a.id = false) : (hushEnded f s).getLast? = some (hushMark f a) := by
  rw [hushEnded, filter_hushable_and hq (fun p => !hasEntries s p.id) ha hsa (by rw [hn]; rfl)]
  exact List.getLast?_concat

/-- The last performance that leaves, where the ACTIVE one stays. -/
theorem hushEnded_of_booked (h : ¬HushEndsActive f s) : hushEnded f s = s.arbiter.queue.filter hushRemoves := by
  have booked : s.arbiter.queue.filter (fun p => hushable f p && !hasEntries s p.id) = [] := by
    refine List.filter_eq_nil_iff.mpr fun p hp hs => h ⟨p, hp, ?_⟩
    rw [Bool.and_eq_true, Bool.not_eq_true'] at hs
    exact hs
  rw [hushEnded, booked, List.map_nil, List.append_nil]

theorem hushedNote_mark (p : Perf) : hushedNote s (hushMark f p) = hushedNote s p := by
  rw [hushMark_same]
  rfl

section Told
variable (ht : Hushed f s t)
include ht

/-- The detail record is that of the last that ended: offering the hammers ends none. -/
theorem hushed_record {p : Perf} (hp : (hushEnded f s).getLast? = some p) : nth t.details 9 = some (hushedNote s p) := by
  have record : nth (hushLeft f s).details 9 = some (hushedNote s p) := (hushLeft_ends f s).record p hp
  rcases ht with ⟨-, rfl⟩ | ⟨-, clock, rfl⟩
  · exact record
  · rw [(Offers.offerHammers clock _).details 9 (by decide) (by decide), record]

/-- Each link counts every one that ended. -/
theorem hushed_pending (l : Link) (hu : nth (s.link l).unmasked 9 = true) (he : s.arbiter.queue.filter (hushEnds f s) ≠ []) :
    nth (t.link l).pending 9 = min 255 (nth (s.link l).pending 9 + (s.arbiter.queue.filter (hushEnds f s)).length) := by
  have ended : hushEnded f s ≠ [] := by
    rw [← List.length_pos_iff, hushEnded_length, List.length_pos_iff]
    exact he
  have link (l : Link) : (hushMarked f s).link l = s.link l := by cases l <;> rfl
  have counted := (hushLeft_ends f s).pending l (by rw [link]; exact hu) ended
  rw [link, hushEnded_length] at counted
  rcases ht with ⟨-, rfl⟩ | ⟨-, clock, rfl⟩
  · exact counted
  · rw [(NoneEnds.offerHammers clock _).pending, counted]

/-- What HUSH has no part in. -/
theorem hushed_others : t.strikes = s.strikes ∧ t.time.instant = s.time.instant ∧ t.score = s.score ∧ t.tunes = s.tunes
    ∧ t.methods = s.methods ∧ t.hammers = s.hammers ∧ t.swings = s.swings ∧ t.lights = s.lights := by
  have left := (hushLeft_ends f s).same
  rcases ht with ⟨-, rfl⟩ | ⟨-, clock, rfl⟩
  · rw [left]
    exact ⟨rfl, rfl, rfl, rfl, rfl, rfl, rfl, rfl⟩
  · rw [(Offers.offerHammers clock _).same, left]
    exact ⟨rfl, rfl, rfl, rfl, rfl, rfl, rfl, rfl⟩

end Told

end Notices

end Sys2Proof.Machine

/-! The settled O29: HUSH, the building of clock events and the deadline. -/

namespace Sys2Proof.Machine

open Sys2Proof

/-- Closing the score stream leaves what a link has unmasked and pending. -/
theorem closed_link_sets (h : Header) (s : State) (l : Link) :
    ((closed h s).link l).unmasked = (s.link l).unmasked ∧ ((closed h s).link l).pending = (s.link l).pending := by
  unfold closed closeStream
  cases h.link <;> cases l <;> exact ⟨rfl, rfl⟩

/-- HUSH where it is taken (R78). -/
theorem hush_taken {h : Header} {clock : Bool} {s : State} (ht : Taken h s) (hq : queueOk s) :
    ∃ t, answers (.hush h clock.toNat) h 0x42 s .ok (.count (hushCount clock (closed h s))) t ∧ Hushed clock (closed h s) t := by
  obtain ⟨t, answer, effect⟩ := hushAnswer_eq (queueOk_congr (closed_arbiter h s) hq) clock
  exact ⟨t, answers_of_accept ht (by decide) rfl answer, effect⟩

/-- What HUSH ends, by the performance's state and its entries. -/
theorem hushEnds_closed (h : Header) (f : Bool) (s : State) : hushEnds f (closed h s) = fun p =>
    p.state != .active && p.stopped.isNone && !p.isClock || hushable f p && !s.strikes.any (fun e => e.id == p.id) := by
  funext p
  rw [hushEnds, hushRemoves_eq, hasEntries, show (closed h s).strikes = s.strikes from closeStream_strikes s h.link]

/-- Settles O29: HUSH leaves `hushLeft` or offers the hammers on it, the first event that may be built is built as `buildEvent_whole`
and its companions say, and what waits past its deadline is omitted (`deadline_omits`). -/
theorem clockEventsHushAndDeadline : Obligations.ClockEventsHushAndDeadline := by
  refine ⟨?hush, ?clock, fun s p ho hq hp hk hw ht hd => deadline_omits ho hq hp hk hw ht hd⟩
  case hush =>
    intro h clock s taken hq q stops leaves booked ends ended
    obtain ⟨t, answer, effect⟩ := hush_taken (clock := clock) taken hq
    let u := closed h s
    have arbiter : u.arbiter = s.arbiter := closed_arbiter h s
    have strikes : u.strikes = s.strikes := closeStream_strikes s h.link
    have fits : QueueFits u.arbiter.queue := arbiter ▸ ((queueOk_iff s).mp hq).1
    have removes : hushRemoves = leaves := funext hushRemoves_eq
    have finish : hushEnds clock u = ends := hushEnds_closed h clock s
    have note (p : Perf) : some (hushedNote u p) = ended p := by
      rw [hushedNote, closed_time]
    have allBooked (hb : ∀ p ∈ q, stops p = true → booked p = true) : ¬HushEndsActive clock u := by
      rintro ⟨a, ha, hsa, hn⟩
      rw [hasEntries, strikes] at hn
      rw [arbiter] at ha
      exact Bool.false_ne_true (hn ▸ hb a ha hsa)
    have left (hc : (∀ p ∈ q, stops p = true → booked p = true)
        ∨ ∀ p ∈ q, leaves p = false → p.state = .waiting → (s.time.instant : Int) < p.dueStart) : t = hushLeft clock u := by
      rcases effect with ⟨-, rfl⟩ | ⟨hact, c, rfl⟩
      · rfl
      · refine hc.elim (fun hb => absurd hact (allBooked hb)) fun hd => offerHammers_hushLeft fits c ?_
        rw [arbiter, removes, closed_time]
        exact hd
    refine ⟨t, ?_, fun hc => ?_, fun p hp => ?_, fun p hp hs hb => ?_, fun hb p hp => ?_, fun l hu he => ?_, ?_⟩
    · rw [hushCount, arbiter, removes] at answer
      exact answer
    · rw [left hc, hushLeft_same fits, finish, arbiter, closed_touch]
      exact ⟨rfl, rfl, closed_time h s, closeStream_chimes s h.link⟩
    · rw [← arbiter]
      exact hushed_origin fits effect hp
    · have last := hushEnded_last_active fits (arbiter ▸ hp) hs (by rw [hasEntries, strikes]; exact hb)
      rw [hushed_record effect last, hushedNote_mark, note]
    · refine (hushed_record effect ?_).trans (note p)
      rw [hushEnded_of_booked (allBooked hb), arbiter, removes]
      exact hp
    · obtain ⟨unmasked, pending⟩ := closed_link_sets h s l
      have counted := hushed_pending effect l (by rw [unmasked]; exact hu) (by rw [finish, arbiter]; exact he)
      rw [pending, finish, arbiter] at counted
      exact counted
    · obtain ⟨hstrikes, instant, score, tunes, methods, hammers, swings, lights⟩ := hushed_others effect
      exact ⟨hstrikes.trans strikes, instant.trans (by rw [closed_time]), score.trans (closed_score h s), tunes.trans (closed_tunes h s),
        methods.trans (closed_methods h s), hammers.trans (closeStream_hammers s h.link),
        swings.trans (closeStream_swings s h.link), lights.trans (closed_lights h s)⟩
  case clock =>
    intro s e chime strike cls at_ due intime build late served
    refine ⟨planStrike_eq s e, fun h => planChime_of_unset (h.imp id id), fun k hc hk => ?parts, fun ho hn => ?idle,
      fun hn hv hgap htunes m n hm hmn hlast => ?complete, fun ho hn => ?built⟩
    case parts =>
      intro position p
      have chimes : chime = p.tunes[p.pointer]?.map (chimePart s e k) := planChime_of_set hc hk
      refine ⟨fun h => by rw [chimes, h]; rfl, fun n h => ⟨chimePart s e k n, by rw [chimes, h]; rfl, rfl, rfl, rfl, rfl, rfl, ?_, ?_⟩⟩
      · exact fun hquarter => if_neg hquarter
      · intro hhour
        rw [chimePart, if_pos hhour]
        exact Int.sub_add_cancel _ _
    case idle => rw [exec_clockEventBuild ho, hn]; rfl
    case complete =>
      exact (not_buildable_iff hv hm hmn).mp (not_buildable_of_none hn hv ⟨hgap, htunes⟩ hm hmn hlast)
    case built =>
      obtain ⟨hv, m, hm, hme, hb, early⟩ := nextBuild_eq_some hn
      have runs : exec .clockEventBuild s = .next (buildEvent e s) := by rw [exec_clockEventBuild ho, hn]; rfl
      have serves {x : State} (hx : x.time = s.time) : moveMarker e x = served x := moveMarker_of_lt (by rw [hx]; exact hm) hme
      refine ⟨⟨m, hv, hm, hme, ?_, ?_, fun n hmn hne => (not_buildable_iff hv hm hmn).mp (early n hmn hne)⟩, fun full => ?_,
        fun room hc hk f hf => ?_, fun room c k hc hk hlate hin => ?_, fun room hc hk => ?_⟩
      · obtain ⟨-, -, hqueued, -⟩ := (buildable_iff s e).mp hb
        exact fun p hp he => Bool.false_ne_true (hqueued ▸ (eventQueued_iff s e).mpr ⟨p, hp, he⟩)
      · obtain ⟨-, -, -, x, hx, hle⟩ := (buildable_iff s e).mp hb
        refine ⟨x - 60000, buildTime_eq_some.mpr (by rw [hx]; exact congrArg some (by omega)), ?_⟩
        rw [State.now] at hle
        omega
      · rw [runs, buildEvent_busy full, serves (raise_time s _)]
      · rw [runs, buildEvent_whole room hc hk hf, joinEvent_eq]
      · rw [runs, buildEvent_strike room hc hk hlate hin, joinEvent_eq]
      · rw [runs, buildEvent_late room hc hk, serves (by rw [latePart_marker, latePart_marker]), latePart_eq, latePart_eq]

end Sys2Proof.Machine

/-! SUPPORT. What the arbiter leaves of the notices and of the performances that have started, as performances end and the
hammers are offered, and what the drop of a bell's entries makes of the queue and the notices (R76, R77, R89). -/

namespace Sys2Proof.Machine

open Sys2Proof

/-! ## The arbiter's notices, and what comes to wait -/

/-- No notice but the omission and the ends of performances is raised (kinds 8, 9 and 11), and no performance comes to wait. -/
structure Arranges (s t : State) : Prop where
  details : ∀ k, k ≠ 8 → k ≠ 9 → k ≠ 11 → nth t.details k = nth s.details k
  pending : ∀ k, k ≠ 8 → k ≠ 9 → k ≠ 11 → ∀ l, nth (t.link l).pending k = nth (s.link l).pending k
  waits : ∀ p ∈ t.arbiter.queue, p.state = .waiting → ∃ q ∈ s.arbiter.queue, q.id = p.id ∧ q.state = .waiting

theorem Arranges.refl (s : State) : Arranges s s :=
  ⟨fun _ _ _ _ => rfl, fun _ _ _ _ _ => rfl, fun p hp hw => ⟨p, hp, rfl, hw⟩⟩

theorem Arranges.trans {s t u : State} (h : Arranges s t) (h' : Arranges t u) : Arranges s u where
  details k h8 h9 h11 := (h'.details k h8 h9 h11).trans (h.details k h8 h9 h11)
  pending k h8 h9 h11 l := (h'.pending k h8 h9 h11 l).trans (h.pending k h8 h9 h11 l)
  waits p hp hw := by
    obtain ⟨q, hq, hid, hqw⟩ := h'.waits p hp hw
    obtain ⟨r, hr, hrid, hrw⟩ := h.waits q hq hqw
    exact ⟨r, hr, hrid.trans hid, hrw⟩

theorem Arranges.foldl {α : Type} {f : State → α → State} (hf : ∀ s x, Arranges s (f s x)) (xs : List α) (s : State) :
    Arranges s (xs.foldl f s) := foldl_rel Arranges.refl Arranges.trans hf xs s

theorem Arranges.ite {s t u : State} {p : Prop} [Decidable p] (ht : Arranges s t) (hu : Arranges s u) :
    Arranges s (if p then t else u) := by
  split
  · exact ht
  · exact hu

/-- An operation on neither the queue nor the notices. -/
theorem Arranges.of_eq {s t : State} (hd : t.details = s.details := by rfl) (hp : t.panel = s.panel := by rfl)
    (hc : t.chamber = s.chamber := by rfl) (hq : t.arbiter = s.arbiter := by rfl) : Arranges s t where
  details k _ _ _ := by rw [hd]
  pending k _ _ _ l := by cases l <;> simp only [State.link, hp, hc]
  waits p hp hw := ⟨p, hq ▸ hp, rfl, hw⟩

theorem Arranges.raise {d : Detail} (s : State) (h : d.kind = 8 ∨ d.kind = 9 ∨ d.kind = 11) : Arranges s (raise d s) where
  details k h8 h9 h11 := raise_details_ne s (by omega)
  pending k h8 h9 h11 l := by rw [raise_link, occur_pending_ne _ (by omega)]
  waits p hp hw := ⟨p, hp, rfl, hw⟩

theorem Arranges.dropPerf (id : Nat) (s : State) : Arranges s (dropPerf id s) :=
  ⟨fun _ _ _ _ => rfl, fun _ _ _ _ l => by cases l <;> rfl, fun p hp hw => ⟨p, List.mem_of_mem_filter hp, rfl, hw⟩⟩

theorem Arranges.updatePerf (id : Nat) {f : Perf → Perf} (s : State) (hid : ∀ p, (f p).id = p.id := by intro p; rfl)
    (hw : ∀ p, (f p).state = .waiting → p.state = .waiting := by simp) :
    Arranges s (updatePerf id f s) where
  details _ _ _ _ := rfl
  pending _ _ _ _ l := by cases l <;> rfl
  waits p hp hpw := by
    obtain ⟨q, hq, rfl⟩ := List.mem_map.mp hp
    refine ⟨q, hq, ?_⟩
    split at hpw
    · rename_i h
      rw [if_pos h]
      exact ⟨(hid q).symm, hw q hpw⟩
    · rename_i h
      rw [if_neg h]
      exact ⟨rfl, hpw⟩

theorem Arranges.endTouch (p : Perf) (how : TouchHow) (reason : Option OmitReason) (s : State) :
    Arranges s (endTouch p how reason s) :=
  .ite ((Arranges.of_eq (t := { s with touch := { s.touch with status := .ended } })).trans (.raise _ (.inr (.inr rfl)))) (.refl s)

theorem Arranges.moveMarker (event : Nat) (s : State) : Arranges s (moveMarker event s) := by
  rw [moveMarker_same]
  exact .of_eq

theorem Arranges.endHold (was : Option Nat) (s : State) : Arranges s (endHold was s) := by
  unfold Machine.endHold
  split
  · exact .ite (.updatePerf _ s (hw := fun _ h => h)) (.refl s)
  · exact .refl s

/-- A performance that is omitted or left out leaves the queue, its event served. -/
theorem Arranges.served (p : Perf) (was : Option Nat) (s : State) :
    Arranges s (Machine.endHold was (serveEvent p (Machine.dropPerf p.id s))) := by
  refine ((Arranges.dropPerf p.id s).trans ?_).trans (.endHold was _)
  unfold Machine.serveEvent
  split
  · exact .moveMarker _ _
  · exact .refl _

theorem Arranges.omitPerf (p : Perf) (reason : OmitReason) (part : ClockPart) (s : State) : Arranges s (omitPerf p reason part s) :=
  ((Arranges.endTouch p _ _ s).trans (.raise _ (.inl rfl))).trans (.served p _ _)

theorem Arranges.advanceChime (set position : Nat) (s : State) : Arranges s (advanceChime set position s) := by
  unfold Machine.advanceChime
  exact .ite (.refl s) .of_eq

theorem Arranges.startClock (p : Perf) (event : Nat) (chime : Option ChimePart) (strike : Option StrikePart) (s : State) :
    Arranges s (startClock p event chime strike s) := by
  have started : Arranges s (Machine.moveMarker event (Machine.updatePerf p.id (fun p => { p with
      state := .active, tested := true, source := .clock event chime strike, inStrike := chime.isNone }) s)) :=
    (Arranges.updatePerf p.id s).trans (.moveMarker event _)
  cases chime with
  | none => exact started
  | some c => exact started.trans (.advanceChime _ _ _)

theorem Arranges.arbitrateClock (p : Perf) (event : Nat) (chime : Option ChimePart) (strike : Option StrikePart)
    (part : ClockPart) (s : State) : Arranges s (arbitrateClock p event chime strike part s) := by
  unfold Machine.arbitrateClock
  split
  · exact .startClock p event chime strike s
  · exact .ite ((Arranges.updatePerf _ s).trans (.startClock p event chime strike _)) (.omitPerf p _ _ s)

theorem Arranges.partTest {α : Type} (p : Perf) (reason : OmitReason) (part : ClockPart) (fails : α → Bool) (x : Option α)
    (s : State) : Arranges s (partTest p reason part fails x s).2 := by
  unfold Machine.partTest
  split
  · exact .raise s (.inl rfl)
  · exact .refl s

theorem Arranges.testClock (p : Perf) (event : Nat) (chime : Option ChimePart) (strike : Option StrikePart) (s : State) :
    Arranges s (testClock p event chime strike s) := by
  unfold Machine.testClock
  refine .ite (.omitPerf p _ _ s) (Arranges.trans ?_ (.ite (.served p _ _) (.arbitrateClock _ _ _ _ _ _)))
  exact (((Arranges.partTest _ _ _ _ _ s).trans (.partTest _ _ _ _ _ _)).trans (.partTest _ _ _ _ _ _)).trans
    (.partTest _ _ _ _ _ _)

theorem Arranges.startPlain (p : Perf) (s : State) : Arranges s (startPlain p s) := by
  have started : Arranges s (Machine.updatePerf p.id
      (fun p => { p with state := .active, tested := true, origin := some (s.now + Config.startAllowance) }) s) :=
    .updatePerf p.id s
  unfold Machine.startPlain
  exact .ite (started.trans .of_eq) started

theorem Arranges.testPlain (p : Perf) (k : SilenceClass) (lacks : Bool) (s : State) : Arranges s (testPlain p k lacks s) := by
  unfold Machine.testPlain
  refine .ite (.omitPerf _ _ _ s) (.ite (.omitPerf _ _ _ s) ?_)
  split
  · exact .startPlain p s
  · exact .updatePerf _ s

theorem Arranges.startTest (p : Perf) (s : State) : Arranges s (startTest p s) := by
  unfold Machine.startTest
  refine .ite (.omitPerf _ _ _ s) ?_
  split
  · exact .testClock p _ _ _ s
  all_goals exact .testPlain p _ _ s

theorem Arranges.offerTo (s : State) (id : Nat) : Arranges s (offerTo s id) := by
  unfold Machine.offerTo
  split
  · exact .ite (.startTest _ s) (.refl s)
  · exact .refl s

theorem Arranges.offerHammers (clock : Option Int) (s : State) : Arranges s (offerHammers clock s) := by
  unfold Machine.offerHammers
  split
  · exact .updatePerf _ s (hw := fun _ h => PerfState.noConfusion h)
  · exact .foldl Arranges.offerTo _ s

theorem Arranges.endPerf (p : Perf) (how : How) (s : State) : Arranges s (endPerf p how s) := by
  unfold Machine.endPerf
  exact (((Arranges.ite .of_eq (.refl s)).trans (.endTouch p _ none _)).trans (.raise _ (.inr (.inl rfl)))).trans (.dropPerf p.id _)

theorem Arranges.checkEnd (s : State) (id : Nat) : Arranges s (checkEnd s id) := by
  unfold Machine.checkEnd
  split
  · exact .ite (.ite ((Arranges.endPerf _ _ s).trans (.offerHammers _ _)) (.endPerf _ _ s)) (.refl s)
  · exact .refl s

/-! ## Entries that are dropped one after another (R89) -/

/-- The notice of an entry's drop. -/
def dropNote (s : State) (reason : DropReason) (e : Entry) : Note :=
  { instant := s.time.instant, detail := .strokeDropped e.id e.cls e.row e.bell e.strength reason e.wanted 0 }

/-- A performance with the drops of these entries counted. -/
def dropMark (es : List Entry) (p : Perf) : Perf :=
  let n := (es.filter (fun e => e.id == p.id)).length
  if n = 0 then p else { p with dropped := min 65535 (p.dropped + n) }

/-- A drop changes a performance in its count of drops only. -/
theorem dropMark_eq (es : List Entry) (p : Perf) : dropMark es p = { p with dropped := (dropMark es p).dropped } := by
  unfold dropMark
  dsimp only
  split <;> rfl

theorem dropMark_id (es : List Entry) (p : Perf) : (dropMark es p).id = p.id := by rw [dropMark_eq]

/-- One more drop. -/
theorem dropMark_concat (es : List Entry) (e : Entry) (p : Perf) : dropMark (es ++ [e]) p
    = if (dropMark es p).id == e.id then { dropMark es p with dropped := countUp 65535 (dropMark es p).dropped }
      else dropMark es p := by
  by_cases h : p.id = e.id
  · have last : (es ++ [e]).filter (fun e => e.id == p.id) = es.filter (fun e => e.id == p.id) ++ [e] := by
      simp [List.filter_append, h]
    have counted : countUp 65535 (dropMark es p).dropped
        = min 65535 (p.dropped + ((es.filter (fun e => e.id == p.id)).length + 1)) := by
      simp only [dropMark, countUp]
      split
      · omega
      · dsimp only
        omega
    rw [if_pos (by simp [dropMark_id, h]), counted, dropMark_eq es p, dropMark, last]
    simp
  · have same : (es ++ [e]).filter (fun e => e.id == p.id) = es.filter (fun e => e.id == p.id) := by
      simp [List.filter_append, Ne.symm h]
    rw [if_neg (by simp [dropMark_id, h]), dropMark, same, dropMark]

/-- These entries have been dropped, the last of them last. -/
structure Dropped (reason : DropReason) (es : List Entry) (s t : State) : Prop where
  same : t = { s with
    arbiter := { s.arbiter with queue := s.arbiter.queue.map (dropMark es) }
    details := t.details, panel := t.panel, chamber := t.chamber }
  record : ∀ e, es.getLast? = some e → nth t.details 7 = some (dropNote s reason e)
  details : ∀ k, k ≠ 7 → nth t.details k = nth s.details k
  pending : ∀ l, nth (s.link l).unmasked 7 = true → es ≠ [] →
    nth (t.link l).pending 7 = min 255 (nth (s.link l).pending 7 + es.length)
  unmasked : ∀ l, (t.link l).unmasked = (s.link l).unmasked
  unchanged : es = [] → t = s

theorem Dropped.nil (reason : DropReason) (s : State) : Dropped reason [] s s where
  same := by
    have id : dropMark [] = id := funext fun p => rfl
    rw [id, List.map_id]
  record e he := by cases he
  details _ _ := rfl
  pending _ _ h := absurd rfl h
  unmasked _ := rfl
  unchanged _ := rfl

theorem Dropped.snoc {reason : DropReason} {es : List Entry} {s t : State} (h : Dropped reason es s t) (e : Entry) :
    Dropped reason (es ++ [e]) s (dropEntry reason t e) where
  same := by
    have queue : t.arbiter.queue.map (fun p => if p.id == e.id then { p with dropped := countUp 65535 p.dropped } else p)
        = s.arbiter.queue.map (dropMark (es ++ [e])) := by
      rw [h.same, List.map_map]
      refine List.map_congr_left fun p _ => ?_
      rw [dropMark_concat]
      rfl
    have moved : dropEntry reason t e = { t with
        arbiter := { t.arbiter with
          queue := t.arbiter.queue.map fun p => if p.id == e.id then { p with dropped := countUp 65535 p.dropped } else p }
        details := (dropEntry reason t e).details, panel := (dropEntry reason t e).panel
        chamber := (dropEntry reason t e).chamber } := rfl
    rw [queue] at moved
    exact moved.trans (by rw [h.same])
  record k hk := by
    rw [List.getLast?_concat] at hk
    cases hk
    have instant : t.time = s.time := by rw [h.same]
    rw [dropNote, ← instant]
    exact raise_details_self (d := .strokeDropped e.id e.cls e.row e.bell e.strength reason e.wanted 0) _
      (show within 1 18 7 = true by decide)
  details k hk := (raise_details_ne _ (Ne.symm hk)).trans (h.details k hk)
  pending l hu _ := by
    have link : (dropEntry reason t e).link l = (t.link l).occur 7 :=
      raise_link (.strokeDropped e.id e.cls e.row e.bell e.strength reason e.wanted 0) (updatePerf e.id _ t) l
    rw [link, occur_pending_self (by decide) (by rw [h.unmasked]; exact hu), List.length_append, List.length_singleton]
    by_cases hes : es = []
    · rw [h.unchanged hes, hes]
      rfl
    · rw [h.pending l hu hes]
      omega
  unmasked l := by
    have link : (dropEntry reason t e).link l = (t.link l).occur 7 :=
      raise_link (.strokeDropped e.id e.cls e.row e.bell e.strength reason e.wanted 0) (updatePerf e.id _ t) l
    rw [link, occur_unmasked, h.unmasked]
  unchanged hl := absurd hl (List.append_ne_nil_of_right_ne_nil es (List.cons_ne_nil e []))

theorem Dropped.foldl (reason : DropReason) (es : List Entry) (s : State) :
    Dropped reason es s (es.foldl (dropEntry reason) s) := by
  induction es using List.reverseRecOn with
  | nil => exact .nil reason s
  | append_singleton es e ih =>
    rw [List.foldl_append]
    exact ih.snoc e

/-! ## The entries of one bell (R77, R89, R92 to R94) -/

section Bell

variable (b : Nat) (reason : DropReason) (s : State)

/-- The state in which a bell's entries have been dropped and no performance has ended yet. -/
def entriesDropped : State :=
  (s.strikes.filter (·.bell == b)).foldl (dropEntry reason) { s with strikes := s.strikes.filter (·.bell != b) }

theorem entriesDropped_dropped :
    Dropped reason (s.strikes.filter (·.bell == b)) { s with strikes := s.strikes.filter (·.bell != b) }
      (entriesDropped b reason s) := .foldl reason _ _

theorem dropEntriesFor_eq : dropEntriesFor b reason s
    = (((s.strikes.filter (·.bell == b)).map (·.id)).eraseDups).foldl checkEnd (entriesDropped b reason s) := rfl

theorem dropEntriesFor_arranges : Arranges (entriesDropped b reason s) (dropEntriesFor b reason s) :=
  .foldl Arranges.checkEnd _ _

/-- A bell with no entry loses none. -/
theorem dropEntriesFor_of_none (h : s.strikes.filter (·.bell == b) = []) : dropEntriesFor b reason s = s := by
  have all : s.strikes.filter (·.bell != b) = s.strikes :=
    List.filter_eq_self.mpr fun e he => by simpa using List.filter_eq_nil_iff.mp h e he
  rw [dropEntriesFor_eq, entriesDropped, h, all]
  rfl

/-- The notices but those of the drops and of what the arbiter does. -/
theorem dropEntriesFor_details {k : Nat} (h7 : k ≠ 7) (h8 : k ≠ 8) (h9 : k ≠ 9) (h11 : k ≠ 11) :
    nth (dropEntriesFor b reason s).details k = nth s.details k :=
  ((dropEntriesFor_arranges b reason s).details k h8 h9 h11).trans ((entriesDropped_dropped b reason s).details k h7)

theorem dropEntriesFor_record {e : Entry} (he : (s.strikes.filter (·.bell == b)).getLast? = some e) :
    nth (dropEntriesFor b reason s).details 7 = some (dropNote s reason e) :=
  ((dropEntriesFor_arranges b reason s).details 7 (by decide) (by decide) (by decide)).trans
    ((entriesDropped_dropped b reason s).record e he)

theorem dropEntriesFor_pending (l : Link) (hu : nth (s.link l).unmasked 7 = true) (hne : s.strikes.filter (·.bell == b) ≠ []) :
    nth ((dropEntriesFor b reason s).link l).pending 7
      = min 255 (nth (s.link l).pending 7 + (s.strikes.filter (·.bell == b)).length) := by
  have link : (({ s with strikes := s.strikes.filter (·.bell != b) } : State).link l) = s.link l := by cases l <;> rfl
  have dropped := (entriesDropped_dropped b reason s).pending l (by rw [link]; exact hu) hne
  rw [link] at dropped
  exact ((dropEntriesFor_arranges b reason s).pending 7 (by decide) (by decide) (by decide) l).trans dropped

theorem entriesDropped_queue :
    (entriesDropped b reason s).arbiter = { s.arbiter with
      queue := s.arbiter.queue.map (dropMark (s.strikes.filter (·.bell == b))) } := by
  rw [(entriesDropped_dropped b reason s).same]

theorem entriesDropped_strikes : (entriesDropped b reason s).strikes = s.strikes.filter (·.bell != b) := by
  rw [(entriesDropped_dropped b reason s).same]

theorem entriesDropped_touch : (entriesDropped b reason s).touch = s.touch := by
  rw [(entriesDropped_dropped b reason s).same]

/-- The drop of entries leaves what a performance has left to offer. -/
theorem remains_dropMark (es : List Entry) (p : Perf) : remains (entriesDropped b reason s) (dropMark es p) = remains s p := by
  rw [dropMark_eq]
  unfold remains
  simp only [entriesDropped_touch]

/-- Entries that are left are those of the other bells. -/
theorem hasEntries_entriesDropped (id : Nat) :
    hasEntries (entriesDropped b reason s) id = true ↔ ∃ k ∈ s.strikes, k.bell ≠ b ∧ k.id = id := by
  rw [hasEntries, entriesDropped_strikes, List.any_eq_true]
  simp [and_assoc]

/-- Where each performance that loses an entry has not begun or has more, none ends (R77). -/
theorem dropEntriesFor_of_going
    (going : ∀ p ∈ s.arbiter.queue, (∃ k ∈ s.strikes.filter (·.bell == b), k.id = p.id) → p.state = .waiting
      ∨ (∃ k ∈ s.strikes, k.bell ≠ b ∧ k.id = p.id) ∨ p.stopped = none ∧ remains s p = true) :
    dropEntriesFor b reason s = entriesDropped b reason s := by
  have stays (id : Nat) (hid : id ∈ ((s.strikes.filter (·.bell == b)).map (·.id)).eraseDups) :
      checkEnd (entriesDropped b reason s) id = entriesDropped b reason s := by
    obtain ⟨k, hk, rfl⟩ := List.mem_map.mp (List.mem_eraseDups.mp hid)
    unfold checkEnd
    split
    · rename_i x hfind
      obtain ⟨hx, hxid⟩ := findPerf_mem hfind
      rw [entriesDropped_queue] at hx
      obtain ⟨p, hp, rfl⟩ := List.mem_map.mp hx
      rw [dropMark_id] at hxid
      refine if_neg ?_
      rw [Bool.and_eq_true, bne_iff_ne, finished, Bool.and_eq_true, Bool.or_eq_true, remains_dropMark, dropMark_id]
      rintro ⟨begun, nothing, empty⟩
      rcases going p hp ⟨k, hk, hxid.symm⟩ with waits | entries | ⟨runs, more⟩
      · exact begun (by rw [dropMark_eq]; exact waits)
      · rw [(hasEntries_entriesDropped b reason s p.id).mpr entries] at empty
        cases empty
      · rw [dropMark_eq, more, runs] at nothing
        simp at nothing
    · rfl
  rw [dropEntriesFor_eq]
  revert stays
  generalize ((s.strikes.filter (·.bell == b)).map (·.id)).eraseDups = ids
  intro stays
  induction ids with
  | nil => rfl
  | cons id ids ih =>
    rw [List.foldl_cons, stays id List.mem_cons_self]
    exact ih fun j hj => stays j (List.mem_cons_of_mem _ hj)

end Bell

/-! ## A performance with nothing left (R77) -/

/-- What looking at a performance can do: nothing, or it has begun and has nothing left, and it ends; the end of the ACTIVE one
offers the hammers (R76, R77). -/
theorem checkEnd_cases (s : State) (id : Nat) :
    checkEnd s id = s ∧ (∀ p, findPerf s id = some p → ¬(p.state ≠ .waiting ∧ finished s p = true))
    ∨ ∃ p how, findPerf s id = some p ∧ p.state ≠ .waiting ∧ finished s p = true ∧ how = p.stopped.getD .complete
      ∧ (p.state ≠ .active ∧ checkEnd s id = endPerf p how s
        ∨ p.state = .active ∧ ∃ clock, checkEnd s id = offerHammers clock (endPerf p how s)) := by
  cases hfind : findPerf s id with
  | none => exact .inl ⟨by simp only [checkEnd, hfind], fun p hp => by cases hp⟩
  | some p =>
    simp only [checkEnd, hfind]
    by_cases ends : p.state ≠ .waiting ∧ finished s p = true
    · rw [if_pos (by rw [Bool.and_eq_true, bne_iff_ne]; exact ends)]
      obtain ⟨begun, fin⟩ := ends
      refine .inr ⟨p, _, rfl, begun, fin, rfl, ?_⟩
      by_cases active : p.state = .active
      · exact .inr ⟨active, _, if_pos (beq_iff_eq.mpr active)⟩
      · exact .inl ⟨active, if_neg (by simpa using active)⟩
    · rw [if_neg (by rw [Bool.and_eq_true, bne_iff_ne]; exact ends)]
      exact .inl ⟨rfl, fun x hx => Option.some.inj hx ▸ ends⟩

theorem noEntries_of_finished {s : State} {p : Perf} (h : finished s p = true) : hasEntries s p.id = false := by
  rw [finished, Bool.and_eq_true, Bool.not_eq_true'] at h
  exact h.2

theorem QueueFrom.endPerf (p : Perf) (how : How) (s : State) : QueueFrom s (endPerf p how s) := by
  constructor
  rw [endPerf_arbiter]
  exact fun x hx => ⟨x, List.mem_of_mem_filter hx, rfl, rfl, fun h => h⟩

theorem QueueFrom.checkEnd (s : State) (id : Nat) : QueueFrom s (checkEnd s id) := by
  rcases checkEnd_cases s id with ⟨same, -⟩ | ⟨p, how, -, -, -, -, ⟨-, ends⟩ | ⟨-, clock, ends⟩⟩
  · rw [same]
    exact .refl s
  · rw [ends]
    exact .endPerf p how s
  · rw [ends]
    exact (QueueFrom.endPerf p how s).trans (.offerHammers clock _)

/-- What has this id in the queue has begun, has nothing left to offer and no entry: it ends when it is looked at. -/
structure Spent (id : Nat) (s : State) : Prop where
  ok : queueOk s
  ends : ∀ p ∈ s.arbiter.queue, p.id = id → p.state ≠ .waiting ∧ finished s p = true

/-- An end leaves what the touch has left to ring. -/
theorem endPerf_done (p : Perf) (how : How) (s : State) : (endPerf p how s).touch.done = s.touch.done := by
  have removed : (if how == .step || how == .mode then removeEntries p.id s else s).touch = s.touch := by
    split <;> rfl
  rw [← removed]
  show (endTouch p (touchHow how) none _).touch.done = _
  unfold endTouch
  split <;> rfl

section Spends

variable {id : Nat} {s : State} (h : Spent id s)

include h

/-- The end of one performance with no entries leaves another as it is. -/
theorem Spent.endPerf {q : Perf} (hq : hasEntries s q.id = false) (how : How) : Spent id (endPerf q how s) where
  ok := (KeepsQueue.endPerf q how s).keeps h.ok
  ends p hp hid := by
    rw [endPerf_arbiter] at hp
    obtain ⟨begun, fin⟩ := h.ends p (List.mem_of_mem_filter hp) hid
    have left : remains (Machine.endPerf q how s) p = remains s p := by
      unfold remains
      rw [endPerf_done]
    refine ⟨begun, ?_⟩
    rw [finished, left, hasEntries, endPerf_strikes hq]
    exact fin

/-- It may resume, or the hammers pass it by as it has been stopped. -/
theorem Spent.offerHammers (hnone : activePerf s = none) (clock : Option Int) : Spent id (offerHammers clock s) where
  ok := (KeepsQueue.offerHammers clock hnone).keeps h.ok
  ends p hp hid := by
    cases hfind : s.arbiter.queue.find? (fun p => p.state == .paused && p.stopped.isNone) with
    | some q =>
      simp only [Machine.offerHammers, hfind, resume] at hp ⊢
      obtain ⟨x, hx, rfl⟩ := List.mem_map.mp hp
      split at hid
      · rename_i same
        rw [if_pos same]
        obtain ⟨-, fin⟩ := h.ends x hx hid
        exact ⟨PerfState.noConfusion, fin⟩
      · rename_i other
        rw [if_neg other]
        exact h.ends x hx hid
    | none =>
      obtain ⟨x, hx, hxid, stopped, -⟩ := (QueueFrom.offerHammers clock s).origin p hp
      obtain ⟨begun, fin⟩ := h.ends x hx (hxid.trans hid)
      have stops : x.stopped.isSome = true := by
        have unpaused := List.find?_eq_none.mp hfind x hx
        have inactive := active_ne hnone x hx
        have paused : x.state = .paused := by
          cases hst : x.state
          case waiting => exact absurd hst begun
          case active => exact absurd hst inactive
          case paused => rfl
        simpa [paused, Option.isSome_iff_ne_none] using unpaused
      refine ⟨fun waits => ?_, ?_⟩
      · obtain ⟨y, hy, hyid, hyw⟩ := (Arranges.offerHammers clock s).waits p hp waits
        exact (h.ends y hy (hyid.trans hid)).1 hyw
      · have entries := noEntries_of_finished fin
        rw [finished, ← stopped, stops, hasEntries, (Offers.offerHammers clock s).strikes, ← hxid]
        rw [hasEntries] at entries
        rw [entries]
        rfl

theorem Spent.checkEnd (id' : Nat) : Spent id (checkEnd s id') := by
  rcases checkEnd_cases s id' with ⟨same, -⟩ | ⟨p, how, hfind, -, fin, -, ⟨-, ends⟩ | ⟨active, clock, ends⟩⟩
  · rw [same]
    exact h
  · rw [ends]
    exact h.endPerf (noEntries_of_finished fin) how
  · rw [ends]
    exact (h.endPerf (noEntries_of_finished fin) how).offerHammers
      (activePerf_endPerf h.ok (findPerf_mem hfind).1 active how) clock

/-- It leaves the queue when it is looked at. -/
theorem Spent.gone : id ∉ (Machine.checkEnd s id).arbiter.queue.map (·.id) := by
  rcases checkEnd_cases s id with ⟨same, stays⟩ | ⟨p, how, hfind, -, -, -, ends⟩
  · rw [same]
    intro hmem
    obtain ⟨p, hp, rfl⟩ := List.mem_map.mp hmem
    have ids := ((queueOk_iff s).mp h.ok).1.ids
    exact stays p (findPerf_of_mem ids hp) (h.ends p hp rfl)
  · have gone : id ∉ (Machine.endPerf p how s).arbiter.queue.map (·.id) := by
      rw [endPerf_arbiter, (findPerf_mem hfind).2]
      simp
    rcases ends with ⟨-, ends⟩ | ⟨-, clock, ends⟩
    · rw [ends]
      exact gone
    · rw [ends]
      exact (QueueFrom.offerHammers clock _).not_mem gone

theorem Spent.foldl_gone {ids : List Nat} (hid : id ∈ ids) : id ∉ (ids.foldl Machine.checkEnd s).arbiter.queue.map (·.id) := by
  induction ids generalizing s with
  | nil => cases hid
  | cons i ids ih =>
    rw [List.foldl_cons]
    by_cases hi : id = i
    · subst hi
      exact (QueueFrom.foldl QueueFrom.checkEnd ids _).not_mem h.gone
    · exact ih (h.checkEnd i) ((List.mem_cons.mp hid).resolve_left hi)

end Spends

/-- A list of one value alone. -/
theorem eraseDups_of_all_eq {l : List Nat} {a : Nat} (h : ∀ x ∈ l, x = a) (hne : l ≠ []) : l.eraseDups = [a] := by
  cases l with
  | nil => exact absurd rfl hne
  | cons x l =>
    have rest : l.filter (fun y => !y == x) = [] := List.filter_eq_nil_iff.mpr fun y hy => by
      simp [h y (List.mem_cons_of_mem _ hy), h x List.mem_cons_self]
    rw [List.eraseDups_cons, rest, h x List.mem_cons_self]
    rfl

section LastDropped

variable {b : Nat} {s : State} {p : Perf} (reason : DropReason) (hq : queueOk s) (hp : p ∈ s.arbiter.queue)
  (begun : p.state ≠ .waiting) (nothing : p.stopped ≠ none ∨ remains s p = false)
  (loses : ∃ k ∈ s.strikes.filter (·.bell == b), k.id = p.id) (all : ∀ k ∈ s.strikes, k.id = p.id → k.bell = b)

include hq hp begun nothing all

/-- A performance that has nothing left but entries of this bell is spent once they are dropped. -/
theorem spent_entriesDropped : Spent p.id (entriesDropped b reason s) where
  ok := ((KeepsQueue.foldl (KeepsQueue.dropEntry reason) _ _).after).keeps hq
  ends x hx hid := by
    rw [entriesDropped_queue] at hx
    obtain ⟨y, hy, rfl⟩ := List.mem_map.mp hx
    rw [dropMark_id] at hid
    obtain rfl : y = p := eq_of_id ((queueOk_iff s).mp hq).1.ids hy hp hid
    have unbooked : hasEntries (entriesDropped b reason s) y.id = false := by
      rw [← Bool.not_eq_true, hasEntries_entriesDropped]
      rintro ⟨k, hk, hne, hkid⟩
      exact hne (all k hk hkid)
    rw [finished, remains_dropMark, dropMark_id, unbooked, dropMark_eq]
    refine ⟨begun, ?_⟩
    rcases nothing with stops | offered
    · simp [Option.isSome_iff_ne_none.mpr stops]
    · simp [offered]

include loses

theorem dropEntriesFor_ends : p.id ∉ (dropEntriesFor b reason s).arbiter.queue.map (·.id) := by
  obtain ⟨k, hk, hid⟩ := loses
  refine (spent_entriesDropped reason hq hp begun nothing all).foldl_gone (List.mem_eraseDups.mpr ?_)
  exact List.mem_map.mpr ⟨k, hk, hid⟩

/-- Where the bell's entries are all this performance's, its end is the last one told of. -/
theorem dropEntriesFor_ended (only : ∀ k ∈ s.strikes.filter (·.bell == b), k.id = p.id) :
    nth (dropEntriesFor b reason s).details 9 = some
      { instant := s.time.instant
        detail := .performanceEnded p.id p.cls (p.stopped.getD .complete) p.booked
          (min 65535 (p.dropped + (s.strikes.filter (·.bell == b)).length)) } := by
  have spent := spent_entriesDropped reason hq hp begun nothing all
  obtain ⟨k, hk, -⟩ := loses
  have one : ((s.strikes.filter (·.bell == b)).map (·.id)).eraseDups = [p.id] :=
    eraseDups_of_all_eq (fun x hx => by obtain ⟨e, he, rfl⟩ := List.mem_map.mp hx; exact only e he)
      (by simpa using List.ne_nil_of_mem hk)
  have mine : (s.strikes.filter (·.bell == b)).filter (fun e => e.id == p.id) = s.strikes.filter (·.bell == b) :=
    List.filter_eq_self.mpr fun e he => beq_iff_eq.mpr (only e he)
  have marked : dropMark (s.strikes.filter (·.bell == b)) p
      = { p with dropped := min 65535 (p.dropped + (s.strikes.filter (·.bell == b)).length) } := by
    rw [dropMark, mine]
    exact if_neg (Nat.ne_of_gt (List.length_pos_of_mem hk))
  have mem : dropMark (s.strikes.filter (·.bell == b)) p ∈ (entriesDropped b reason s).arbiter.queue := by
    rw [entriesDropped_queue]
    exact List.mem_map_of_mem hp
  have found := findPerf_of_mem ((queueOk_iff _).mp spent.ok).1.ids mem
  rw [dropMark_id] at found
  have time : (entriesDropped b reason s).time = s.time := by rw [(entriesDropped_dropped b reason s).same]
  rw [dropEntriesFor_eq, one, List.foldl_cons, List.foldl_nil]
  rcases checkEnd_cases (entriesDropped b reason s) p.id with ⟨-, stays⟩ | ⟨x, how, hfind, -, -, rfl, ends⟩
  · exact absurd (spent.ends _ mem (dropMark_id _ p)) (stays _ found)
  · have record := endPerf_record x (x.stopped.getD .complete) (entriesDropped b reason s)
    obtain rfl : dropMark (s.strikes.filter (·.bell == b)) p = x := Option.some.inj (found.symm.trans hfind)
    rw [time] at record
    rcases ends with ⟨-, ends⟩ | ⟨-, clock, ends⟩
    · rw [ends, record, marked]
      rfl
    · rw [ends, (Offers.offerHammers clock _).details 9 (by decide) (by decide), record, marked]
      rfl

end LastDropped

end Sys2Proof.Machine

/-! SUPPORT. A hammer's events as the channel of its bell takes them (R92, R94 to R96, R124, R129): the hammer and the channel that
each leaves. The settled O37 and O38. -/

namespace Sys2Proof.Machine

open Sys2Proof

/-! ## One hammer and one channel -/

@[simp] theorem withHammer_hammer (s : State) (b : Nat) : s.withHammer b (s.hammer b) = s :=
  congrArg (fun hs => ({ s with hammers := hs } : State)) (setNth_nth s.hammers b)

/-- The hammer as the withdraw output is asserted, which takes it out at once where the confirm input stands asserted (R94). -/
def Hammer.asserting (x : Hammer) (elapsed : Nat) : Hammer :=
  if x.confirm then { x with state := .withdrawn, withdrawOutput := true, watch := none }
  else { x with state := .withdrawing, withdrawOutput := true, watch := some (elapsed + 2000) }

/-- What the hammer answers as the output is asserted (R94). -/
def Hammer.outAnswer (x : Hammer) : Option HammerAnswer := if x.confirm then some .withdrawn else none

theorem assertWithdraw_eq (b : Nat) (s : State) :
    assertWithdraw b s = (s.withHammer b ((s.hammer b).asserting s.elapsed), (s.hammer b).outAnswer) := by
  cases hc : (s.hammer b).confirm <;> simp [assertWithdraw, Hammer.asserting, Hammer.outAnswer, hc, Config.hammerWatch]

theorem Hammer.asserting_of_confirm {x : Hammer} (h : x.confirm = true) (elapsed : Nat) :
    x.asserting elapsed = { x with state := .withdrawn, withdrawOutput := true, watch := none } := if_pos h

theorem Hammer.asserting_of_clear {x : Hammer} (h : x.confirm = false) (elapsed : Nat) :
    x.asserting elapsed = { x with state := .withdrawing, withdrawOutput := true, watch := some (elapsed + 2000) } :=
  if_neg (by rw [h]; exact Bool.false_ne_true)

theorem Hammer.outAnswer_of_confirm {x : Hammer} (h : x.confirm = true) : x.outAnswer = some .withdrawn := if_pos h

theorem Hammer.outAnswer_of_clear {x : Hammer} (h : x.confirm = false) : x.outAnswer = none :=
  if_neg (by rw [h]; exact Bool.false_ne_true)

/-- The channel as it enters RAISING with its start pulse (R125). -/
def Swing.raisingFrom (w : Swing) (elapsed : Nat) : Swing :=
  { w with
    state := .raising, drive := some { direction := .forward, ends := elapsed + w.cfg.drive }, driveCount := 1, arcRun := 0
    arcSeen := false, lastPass := none, passEnds := none, durationEnds := none, settleEnds := none
    raiseEnds := some (elapsed + w.cfg.raiseLimit * 1000) }

/-- The channel as it comes to DOWN from RESTORING (R129). -/
def Swing.downFrom (w : Swing) : Swing :=
  { w with
    state := .down, duration := 0, wayDown := .none, drive := none, raiseEnds := none, durationEnds := none
    settleEnds := none, passEnds := none }

section Channel

variable {s : State} {b c : Nat}

theorem enterRaising_eq (hc : within 1 12 c = true) :
    enterRaising c s = s.withSwing c ((s.swing c).raisingFrom s.elapsed) := by
  simp [enterRaising, givePulse, hc, Swing.raisingFrom, Swing.still, countUp]

theorem enterDown_eq (hc : within 1 12 c = true) : enterDown c s
    = raise (.swingState c (s.swing c).cfg.bell .down (s.swing c).driveCount (s.swing c).wayDown)
        (s.withSwing c (s.swing c).downFrom) := by
  let w : Swing := { (s.swing c).still with state := .down, duration := 0 }
  have self : (s.withSwing c w).swing c = w := swing_withSwing_self s c w hc
  have reported : reportSwing c (s.withSwing c w)
      = raise (.swingState c w.cfg.bell .down w.driveCount w.wayDown) (s.withSwing c w) := by rw [reportSwing, self]
  have written (d : Detail) (x : Swing) : (raise d (s.withSwing c w)).withSwing c x = raise d (s.withSwing c x) :=
    congrArg (raise d) (withSwing_withSwing s c w x)
  rw [show enterDown c s = (reportSwing c (s.withSwing c w)).withSwing c
    { (reportSwing c (s.withSwing c w)).swing c with wayDown := .none } from rfl, reported, written,
    show (raise (.swingState c w.cfg.bell .down w.driveCount w.wayDown) (s.withSwing c w)).swing c = w from self]
  rfl

theorem tiedChannel_within (h : tiedChannel s b = some c) : within 1 12 c = true :=
  (within_iff 1 12 c).mpr ((mem_numbers 1 12 c).mp (List.mem_of_find?_eq_some h))

/-- The channel that waits for the hammer in CLEARING raises its bell (R124, R125). -/
theorem deliver_withdrawn_of_clearing (ht : tiedChannel s b = some c) (hs : (s.swing c).state = .clearing) :
    deliver b .withdrawn s = s.withSwing c ((s.swing c).raisingFrom s.elapsed) := by
  simp only [deliver, ht, hs]
  exact enterRaising_eq (tiedChannel_within ht)

/-- A channel that does not wait in CLEARING takes no notice of the answer. -/
theorem deliver_withdrawn_of_not_clearing (h : ∀ c, tiedChannel s b = some c → (s.swing c).state ≠ .clearing) :
    deliver b .withdrawn s = s := by
  unfold deliver
  split
  · rfl
  · rename_i c hc
    have hne := h c hc
    cases hs : (s.swing c).state
    case clearing => exact absurd hs hne
    all_goals rfl

theorem deliver_engaged_of_restoring (ht : tiedChannel s b = some c) (hs : (s.swing c).state = .restoring) :
    deliver b .engaged s
      = raise (.swingState c (s.swing c).cfg.bell .down (s.swing c).driveCount (s.swing c).wayDown)
          (s.withSwing c (s.swing c).downFrom) := by
  simp only [deliver, ht, hs]
  exact enterDown_eq (tiedChannel_within ht)

end Channel

/-! ## An event of a hammer -/

section Event

variable {s t u : State} {b : Nat} {f : State → State × Option HammerAnswer}

/-- An event that the hammer answers with nothing. -/
theorem hammerEvent_silent (hn : nothingDue s) (hf : f s = (u, none)) (hu : u.allowance = s.allowance) :
    hammerEvent b f s = u := by
  obtain ⟨head, release⟩ := hn
  rw [hammerEvent, answering, hf]
  exact settleLoad_idle u (by rw [hu]; exact head) (by rw [hu]; exact release)

/-- An event whose answer frees no load. -/
theorem hammerEvent_answered {a : HammerAnswer} (hn : nothingDue s) (hf : f s = (u, some a)) (hd : deliver b a u = t)
    (ht : t.allowance = s.allowance) : hammerEvent b f s = t := by
  obtain ⟨head, release⟩ := hn
  rw [hammerEvent, answering, hf]
  dsimp only
  rw [hd]
  exact settleLoad_idle t (by rw [ht]; exact head) (by rw [ht]; exact release)

variable (ho : s.power.operating = true)

include ho

theorem exec_hammerPulseEnd {e : Nat} (asserted : Bool) (hp : (s.hammer b).pulseEnds = some e) (hle : e ≤ s.elapsed) :
    exec (.hammerPulseEnd b asserted) s = .next (hammerEvent b (hammerPulseEnded b asserted) s) := by
  show Host.Outcome.next (whenOperating _ s) = _
  rw [whenOperating_true _ _ ho, if_pos (pulseDone_of hp hle)]

theorem exec_hammerConfirmAsserted : exec (.hammerConfirmAsserted b) s = .next (hammerEvent b (confirmAsserted b) s) :=
  congrArg Host.Outcome.next (if_pos ho)

theorem exec_hammerConfirmCleared : exec (.hammerConfirmCleared b) s = .next (hammerEvent b (confirmCleared b) s) :=
  congrArg Host.Outcome.next (if_pos ho)

end Event

/-! ## What each event makes of the hammer (R90 to R96) -/

section Hammers

variable {s : State} {b : Nat}

theorem confirmAsserted_of_withdrawing (hx : (s.hammer b).state = .withdrawing) (hout : (s.hammer b).withdrawOutput = true) :
    confirmAsserted b s = (s.withHammer b { s.hammer b with state := .withdrawn, confirm := true, watch := none },
      if (s.hammer b).watch.isSome then some .withdrawn else none) := by
  simp [confirmAsserted, hx, hout]

theorem confirmAsserted_of_not_withdrawing (hx : (s.hammer b).state ≠ .withdrawing) :
    confirmAsserted b s = (s.withHammer b { s.hammer b with confirm := true }, none) := by
  simp [confirmAsserted, hx]

theorem Hammer.recovered_iff (x : Hammer) (now : Int) : x.recovered now = true ↔ ∀ r, x.recoveryEnd = some r → r ≤ now := by
  unfold Hammer.recovered
  cases x.recoveryEnd <;> simp

/-- The recovery end has come: the hammer is at rest (R90, R98). -/
theorem endRecovery_of_come (hx : (s.hammer b).state = .recovering)
    (hr : ∀ r, (s.hammer b).recoveryEnd = some r → r ≤ (s.time.instant : Int)) :
    endRecovery b s = s.withHammer b { s.hammer b with state := restState s } := by
  have come : (s.hammer b).recovered s.now = true := ((s.hammer b).recovered_iff _).mpr hr
  simp only [endRecovery, hx, come, beq_self_eq_true, Bool.and_self, if_true]

/-- The recovery end lies ahead: the hammer recovers on. -/
theorem endRecovery_of_ahead {r : Int} (hr : (s.hammer b).recoveryEnd = some r) (hlt : (s.time.instant : Int) < r) :
    endRecovery b s = s := by
  have ahead : (s.hammer b).recovered s.now = false := by
    rw [← Bool.not_eq_true, Hammer.recovered_iff]
    exact fun h => absurd (h r hr) (Int.not_le.mpr hlt)
  simp only [endRecovery, ahead, Bool.and_false, Bool.false_eq_true, if_false]

variable (hb : within 1 24 b = true)

include hb

theorem confirmCleared_of_engaging (hx : (s.hammer b).state = .engaging) (ha : (s.hammer b).actuatorFault = false) :
    confirmCleared b s = (s.withHammer b
      { s.hammer b with state := restState s, confirm := false, faultCause := none, watch := none }, some .engaged) := by
  simp [confirmCleared, completeEngage, hx, ha, hb, restState]

theorem confirmCleared_of_withdrawn (hx : (s.hammer b).state = .withdrawn) (hf : (s.hammer b).fitted = true) :
    confirmCleared b s = (s.withHammer b
      { s.hammer b with state := .withdrawing, confirm := false, withdrawOutput := true, watch := some (s.elapsed + 2000) },
      none) := by
  simp [confirmCleared, assertWithdraw_eq, hx, hf, hb, Hammer.asserting, Hammer.outAnswer]

omit hb in
theorem confirmCleared_of_other (hx : (s.hammer b).state ∉ [.engaging, .withdrawn]) :
    confirmCleared b s = (s.withHammer b { s.hammer b with confirm := false }, none) := by
  obtain ⟨engaging, withdrawn⟩ : (s.hammer b).state ≠ .engaging ∧ (s.hammer b).state ≠ .withdrawn := by simpa using hx
  simp [confirmCleared, engaging, withdrawn]

/-- The end of a pulse with no fault: the hammer recovers, or is at rest where its recovery end has come (R90). -/
theorem hammerPulseEnded_of_striking {r : Int} (hx : (s.hammer b).state = .striking)
    (hr : (s.hammer b).recoveryEnd = some r) : hammerPulseEnded b false s = (s.withHammer b
      { s.hammer b with
        pulseEnds := none, faultInput := false, state := if r ≤ (s.time.instant : Int) then restState s else .recovering },
      none) := by
  let y : Hammer := { s.hammer b with pulseEnds := none, faultInput := false, state := .recovering }
  have self : (s.withHammer b y).hammer b = y := hammer_withHammer_self s b y hb
  have ends : hammerPulseEnded b false s = (endRecovery b (s.withHammer b y), none) := by
    simp [hammerPulseEnded, Hammer.midWithdrawal, pulseEnd, hx, y]
  rw [ends]
  by_cases hle : r ≤ (s.time.instant : Int)
  · have come : ∀ r', ((s.withHammer b y).hammer b).recoveryEnd = some r' → r' ≤ (s.time.instant : Int) := by
      rw [self]
      intro r' hr'
      cases hr.symm.trans hr'
      exact hle
    rw [endRecovery_of_come (s := s.withHammer b y) (by rw [self]) come, self, withHammer_withHammer, if_pos hle]
    rfl
  · rw [endRecovery_of_ahead (s := s.withHammer b y) (by rw [self]; exact hr) (Int.not_le.mp hle), if_neg hle]

/-- The pulse that was in flight at a withdraw request has ended: its fault is reported, and the output is asserted (R94). -/
theorem hammerPulseEnded_of_withdrawing {fault : Bool} (hx : (s.hammer b).state = .withdrawing)
    (hout : (s.hammer b).withdrawOutput = false) :
    let u := if fault = true then raise (.hammerFault b .actuator (s.hammer b).pulseId 0) s else s
    let y := { s.hammer b with
      pulseEnds := none, faultInput := fault, actuatorFault := (s.hammer b).actuatorFault || fault }
    hammerPulseEnded b fault s = (u.withHammer b (y.asserting s.elapsed), y.outAnswer) := by
  intro u y
  have sampled : sampleWithdrawing b fault s = u.withHammer b y := by
    cases fault <;> rfl
  have self : (u.withHammer b y).hammer b = y := hammer_withHammer_self u b y hb
  have time : u.elapsed = s.elapsed := by
    simp only [u]
    split <;> rfl
  have ends : hammerPulseEnded b fault s = assertWithdraw b (sampleWithdrawing b fault s) := by
    simp [hammerPulseEnded, hx, hout]
  rw [ends, sampled, assertWithdraw_eq, self, withHammer_withHammer, withHammer_elapsed, time]

end Hammers

/-- Settles O38, case by case of the hammer's state. -/
theorem hammerConfirms : Obligations.HammerConfirms := by
  intro b c s ho lo hi _ _ tied hn x w
  have hb := (within_iff 1 24 b).mpr ⟨lo, hi⟩
  refine ⟨fun hx hout hw hclearing => ?out, fun hx hout hquiet => ?unheard, fun hx => ?level, fun hx ha hs => ?engaged,
    fun hx hf => ?again, fun hx => ?cleared⟩
  case out =>
    have answer := confirmAsserted_of_withdrawing hx hout
    rw [if_pos (Option.isSome_iff_ne_none.mpr hw)] at answer
    rw [exec_hammerConfirmAsserted ho, hammerEvent_answered hn answer (deliver_withdrawn_of_clearing tied hclearing) rfl]
    rfl
  case unheard =>
    have answer := confirmAsserted_of_withdrawing hx hout
    rw [exec_hammerConfirmAsserted ho]
    by_cases hw : x.watch = none
    · rw [if_neg (by rw [hw]; exact Bool.false_ne_true)] at answer
      rw [hammerEvent_silent hn answer rfl]
    · rw [if_pos (Option.isSome_iff_ne_none.mpr hw)] at answer
      have other : ∀ d, tiedChannel s b = some d → (s.swing d).state ≠ .clearing := fun d hd => by
        rw [tied] at hd
        cases hd
        exact hquiet.resolve_left hw
      rw [hammerEvent_answered hn answer (deliver_withdrawn_of_not_clearing other) rfl]
  case level => rw [exec_hammerConfirmAsserted ho, hammerEvent_silent hn (confirmAsserted_of_not_withdrawing hx) rfl]
  case engaged =>
    rw [exec_hammerConfirmCleared ho, hammerEvent_answered hn (confirmCleared_of_engaging hb hx ha)
      (deliver_engaged_of_restoring tied hs) rfl]
    rfl
  case again => rw [exec_hammerConfirmCleared ho, hammerEvent_silent hn (confirmCleared_of_withdrawn hb hx hf) rfl]
  case cleared => rw [exec_hammerConfirmCleared ho, hammerEvent_silent hn (confirmCleared_of_other hx) rfl]

/-- Settles O37: a pulse that ends with a fault is `pulseEnd_fault`; each other end is an equation of the hammer, and the channel
hears of it where the hammer is out at once. -/
theorem hammerPulses : Obligations.HammerPulses := by
  intro b s ho lo hi hn x rest raising
  have hb := (within_iff 1 24 b).mpr ⟨lo, hi⟩
  refine ⟨fun e r hx hp hle hr => ?clear, fun e hx hp hle => ?fault, fun e fault hx hout hp hle => ?withdrawing,
    fun r hx hr hle => ?recovered⟩
  case clear =>
    rw [exec_hammerPulseEnd ho false hp hle, hammerEvent_silent hn (hammerPulseEnded_of_striking hb hx hr) rfl]
    rfl
  case fault =>
    have dropped := OnlyArbiter.dropEntriesFor b .fault
      (raise (.hammerFault b .actuator x.pulseId (s.strikes.filter (·.bell == b)).length) (s.withHammer b x.faulted))
    refine ⟨_, exec_hammerPulseEnd_fault ho hb hx hp hle hn, ?_⟩
    rw [pulseEnd_fault hb]
    refine ⟨?_, fun c _ hne => ?_, ?_, ?_, ?_, ?_, ?_⟩
    · rw [dropped.hammer]
      exact hammer_withHammer_self s b _ hb
    · rw [dropped.hammer]
      exact hammer_withHammer_ne s b c _ (Ne.symm hne)
    · exact dropEntriesFor_strikes b .fault _
    · exact (dropEntriesFor_details b .fault _ (by decide) (by decide) (by decide) (by decide)).trans
        (raise_details_self (d := .hammerFault b .actuator x.pulseId _) _ (show within 1 18 6 = true by decide))
    all_goals rw [dropped.same]; rfl
  case withdrawing =>
    intro u y
    let y' : Hammer := { x with pulseEnds := none, faultInput := fault, actuatorFault := x.actuatorFault || fault }
    have ends : hammerPulseEnded b fault s = (u.withHammer b (y'.asserting s.elapsed), y'.outAnswer) :=
      hammerPulseEnded_of_withdrawing hb hx hout
    have noted : u.allowance = s.allowance ∧ u.swings = s.swings ∧ u.elapsed = s.elapsed := by
      simp only [u]
      split <;> exact ⟨rfl, rfl, rfl⟩
    obtain ⟨allowance, swings, elapsed⟩ := noted
    have swing (z : Hammer) (c : Nat) : (u.withHammer b z).swing c = s.swing c := congrArg (nth · c) swings
    have tied (z : Hammer) : tiedChannel (u.withHammer b z) b = tiedChannel s b := by
      simp only [tiedChannel, swing]
    rw [exec_hammerPulseEnd ho fault hp hle]
    refine ⟨fun hc => ?_, fun hc other => ?_, fun c hc hties hclearing => ?_⟩
    · rw [Hammer.asserting_of_clear (x := y') hc, Hammer.outAnswer_of_clear (x := y') hc, ← hx] at ends
      exact congrArg _ (hammerEvent_silent hn ends allowance)
    all_goals rw [Hammer.asserting_of_confirm (x := y') hc, Hammer.outAnswer_of_confirm (x := y') hc] at ends
    · refine congrArg _ (hammerEvent_answered hn ends (deliver_withdrawn_of_not_clearing fun c hties => ?_) allowance)
      rw [swing]
      exact other c ((tied _).symm.trans hties)
    · have raised := deliver_withdrawn_of_clearing ((tied _).trans hties)
        (s := u.withHammer b { y' with state := .withdrawn, withdrawOutput := true, watch := none }) (by rw [swing]; exact hclearing)
      rw [swing, withHammer_elapsed, elapsed] at raised
      exact congrArg _ (hammerEvent_answered hn ends raised allowance)
  case recovered =>
    have come : ∀ r', x.recoveryEnd = some r' → r' ≤ (s.time.instant : Int) := by
      intro r' hr'
      cases hr.symm.trans hr'
      exact hle
    show Host.Outcome.next (whenOperating _ s) = _
    rw [whenOperating_true _ _ ho, endRecovery_of_come hx come]
    rfl

end Sys2Proof.Machine

/-! SUPPORT. The requests of the hammers (R82, R84, R94, R96, R99, R100), each as an equation of the hammer in the state that it
finds. The settled O35. -/

namespace Sys2Proof.Machine

open Sys2Proof

/-! ## The withdraw request (R89, R93, R94) -/

section Withdraw

variable {s : State} {b : Nat}

/-- The request that drops the bell's entries and leaves the hammer as `y`. -/
def withdrawnTo (b : Nat) (s : State) (z y : Hammer) : State := (dropEntriesFor b .withdrawn (s.withHammer b z)).withHammer b y

/-- A hammer that is not fitted, or that is neither out nor on its way out or back, loses its entries by a withdraw request. -/
def Hammer.losesEntries (x : Hammer) : Prop := x.fitted = false ∨ x.state ∈ [.ready, .striking, .recovering, .inhibited, .fault]

/-- The withdraw request is answered with `a` and leaves the hammer as `y` and the other hammers as they were; with no entry to
drop it changes nothing else. -/
def WithdrawsAs (b : Nat) (s : State) (y : Hammer) (a : Option HammerAnswer) : Prop :=
  (withdrawRequest b s).2 = a ∧ (withdrawRequest b s).1.hammer b = y
    ∧ (∀ c ∈ numbers 1 24, c ≠ b → (withdrawRequest b s).1.hammer c = s.hammer c)
    ∧ (s.strikes.filter (fun e => e.bell == b) = [] ∨ ¬(s.hammer b).losesEntries →
      (withdrawRequest b s).1 = s.withHammer b y)

theorem withdrawnTo_same (b : Nat) (s : State) (z y : Hammer) : withdrawnTo b s z y
    = { dropEntriesFor b .withdrawn (s.withHammer b z) with hammers := (withdrawnTo b s z y).hammers } := rfl

theorem withdrawnTo_link (b : Nat) (s : State) (z y : Hammer) (l : Link) :
    (withdrawnTo b s z y).link l = (dropEntriesFor b .withdrawn (s.withHammer b z)).link l := by cases l <;> rfl

theorem withdrawRequest_of_engaging (hf : (s.hammer b).fitted = true) (hx : (s.hammer b).state = .engaging) :
    withdrawRequest b s = (s.withHammer b ((s.hammer b).asserting s.elapsed), (s.hammer b).outAnswer) := by
  simp [withdrawRequest, hf, hx, assertWithdraw_eq]

/-- Failed has not been answered yet: the watch runs, or the pulse in flight holds the output back. -/
theorem withdrawRequest_of_waiting (hf : (s.hammer b).fitted = true) (hx : (s.hammer b).state = .withdrawing)
    (hw : (s.hammer b).watch ≠ none ∨ (s.hammer b).withdrawOutput = false) : withdrawRequest b s = (s, none) := by
  have waiting : ((s.hammer b).watch.isNone && (s.hammer b).withdrawOutput) = false := by
    rcases hw with hw | hw
    · rw [Option.isNone_eq_false_iff.mpr (Option.isSome_iff_ne_none.mpr hw)]
      rfl
    · rw [hw, Bool.and_false]
  simp [withdrawRequest, hf, hx, waiting]

/-- Failed has been answered: a fresh watch starts. -/
theorem withdrawRequest_of_failed (hf : (s.hammer b).fitted = true) (hx : (s.hammer b).state = .withdrawing)
    (hw : (s.hammer b).watch = none) (hout : (s.hammer b).withdrawOutput = true) :
    withdrawRequest b s = (s.withHammer b ((s.hammer b).asserting s.elapsed), (s.hammer b).outAnswer) := by
  simp [withdrawRequest, hf, hx, hw, hout, assertWithdraw_eq]

theorem withdrawRequest_of_withdrawn (hf : (s.hammer b).fitted = true) (hx : (s.hammer b).state = .withdrawn) :
    withdrawRequest b s = (s, some .withdrawn) := by
  simp [withdrawRequest, hf, hx]

variable (hb : within 1 24 b = true)

include hb

theorem hammer_dropEntriesFor (reason : DropReason) (z : Hammer) : (dropEntriesFor b reason (s.withHammer b z)).hammer b = z := by
  rw [(OnlyArbiter.dropEntriesFor b reason _).hammer, hammer_withHammer_self s b z hb]

/-- The drop leaves the hammer as the request has set it. -/
theorem withdrawnTo_self (z : Hammer) : withdrawnTo b s z z = dropEntriesFor b .withdrawn (s.withHammer b z) := by
  have self := withHammer_hammer (dropEntriesFor b .withdrawn (s.withHammer b z)) b
  rwa [hammer_dropEntriesFor hb] at self

theorem withdrawRequest_of_unfitted {z : Hammer}
    (hz : z = { s.hammer b with state := .withdrawn, faultCause := none, watch := none }) (hf : (s.hammer b).fitted = false) :
    withdrawRequest b s = (withdrawnTo b s z z, some .withdrawn) := by
  rw [withdrawnTo_self hb, hz]
  simp [withdrawRequest, hf]

theorem withdrawRequest_of_striking {z : Hammer} (hz : z = { s.hammer b with state := .withdrawing })
    (hf : (s.hammer b).fitted = true) (hx : (s.hammer b).state = .striking) :
    withdrawRequest b s = (withdrawnTo b s z z, none) := by
  rw [withdrawnTo_self hb, hz]
  simp [withdrawRequest, hf, hx]

/-- The hammer is at rest, recovers or is in FAULT: the output is asserted. -/
theorem withdrawRequest_of_resting {z : Hammer} (hz : z = { s.hammer b with state := .withdrawing, faultCause := none })
    (hf : (s.hammer b).fitted = true) (hx : (s.hammer b).state ∈ [.ready, .recovering, .inhibited, .fault]) :
    withdrawRequest b s = (withdrawnTo b s z (z.asserting s.elapsed), z.outAnswer) := by
  have elapsed : (dropEntriesFor b .withdrawn (s.withHammer b z)).elapsed = s.elapsed := by
    rw [(OnlyArbiter.dropEntriesFor b .withdrawn _).same]
    rfl
  have requests : withdrawRequest b s = assertWithdraw b (dropEntriesFor b .withdrawn (s.withHammer b z)) := by
    rw [hz]
    simp only [List.mem_cons, List.not_mem_nil, or_false] at hx
    rcases hx with hx | hx | hx | hx <;> simp [withdrawRequest, hf, hx]
  rw [requests, assertWithdraw_eq, hammer_dropEntriesFor hb, elapsed]
  rfl

/-- A request that drops no entry. -/
theorem WithdrawsAs.of_kept {y : Hammer} {a : Option HammerAnswer} (hr : withdrawRequest b s = (s.withHammer b y, a)) :
    WithdrawsAs b s y a := by
  unfold WithdrawsAs
  rw [hr]
  exact ⟨rfl, hammer_withHammer_self s b y hb, fun c _ hne => hammer_withHammer_ne s b c y (Ne.symm hne), fun _ => rfl⟩

theorem WithdrawsAs.of_stays {a : Option HammerAnswer} (hr : withdrawRequest b s = (s, a)) : WithdrawsAs b s (s.hammer b) a :=
  .of_kept hb (by rw [withHammer_hammer, hr])

/-- A request that drops the bell's entries. -/
theorem WithdrawsAs.of_dropped {z y : Hammer} {a : Option HammerAnswer} (hd : (s.hammer b).losesEntries)
    (hr : withdrawRequest b s = (withdrawnTo b s z y, a)) : WithdrawsAs b s y a := by
  unfold WithdrawsAs withdrawnTo at *
  rw [hr]
  refine ⟨rfl, hammer_withHammer_self _ b y hb, fun c _ hne => ?_, fun hn => ?_⟩
  · rw [hammer_withHammer_ne _ b c y (Ne.symm hne), (OnlyArbiter.dropEntriesFor b .withdrawn _).hammer,
      hammer_withHammer_ne s b c z (Ne.symm hne)]
  · rw [dropEntriesFor_of_none b .withdrawn (s.withHammer b z) (hn.resolve_right (not_not_intro hd)), withHammer_withHammer]

/-- A withdraw request drops the bell's entries or not, sets this hammer, and answers that it is withdrawn if it answers. -/
theorem withdrawRequest_cases (s : State) :
    ∃ y a, (a = none ∨ a = some .withdrawn)
      ∧ (withdrawRequest b s = (s.withHammer b y, a) ∨ ∃ z, withdrawRequest b s = (withdrawnTo b s z y, a)) := by
  have answer (x : Hammer) : x.outAnswer = none ∨ x.outAnswer = some .withdrawn := by
    unfold Hammer.outAnswer
    split
    · exact .inr rfl
    · exact .inl rfl
  cases hf : (s.hammer b).fitted with
  | false => exact ⟨_, _, .inr rfl, .inr ⟨_, withdrawRequest_of_unfitted hb rfl hf⟩⟩
  | true =>
    have rests (hx : (s.hammer b).state ∈ [.ready, .recovering, .inhibited, .fault]) :=
      withdrawRequest_of_resting hb rfl hf hx
    cases hx : (s.hammer b).state
    case ready | recovering | inhibited | fault => exact ⟨_, _, answer _, .inr ⟨_, rests (by simp [hx])⟩⟩
    case striking => exact ⟨_, _, .inl rfl, .inr ⟨_, withdrawRequest_of_striking hb rfl hf hx⟩⟩
    case engaging => exact ⟨_, _, answer _, .inl (withdrawRequest_of_engaging hf hx)⟩
    case withdrawn =>
      refine ⟨s.hammer b, _, .inr rfl, .inl ?_⟩
      rw [withHammer_hammer, withdrawRequest_of_withdrawn hf hx]
    case withdrawing =>
      by_cases hw : (s.hammer b).watch = none ∧ (s.hammer b).withdrawOutput = true
      · exact ⟨_, _, answer _, .inl (withdrawRequest_of_failed hf hx hw.1 hw.2)⟩
      · refine ⟨s.hammer b, _, .inl rfl, .inl ?_⟩
        rw [withHammer_hammer, withdrawRequest_of_waiting hf hx (by rwa [not_and_or, Bool.not_eq_true] at hw)]

theorem withdrawRequest_answer (s : State) : (withdrawRequest b s).2 = none ∨ (withdrawRequest b s).2 = some .withdrawn := by
  obtain ⟨y, a, answer, kept | ⟨z, dropped⟩⟩ := withdrawRequest_cases hb s
  · rwa [kept]
  · rwa [dropped]

theorem withdrawRequest_of_drops (h : (s.hammer b).losesEntries) :
    ∃ z y a, withdrawRequest b s = (withdrawnTo b s z y, a) := by
  cases hf : (s.hammer b).fitted with
  | false => exact ⟨_, _, _, withdrawRequest_of_unfitted hb rfl hf⟩
  | true =>
    have hx := h.resolve_left (by rw [hf]; exact Bool.noConfusion)
    by_cases striking : (s.hammer b).state = .striking
    · exact ⟨_, _, _, withdrawRequest_of_striking hb rfl hf striking⟩
    · exact ⟨_, _, _, withdrawRequest_of_resting hb rfl hf (by simpa [striking] using hx)⟩

end Withdraw

/-! ## The engage request (R96) -/

section Engage

variable {s : State} {b : Nat}

/-- A hammer that leaves its place for an engage request: it is on its way out or out, or in FAULT for an engagement. -/
def Hammer.leaves (x : Hammer) : Prop :=
  x.state = .withdrawing ∨ x.state = .withdrawn ∨ x.state = .fault ∧ x.faultCause = some .engage

theorem engageRequest_of_leaves (h : (s.hammer b).leaves) : engageRequest b s = beginEngage b s := by
  rcases h with hx | hx | ⟨hx, hc⟩
  · simp only [engageRequest, hx]
  · simp only [engageRequest, hx]
  · simp only [engageRequest, hx, hc, if_true]

theorem engageRequest_of_engaging (hx : (s.hammer b).state = .engaging) : engageRequest b s = (s, none) := by
  simp only [engageRequest, hx]

theorem engageRequest_of_stays (h : ¬(s.hammer b).leaves) (hx : (s.hammer b).state ≠ .engaging) :
    engageRequest b s = (s, some .engaged) := by
  unfold engageRequest
  dsimp only
  split
  case h_1 hs => exact absurd (.inl hs) h
  case h_2 hs => exact absurd (.inr (.inl hs)) h
  case h_3 hs => exact if_neg fun hc => h (.inr (.inr ⟨hs, hc⟩))
  case h_4 hs => exact absurd hs hx
  all_goals rfl

theorem beginEngage_waits (hf : (s.hammer b).fitted = true) (hc : (s.hammer b).confirm = true) : beginEngage b s
    = (s.withHammer b
        { s.hammer b with state := .engaging, withdrawOutput := false, faultCause := none, watch := some (s.elapsed + 2000) },
      none) :=
  Prod.ext (beginEngage_of_confirm hf hc) (by simp [beginEngage, hf, hc])

theorem beginEngage_completes (hb : within 1 24 b = true) (h : (s.hammer b).fitted = false ∨ (s.hammer b).confirm = false) :
    beginEngage b s = (s.withHammer b
      { s.hammer b with
        state := if (s.hammer b).actuatorFault then .fault else restState s, withdrawOutput := false
        faultCause := if (s.hammer b).actuatorFault then some .actuator else none, watch := none }, some .engaged) := by
  have atOnce : (!(s.hammer b).fitted || !(s.hammer b).confirm) = true := by simpa using h
  exact Prod.ext (beginEngage_of_clear hb h) (by simp [beginEngage, atOnce, completeEngage])

end Engage

/-! ## Booked until (R84) -/

/-- The latest of these instants, none where there is none. -/
def IsLatest (ends : List Int) (r : Option Int) : Prop :=
  (r = none ↔ ends = []) ∧ ∀ u, r = some u → u ∈ ends ∧ ∀ v ∈ ends, v ≤ u

theorem isLatest_foldl (vs : List Int) (o : Option Int) :
    IsLatest (o.toList ++ vs) (vs.foldl (fun x v => laterOf x (some v)) o) := by
  induction vs generalizing o with
  | nil => cases o <;> simp [IsLatest]
  | cons v vs ih =>
    rw [List.foldl_cons]
    cases o with
    | none => exact ih (some v)
    | some a =>
      obtain ⟨empty, latest⟩ := ih (some (max a v))
      refine ⟨by simpa [laterOf] using empty, fun u hu => ?_⟩
      obtain ⟨mem, bound⟩ := latest u hu
      simp only [Option.toList_some, List.singleton_append, List.mem_cons, forall_eq_or_imp] at mem bound ⊢
      refine ⟨?_, by omega, by omega, bound.2⟩
      rcases mem with rfl | mem
      · rcases max_choice a v with h | h <;> simp [h]
      · exact .inr (.inr mem)

theorem bookedUntil_isLatest (s : State) (b : Nat) : IsLatest ((s.hammer b).recoveryEnd.toList
    ++ (s.strikes.filter (fun e => e.bell == b)).map
      (fun e => e.actuation + (((s.hammer b).lead + (s.hammer b).recovery : Nat) : Int))) (bookedUntil s b) := by
  have folded := isLatest_foldl ((s.strikes.filter (fun e => e.bell == b)).map
    (fun e => e.actuation + (((s.hammer b).lead + (s.hammer b).recovery : Nat) : Int))) (s.hammer b).recoveryEnd
  rwa [List.foldl_map] at folded

theorem bookedUntil_congr {s t : State} {b : Nat} (hs : t.strikes = s.strikes)
    (hr : (t.hammer b).recoveryEnd = (s.hammer b).recoveryEnd) (hl : (t.hammer b).lead = (s.hammer b).lead)
    (hd : (t.hammer b).recovery = (s.hammer b).recovery) : bookedUntil t b = bookedUntil s b := by
  simp only [bookedUntil, hs, hr, hl, hd]

/-! ## The requests of the hammers (R82, R99, R100) -/

@[simp] theorem closed_strikes (h : Header) (s : State) : (closed h s).strikes = s.strikes := closeStream_strikes s h.link

theorem bookedUntil_closed (h : Header) (s : State) (b : Nat) : bookedUntil (closed h s) b = bookedUntil s b := by
  simp [bookedUntil]

theorem endRecovery_of_not_recovering {s : State} {b : Nat} (hx : (s.hammer b).state ≠ .recovering) : endRecovery b s = s := by
  simp [endRecovery, hx]

/-- The end of a recovery changes the state of the hammer alone. -/
theorem endRecovery_hammer {s : State} {b : Nat} (hb : within 1 24 b = true) :
    (endRecovery b s).hammer b = { s.hammer b with state := ((endRecovery b s).hammer b).state } := by
  unfold endRecovery
  dsimp only
  split
  · rw [hammer_withHammer_self s b _ hb]
  · rfl

/-- A change of the hammer overwrites the end of its recovery. -/
theorem endRecovery_withHammer (s : State) (b : Nat) (x : Hammer) : (endRecovery b s).withHammer b x = s.withHammer b x := by
  unfold endRecovery
  dsimp only
  split
  · exact withHammer_withHammer s b _ x
  · rfl

theorem endRecovery_strikes (s : State) (b : Nat) : (endRecovery b s).strikes = s.strikes := by
  unfold endRecovery
  dsimp only
  split <;> rfl

/-- The hammer of a bell may take a test stroke (R99). -/
def mayTest (s : State) (b : Nat) : Bool :=
  (s.hammer b).fitted && (s.hammer b).state == .inhibited && (bookedUntil s b).all (fun x => decide (x ≤ s.now))

theorem mayTest_iff (s : State) (b : Nat) : mayTest s b = true ↔ (s.hammer b).fitted = true ∧ (s.hammer b).state = .inhibited
    ∧ ∀ u, bookedUntil s b = some u → u ≤ (s.time.instant : Int) := by
  rw [mayTest, Bool.and_eq_true, Bool.and_eq_true, beq_iff_eq, Option.all_eq_true, and_assoc]
  simp only [decide_eq_true_eq]
  rfl

section Requests

variable {s : State} {b : Nat} (hb : within 1 24 b = true)

include hb

section Config

variable {lead recovery width l d w : Nat} {fitted : Bool} (hl : l = max 20 (min 400 lead)) (hd : d = max 30 (min 1000 recovery))
  (hw : w = max 10 (min 120 width))

include hl hd hw

theorem hammerConfigAnswer_of_wide (wide : l + d < w) :
    hammerConfigAnswer b lead recovery width fitted.toNat s = refuse s .badValue := by
  simp [hammerConfigAnswer, hb, clamp, ← hl, ← hd, ← hw, wide]

/-- Where the width fits, the hammer as its recovery end leaves it decides (R82, R90). -/
theorem hammerConfigAnswer_of_fitting (fits : w ≤ l + d) :
    hammerConfigAnswer b lead recovery width fitted.toNat s
      = let x := (endRecovery b s).hammer b
        if s.strikes.any (·.bell == b) || x.state == .striking || x.state == .recovering || fitted != x.fitted && x.midWithdrawal
        then refuse s .busy
        else accept (s.withHammer b { x with lead := l, recovery := d, width := w, fitted := fitted })
          (.hammerConfig b l d w fitted) := by
  simp [hammerConfigAnswer, hb, clamp, ← hl, ← hd, ← hw, Nat.not_lt.mpr fits, endRecovery_strikes, endRecovery_withHammer]

theorem hammerConfigAnswer_busy (fits : w ≤ l + d) {x : Hammer} (hx : (endRecovery b s).hammer b = x)
    (busy : (∃ e ∈ s.strikes, e.bell = b) ∨ x.state = .striking ∨ x.state = .recovering
      ∨ fitted ≠ x.fitted ∧ x.midWithdrawal = true) :
    hammerConfigAnswer b lead recovery width fitted.toNat s = refuse s .busy := by
  rw [hammerConfigAnswer_of_fitting hb hl hd hw fits, hx]
  refine if_pos ?_
  simpa [or_assoc] using busy

theorem hammerConfigAnswer_accepted (fits : w ≤ l + d) {x : Hammer} (hx : (endRecovery b s).hammer b = x)
    (free : ∀ e ∈ s.strikes, e.bell ≠ b) (still : x.state ≠ .striking) (rests : x.state ≠ .recovering)
    (settled : fitted ≠ x.fitted → x.midWithdrawal = false) :
    hammerConfigAnswer b lead recovery width fitted.toNat s
      = accept (s.withHammer b { x with lead := l, recovery := d, width := w, fitted := fitted })
          (.hammerConfig b l d w fitted) := by
  rw [hammerConfigAnswer_of_fitting hb hl hd hw fits, hx]
  refine if_neg ?_
  simpa [still, rests] using And.intro free settled

end Config

theorem testStrokeAnswer_of_run (hm : s.maintenance = false) (strength : Nat) :
    testStrokeAnswer b strength s = refuse s .refusedMode := by
  simp [testStrokeAnswer, hb, hm]

/-- In MAINTENANCE the hammer strikes if it is fitted, INHIBITED and booked no longer, as its recovery end leaves it (R99). -/
theorem testStrokeAnswer_of_maintenance (hm : s.maintenance = true) (strength : Nat) : testStrokeAnswer b strength s
    = if mayTest (endRecovery b s) b then
        accept
          (actuate b 0 (pulseWidth ((endRecovery b s).hammer b).width (clamp 1 3 strength)) (endRecovery b s).now (endRecovery b s))
          (.testStroke (pulseWidth ((endRecovery b s).hammer b).width (clamp 1 3 strength)) (endRecovery b s).time.instant)
      else refuse s .busy := by
  simp only [testStrokeAnswer, hb, hm, Bool.not_true, Bool.false_eq_true, if_false]
  rfl

theorem testStrokeAnswer_strikes (hm : s.maintenance = true) (hf : (s.hammer b).fitted = true)
    (hx : (s.hammer b).state = .inhibited) (free : ∀ u, bookedUntil s b = some u → u ≤ (s.time.instant : Int)) (strength : Nat) :
    let p := ((s.hammer b).width * (max 1 (min 3 strength) + 1) + 2) / 4
    testStrokeAnswer b strength s = accept (s.withHammer b
      { s.hammer b with
        state := .striking, pulseEnds := some (s.elapsed + p), pulseId := 0
        recoveryEnd := some ((s.time.instant : Int) + (((s.hammer b).lead + (s.hammer b).recovery : Nat) : Int)) })
      (.testStroke p s.time.instant) := by
  have rested : endRecovery b s = s := endRecovery_of_not_recovering (by rw [hx]; decide)
  have may : mayTest s b = true := (mayTest_iff s b).mpr ⟨hf, hx, free⟩
  rw [testStrokeAnswer_of_maintenance hb hm, rested, if_pos may]
  rfl

theorem testStrokeAnswer_busy (hm : s.maintenance = true) (busy : (s.hammer b).fitted = false
      ∨ (s.hammer b).state ∉ [.inhibited, .recovering] ∨ ∃ u, bookedUntil s b = some u ∧ (s.time.instant : Int) < u)
    (strength : Nat) : testStrokeAnswer b strength s = refuse s .busy := by
  let t := endRecovery b s
  have hammer : t.hammer b = { s.hammer b with state := (t.hammer b).state } := endRecovery_hammer hb
  have booked : bookedUntil t b = bookedUntil s b :=
    bookedUntil_congr (endRecovery_strikes s b) (by rw [hammer]) (by rw [hammer]) (by rw [hammer])
  have instant : t.time = s.time := by
    simp only [t, endRecovery]
    split <;> rfl
  have mayNot : ¬mayTest t b = true := by
    rw [mayTest_iff, booked, instant]
    rintro ⟨hf, hx, free⟩
    rcases busy with unfitted | other | ⟨u, hu, hlt⟩
    · rw [hammer] at hf
      exact Bool.false_ne_true (unfitted.symm.trans hf)
    · obtain ⟨inhibited, recovering⟩ : (s.hammer b).state ≠ .inhibited ∧ (s.hammer b).state ≠ .recovering := by simpa using other
      rw [show t = s from endRecovery_of_not_recovering recovering] at hx
      exact inhibited hx
    · exact absurd (free u hu) (Int.not_le.mpr hlt)
  rw [testStrokeAnswer_of_maintenance hb hm, if_neg mayNot]

end Requests

theorem Hammer.midWithdrawal_iff (x : Hammer) :
    x.midWithdrawal = true ↔ x.state = .withdrawing ∨ x.state = .withdrawn ∨ x.state = .engaging := by
  simp [Hammer.midWithdrawal, or_assoc]

/-! ## The requests, taken -/

section Taken

variable {h : Header} {s : State} {b : Nat} (ht : Taken h s) (hb : within 1 24 b = true)

include ht hb

section Config

variable {lead recovery width l d w : Nat} {fitted : Bool} (hl : l = max 20 (min 400 lead)) (hd : d = max 30 (min 1000 recovery))
  (hw : w = max 10 (min 120 width))

include hl hd hw

theorem answers_hammerConfig_wide (wide : l + d < w) :
    answers (.hammerConfig h b lead recovery width fitted.toNat) h 0x50 s .badValue .none (closed h s) :=
  answers_of_refuse ht (by decide) rfl (hammerConfigAnswer_of_wide hb hl hd hw wide)

variable (fits : w ≤ l + d) {x : Hammer} (hx : (endRecovery b (closed h s)).hammer b = x)

include fits hx

theorem answers_hammerConfig_busy (busy : (∃ e ∈ s.strikes, e.bell = b) ∨ x.state = .striking ∨ x.state = .recovering
      ∨ fitted ≠ x.fitted ∧ x.midWithdrawal = true) :
    answers (.hammerConfig h b lead recovery width fitted.toNat) h 0x50 s .busy .none (closed h s) :=
  answers_of_refuse ht (by decide) rfl (hammerConfigAnswer_busy hb hl hd hw fits hx (by rwa [closed_strikes]))

theorem answers_hammerConfig_accepted (free : ∀ e ∈ s.strikes, e.bell ≠ b) (still : x.state ≠ .striking)
    (rests : x.state ≠ .recovering) (settled : fitted ≠ x.fitted → x.midWithdrawal = false) :
    answers (.hammerConfig h b lead recovery width fitted.toNat) h 0x50 s .ok (.hammerConfig b l d w fitted)
      ((closed h s).withHammer b { x with lead := l, recovery := d, width := w, fitted := fitted }) :=
  answers_of_accept ht (by decide) rfl
    (hammerConfigAnswer_accepted hb hl hd hw fits hx (by rwa [closed_strikes]) still rests settled)

end Config

theorem answers_hammerRead : answers (.hammerRead h b) h 0x51 s .ok
    (.hammer b (s.hammer b) (bookedUntil s b) ((s.hammer b).pulseEnds.map (· - s.elapsed))
      ((s.hammer b).watch.map (· - s.elapsed)) (s.strikes.filter (fun e => e.bell == b)).length) (closed h s) := by
  refine answers_of_accept ht (by decide) rfl ?_
  simp [hammerReadAnswer, hb, bookedUntil_closed]

omit hb in
theorem answers_strikeQueueRead (start count : Nat) : answers (.strikeQueueRead h start count) h 0x52 s .ok
    (.strikes s.strikes.length ((s.strikes.drop (min 47 start)).take (max 1 (min 12 count)))) (closed h s) := by
  refine answers_of_accept ht (by decide) rfl ?_
  simp [strikeQueueReadAnswer, clamp]

end Taken

/-! ## The hammer as its recovery end leaves it (R90) -/

section Rest

variable {h : Header} {s : State} {b : Nat}

theorem closed_endRecovery_of_not_recovering (hx : (s.hammer b).state ≠ .recovering) :
    (endRecovery b (closed h s)).hammer b = s.hammer b := by
  rw [endRecovery_of_not_recovering (by rwa [closed_hammer]), closed_hammer]

theorem closed_endRecovery_of_ahead {r : Int} (hr : (s.hammer b).recoveryEnd = some r) (hlt : (s.time.instant : Int) < r) :
    (endRecovery b (closed h s)).hammer b = s.hammer b := by
  rw [endRecovery_of_ahead (by rwa [closed_hammer]) (by rwa [closed_time]), closed_hammer]

theorem closed_endRecovery_of_come (hb : within 1 24 b = true) (hx : (s.hammer b).state = .recovering)
    (hr : ∀ r, (s.hammer b).recoveryEnd = some r → r ≤ (s.time.instant : Int)) :
    (endRecovery b (closed h s)).hammer b = { s.hammer b with state := restState s } := by
  rw [endRecovery_of_come (by rwa [closed_hammer]) (by rwa [closed_hammer, closed_time]), hammer_withHammer_self _ b _ hb,
    closed_hammer, restState, closed_maintenance]
  rfl

theorem restState_eq (s : State) : restState s = .inhibited ∨ restState s = .ready := by
  unfold restState
  split
  · exact .inl rfl
  · exact .inr rfl

end Rest

/-- Settles O35: what is booked is the latest end (`bookedUntil_isLatest`), each request answers by its lemma, and the withdraw and
the engage request are one equation for each state of the hammer. -/
theorem hammerRequestsAndBooking : Obligations.HammerRequestsAndBooking := by
  refine ⟨fun s b => bookedUntil_isLatest s b, ?requests, ?handshake⟩
  case requests =>
    intro h b s ht lo hi x now mid
    have hb := (within_iff 1 24 b).mpr ⟨lo, hi⟩
    have hammer : (closed h s).hammer b = x := closed_hammer h s b
    refine ⟨?config, answers_hammerRead ht hb, answers_strikeQueueRead ht, ?test⟩
    case config =>
      intro lead recovery width fitted i l d w
      refine ⟨answers_hammerConfig_wide ht hb rfl rfl rfl, fun fits hbusy => ?_, fun fits free still rests settled => ?_,
        fun fits hx hr => ?_, fun fits free hx hr => ?_⟩
      · rcases hbusy with entries | striking | ⟨hne, hmid⟩
        · exact answers_hammerConfig_busy ht hb rfl rfl rfl fits rfl (.inl entries)
        · exact answers_hammerConfig_busy ht hb rfl rfl rfl fits
            (closed_endRecovery_of_not_recovering (by rw [striking]; decide)) (.inr (.inl striking))
        · have other : x.state ≠ .recovering := fun hx => by simp [mid, hx] at hmid
          exact answers_hammerConfig_busy ht hb rfl rfl rfl fits (closed_endRecovery_of_not_recovering other)
            (.inr (.inr (.inr ⟨hne, x.midWithdrawal_iff.mpr hmid⟩)))
      · exact answers_hammerConfig_accepted ht hb rfl rfl rfl fits (closed_endRecovery_of_not_recovering rests) free still rests
          (fun hne => by rw [← Bool.not_eq_true, Hammer.midWithdrawal_iff]; exact settled hne)
      · obtain ⟨r, hr, hlt⟩ := hr
        exact answers_hammerConfig_busy ht hb rfl rfl rfl fits (closed_endRecovery_of_ahead hr hlt) (.inr (.inr (.inl hx)))
      · have rest := restState_eq s
        exact answers_hammerConfig_accepted ht hb rfl rfl rfl fits (closed_endRecovery_of_come hb hx hr) free
          (by rcases rest with h | h <;> simp [h]) (by rcases rest with h | h <;> simp [h])
          (fun _ => by rcases rest with h | h <;> simp [Hammer.midWithdrawal, h])
    case test =>
      intro strength i p
      have run := testStrokeAnswer_of_run (s := closed h s) hb
      have strikes := testStrokeAnswer_strikes (s := closed h s) hb
      have busy := testStrokeAnswer_busy (s := closed h s) hb
      simp only [closed_maintenance, bookedUntil_closed, closed_time, closed_elapsed, hammer] at run strikes busy
      exact ⟨fun hm => answers_of_refuse ht (by decide) rfl (run hm strength),
        fun hm hf hx free => answers_of_accept ht (by decide) rfl (strikes hm hf hx free strength),
        fun hm hbusy => answers_of_refuse ht (by decide) rfl (busy hm hbusy strength)⟩
  case handshake =>
    intro b s lo hi x r gone asserts answer drops goes e
    have hb := (within_iff 1 24 b).mpr ⟨lo, hi⟩
    refine ⟨fun hf => ?_, fun hf hx => ?_, fun hf hx => ?_, fun hf hx => ?_, fun hf hx hw => ?_, fun hf hx hw hout => ?_,
      fun hf hx => ?_, fun hd => ?drops, ?engage⟩
    · exact WithdrawsAs.of_dropped hb (.inl hf) (withdrawRequest_of_unfitted hb rfl hf)
    · have rests := withdrawRequest_of_resting hb rfl hf hx
      refine WithdrawsAs.of_dropped hb (.inr ?_) rests
      simp only [List.mem_cons, List.not_mem_nil, or_false] at hx ⊢
      tauto
    · exact WithdrawsAs.of_dropped hb (.inr (show x.state ∈ _ by simp [hx])) (withdrawRequest_of_striking hb rfl hf hx)
    · exact WithdrawsAs.of_kept hb (withdrawRequest_of_engaging hf hx)
    · exact WithdrawsAs.of_stays hb (withdrawRequest_of_waiting hf hx hw)
    · exact WithdrawsAs.of_kept hb (withdrawRequest_of_failed hf hx hw hout)
    · exact WithdrawsAs.of_stays hb (withdrawRequest_of_withdrawn hf hx)
    case drops =>
      obtain ⟨z, y, a, hr⟩ := withdrawRequest_of_drops hb hd
      let u := s.withHammer b z
      have left : r.1 = withdrawnTo b s z y := congrArg Prod.fst hr
      rw [left]
      refine ⟨dropEntriesFor_strikes b .withdrawn u, fun k hk => ?_, fun l hne hu => ?_, fun going => ?_,
        fun p hp hq begun nothing loses all => ?_⟩
      · have bell : k.bell = b := by simpa using (List.mem_filter.mp (List.mem_of_getLast? hk)).2
        have record := dropEntriesFor_record b .withdrawn u hk
        rw [dropNote, bell] at record
        exact record
      · have link : u.link l = s.link l := by cases l <;> rfl
        rw [withdrawnTo_link, dropEntriesFor_pending b .withdrawn u l (by rw [link]; exact hu) hne, link]
        rfl
      · rw [withdrawnTo, dropEntriesFor_of_going b .withdrawn u going]
        exact entriesDropped_queue b .withdrawn u
      · exact ⟨dropEntriesFor_ends (s := u) .withdrawn hq hp begun nothing loses all,
          dropEntriesFor_ended (s := u) .withdrawn hq hp begun nothing loses all⟩
    case engage =>
      intro rest leaves
      refine ⟨fun hl hf hc => ?_, fun hl hc => ?_, engageRequest_of_engaging, fun hl hx => engageRequest_of_stays hl hx⟩
      · exact (engageRequest_of_leaves hl).trans (beginEngage_waits hf hc)
      · exact (engageRequest_of_leaves hl).trans (beginEngage_completes hb hc)

end Sys2Proof.Machine

/-! SUPPORT. What the settling of the allowance leaves of a channel that waits for no raise and of its hammer (R142, R147), and the
watches of the handshake that run out (R95, R96, R130). The settled O39. -/

namespace Sys2Proof.Machine

open Sys2Proof

/-! ## A channel that waits for no raise -/

/-- Channel `c`, tied to bell `b`, waits for no raise, and no channel that waits for one is tied to that bell. -/
structure Beside (c b : Nat) (s : State) : Prop where
  tie : (s.swing c).cfg.bell = b
  absent : c ∉ s.allowance.queue
  others : ∀ d ∈ s.allowance.queue, within 1 24 (s.swing d).cfg.bell = true ∧ (s.swing d).cfg.bell ≠ b

/-- Channel `c` and the hammer of bell `b` are as they were, no channel has another record or has come to wait for a raise, and no
SWING-FAULT is raised. -/
structure Spares (c b : Nat) (s t : State) : Prop where
  swing : t.swing c = s.swing c
  hammer : t.hammer b = s.hammer b
  cfg : ∀ d, (t.swing d).cfg = (s.swing d).cfg
  queue : ∀ d ∈ t.allowance.queue, d ∈ s.allowance.queue
  details : nth t.details 13 = nth s.details 13

theorem withSwing_cfg (s : State) (d : Nat) {x : Swing} (hx : x.cfg = (s.swing d).cfg) (e : Nat) :
    ((s.withSwing d x).swing e).cfg = (s.swing e).cfg := by
  by_cases he : d = e
  · subst he
    by_cases hd : within 1 12 d = true
    · rw [swing_withSwing_self s d x hd, hx]
    · have unchanged : s.withSwing d x = s :=
        congrArg (fun v => ({ s with swings := v } : State)) (dif_neg fun h => hd ((within_iff 1 12 d).mpr h))
      rw [unchanged]
  · rw [swing_withSwing_ne s d e x he]

section Settling

variable {c b : Nat}

theorem Spares.refl (s : State) : Spares c b s s := ⟨rfl, rfl, fun _ => rfl, fun _ h => h, rfl⟩

theorem Spares.trans {s t u : State} (h : Spares c b s t) (h' : Spares c b t u) : Spares c b s u where
  swing := h'.swing.trans h.swing
  hammer := h'.hammer.trans h.hammer
  cfg d := (h'.cfg d).trans (h.cfg d)
  queue d hd := h.queue d (h'.queue d hd)
  details := h'.details.trans h.details

theorem Beside.of_spares {s t : State} (h : Beside c b s) (hs : Spares c b s t) : Beside c b t where
  tie := by rw [hs.cfg]; exact h.tie
  absent hc := h.absent (hs.queue c hc)
  others d hd := by rw [hs.cfg]; exact h.others d (hs.queue d hd)

theorem Spares.of_onlyLights {s t : State} (h : OnlyLights s t) : Spares c b s t where
  swing := by rw [h.same]; rfl
  hammer := by rw [h.same]; rfl
  cfg d := by rw [h.same]; rfl
  queue d hd := h.queue ▸ hd
  details := h.details 13 (by decide)

/-- A change of the allowance alone that lets no channel come to wait. -/
theorem Spares.allowance {s : State} {a : Allowance} (h : ∀ d ∈ a.queue, d ∈ s.allowance.queue) :
    Spares c b s { s with allowance := a } := ⟨rfl, rfl, fun _ => rfl, h, rfl⟩

/-- A change of another channel that leaves its record. -/
theorem Spares.withSwing {d : Nat} (hd : d ≠ c) (s : State) {x : Swing} (hx : x.cfg = (s.swing d).cfg) :
    Spares c b s (s.withSwing d x) :=
  ⟨swing_withSwing_ne s d c x hd, rfl, withSwing_cfg s d hx, fun _ h => h, rfl⟩

theorem Spares.enterRaising {d : Nat} (hd : d ≠ c) (s : State) : Spares c b s (enterRaising d s) := by
  have entered := Spares.withSwing (b := b) hd s (x := { (s.swing d).still with
    state := .raising, arcSeen := false, arcRun := 0, driveCount := 0, lastPass := none
    raiseEnds := some (s.elapsed + (s.swing d).cfg.raiseLimit * 1000) }) rfl
  exact entered.trans (.withSwing hd _ rfl)

/-- The request to the hammer of another bell. -/
theorem Spares.withdrawRequest {b' : Nat} (hne : b' ≠ b) (hb : within 1 24 b' = true) (s : State) :
    Spares c b s (withdrawRequest b' s).1 := by
  have w := Withdraws.withdrawRequest hb s
  refine ⟨congrArg (nth · c) w.swings, w.others b (Ne.symm hne), fun d => congrArg (fun v => (nth v d).cfg) w.swings,
    fun d hd => w.allowance ▸ hd, ?_⟩
  obtain ⟨y, a, -, kept | ⟨z, dropped⟩⟩ := withdrawRequest_cases hb s
  · rw [kept]
    rfl
  · rw [dropped, withdrawnTo_same]
    exact dropEntriesFor_details b' .withdrawn _ (by decide) (by decide) (by decide) (by decide)

/-- The hammer of another bell answers that it is withdrawn. -/
theorem Spares.deliver {b' : Nat} (hne : b' ≠ b) {s : State} (tie : (s.swing c).cfg.bell = b) :
    Spares c b s (deliver b' .withdrawn s) := by
  by_cases h : ∃ d, tiedChannel s b' = some d ∧ (s.swing d).state = .clearing
  · obtain ⟨d, hd, hs⟩ := h
    have bell : (s.swing d).cfg.bell = b' := by simpa using List.find?_some hd
    have other : d ≠ c := by
      rintro rfl
      exact hne (bell.symm.trans tie)
    simp only [Machine.deliver, hd, hs]
    exact .enterRaising other s
  · rw [deliver_withdrawn_of_not_clearing fun d hd hs => h ⟨d, hd, hs⟩]
    exact .refl s

theorem Spares.enterClearing {d : Nat} {s : State} (h : Beside c b s) (hd : d ∈ s.allowance.queue) :
    Spares c b s (enterClearing d s) := by
  have other : d ≠ c := fun he => h.absent (he ▸ hd)
  obtain ⟨bell, hne⟩ := h.others d hd
  let u := s.withSwing d { (s.swing d).still with state := .clearing }
  have entered : Spares c b s u := .withSwing other s rfl
  have requested : Spares c b s (Machine.withdrawRequest (s.swing d).cfg.bell u).1 :=
    entered.trans (Spares.withdrawRequest hne bell u)
  have enters : Machine.enterClearing d s = answering (s.swing d).cfg.bell (Machine.withdrawRequest (s.swing d).cfg.bell) u := rfl
  rw [enters, answering]
  rcases withdrawRequest_answer bell u with silent | answered
  · rw [silent]
    exact requested
  · rw [answered]
    exact requested.trans (.deliver hne (h.of_spares requested).tie)

theorem Spares.leaveRaise (d : Nat) (s : State) : Spares c b s (leaveRaise d s) := by
  have fewer : ∀ e ∈ s.allowance.queue.filter (· != d), e ∈ s.allowance.queue := fun e he => List.mem_of_mem_filter he
  unfold Machine.leaveRaise
  dsimp only
  split
  · exact .allowance fewer
  · exact .allowance fewer

theorem Spares.tryHeads (n : Nat) {s : State} (h : Beside c b s) : Spares c b s (tryHeads n s) := by
  induction n generalizing s with
  | zero => exact .refl s
  | succ n ih =>
    unfold Machine.tryHeads
    split
    · exact .refl s
    · rename_i d hd
      have admitted : Spares c b s (admitHead d s) :=
        (Spares.enterClearing h (List.mem_of_mem_head? hd)).trans (.leaveRaise d _)
      split
      · exact admitted.trans (ih (h.of_spares admitted))
      · split
        · exact .refl s
        · exact .of_onlyLights (OnlyLights.orderYield s)

theorem Spares.tryHead {s : State} (h : Beside c b s) : Spares c b s (tryHead s) :=
  (Spares.tryHeads 13 h).trans (.allowance fun _ hd => hd)

theorem Spares.release {s : State} (h : Beside c b s) : Spares c b s (release s) := by
  have begun : Spares c b s { s with allowance := { s.allowance with releaseDue := false } } := .allowance fun _ hd => hd
  exact (begun.trans (.tryHead (h.of_spares begun))).trans (.of_onlyLights (OnlyLights.restoring _))

theorem Spares.workOff (n : Nat) {s : State} (h : Beside c b s) : Spares c b s (workOff n s) := by
  induction n generalizing s with
  | zero => exact .refl s
  | succ n ih =>
    unfold Machine.workOff
    split
    · exact (Spares.tryHead h).trans (ih (h.of_spares (.tryHead h)))
    · split
      · exact (Spares.release h).trans (ih (h.of_spares (.release h)))
      · exact .refl s

theorem Spares.settleLoad {s : State} (h : Beside c b s) : Spares c b s (settleLoad s) :=
  (Spares.workOff 32 h).trans (.allowance fun _ hd => hd)

end Settling

/-! ## The channel goes to FAULT (R130) -/

/-- The channel in FAULT (R130). -/
def Swing.faultedBy (w : Swing) (cause : SwingCause) : Swing := { w.still with state := .fault, cause := cause }

/-- The entry to FAULT, before what it frees is released. -/
def faultEntered (c : Nat) (cause : SwingCause) (s : State) : State :=
  raise (.swingFault c (s.swing c).cfg.bell cause (s.swing c).state) (s.withSwing c ((s.swing c).faultedBy cause))

section Fault

variable {s : State} {b c : Nat} {cause : SwingCause}

theorem enterFault_cases (c : Nat) (cause : SwingCause) (s : State) :
    enterFault c cause s = faultEntered c cause s ∨ enterFault c cause s = startRelease (faultEntered c cause s) :=
  watchLoad_cases (faultEntered c cause) s

/-- From a state with no load the entry to FAULT frees none. -/
theorem enterFault_of_restoring (hs : (s.swing c).state = .restoring) : enterFault c cause s = faultEntered c cause s := by
  refine watchLoad_of_same_share (f := faultEntered c cause) (c := c) (x := (s.swing c).faultedBy cause) rfl rfl rfl ?_ ?_
  · simp [Swing.share, Swing.faultedBy, hs]
  · rw [Swing.raises, Swing.raises, hs]
    rfl

/-- The channel has gone to FAULT from the state it had in `s`, and SWING-FAULT says so. -/
def Failed (c b : Nat) (cause : SwingCause) (s t : State) : Prop :=
  (t.swing c).state = .fault ∧ (t.swing c).cause = cause ∧ (t.swing c).drive = none ∧ (t.swing c).cfg = (s.swing c).cfg
    ∧ nth t.details 13 = some { instant := s.time.instant, detail := .swingFault c b cause (s.swing c).state }

theorem failed_faultEntered (hc : within 1 12 c = true) (tie : (s.swing c).cfg.bell = b) :
    Failed c b cause s (faultEntered c cause s) := by
  have self : (faultEntered c cause s).swing c = (s.swing c).faultedBy cause := swing_withSwing_self s c _ hc
  unfold Failed
  rw [self, ← tie]
  exact ⟨rfl, rfl, rfl, rfl, raise_details_self (d := .swingFault c (s.swing c).cfg.bell cause (s.swing c).state) _
    (show within 1 18 13 = true by decide)⟩

theorem Failed.of_spares {t u : State} (h : Failed c b cause s t) (hs : Spares c b t u) : Failed c b cause s u := by
  unfold Failed at *
  rw [hs.swing, hs.details]
  exact h

/-- In a state as R119 and R141 have it a channel that is not QUEUED stands beside the raise queue, also once it is in FAULT. -/
theorem beside_faultEntered (ties : tiesOk s) (queue : raiseQueueOk s) (hc : c ∈ numbers 1 12) (tie : (s.swing c).cfg.bell = b)
    (hs : (s.swing c).state ≠ .queued) : Beside c b (faultEntered c cause s) := by
  obtain ⟨bells, apart⟩ := ties
  obtain ⟨-, queued⟩ := queue
  have cfg (d : Nat) : ((faultEntered c cause s).swing d).cfg = (s.swing d).cfg :=
    withSwing_cfg s c (x := (s.swing c).faultedBy cause) rfl d
  refine ⟨by rw [cfg, tie], fun hmem => hs ((queued c).mp hmem).2, fun d hd => ?_⟩
  obtain ⟨hd12, hdq⟩ := (queued d).mp hd
  rw [cfg, ← tie]
  exact ⟨bells d hd12, apart d hd12 c hc (by rintro rfl; exact hs hdq)⟩

/-- The channel is in FAULT, whatever the load that it has freed lets the others do. -/
theorem failed_settled (ties : tiesOk s) (queue : raiseQueueOk s) (hc : c ∈ numbers 1 12) (tie : (s.swing c).cfg.bell = b)
    (hs : (s.swing c).state ≠ .queued) :
    Failed c b cause s (settleLoad (enterFault c cause s)) ∧ (settleLoad (enterFault c cause s)).hammer b = s.hammer b := by
  have beside := beside_faultEntered (cause := cause) ties queue hc tie hs
  have entered : Spares c b (faultEntered c cause s) (enterFault c cause s) := by
    rcases enterFault_cases c cause s with e | e <;> rw [e]
    · exact .refl _
    · exact .allowance fun _ hd => hd
  have spares := entered.trans (.settleLoad (beside.of_spares entered))
  exact ⟨(failed_faultEntered ((within_iff 1 12 c).mpr ((mem_numbers 1 12 c).mp hc)) tie).of_spares spares, spares.hammer⟩

/-- The one channel tied to a bell (R119). -/
theorem tiedChannel_of_ties (ties : tiesOk s) (hc : c ∈ numbers 1 12) (tie : (s.swing c).cfg.bell = b) :
    tiedChannel s b = some c := by
  obtain ⟨d, hd⟩ := Option.isSome_iff_exists.mp (List.find?_isSome.mpr ⟨c, hc, beq_iff_eq.mpr tie⟩
    : (tiedChannel s b).isSome)
  have bell : (s.swing d).cfg.bell = b := by simpa using List.find?_some hd
  have same : d = c := by
    by_contra hne
    exact ties.2 d (List.mem_of_find?_eq_some hd) c hc hne (bell.trans tie.symm)
  rw [tiedChannel, hd, same]

/-- What a failed answer does to the channel that hears of it (R130). -/
inductive FailsBy : SwingState → SwingCause → Prop
  | clearing : FailsBy .clearing .withdrawFailed
  | raising : FailsBy .raising .confirmLost
  | swinging : FailsBy .swinging .confirmLost
  | lowering : FailsBy .lowering .confirmLost
  | settling : FailsBy .settling .confirmLost
  | restoring : FailsBy .restoring .engageFailed

theorem deliver_failed (ht : tiedChannel s b = some c) {x : SwingState} (hx : (s.swing c).state = x) (h : FailsBy x cause) :
    deliver b .failed s = enterFault c cause s := by
  cases h <;> simp only [deliver, ht, hx]

theorem FailsBy.not_queued {x : SwingState} (h : FailsBy x cause) : x ≠ .queued := by
  rintro rfl
  cases h

end Fault

/-- Settles O39. The withdrawal that failed sends the channel to FAULT, and the release that this starts touches neither the
channel nor its hammer (`failed_settled`); the engagement that failed frees no load (`enterFault_of_restoring`). -/
theorem hammerWatchesRunOut : Obligations.HammerWatchesRunOut := by
  intro b c s e ho lo hi hc ties queue hn tie hw hle x w failed
  have hb := (within_iff 1 24 b).mpr ⟨lo, hi⟩
  refine ⟨fun cause hx hcause => ?confirm, fun hx hs => ?clear⟩
  case confirm =>
    have fails : FailsBy w.state cause := by
      simp only [List.mem_cons, List.not_mem_nil, or_false] at hcause
      rcases hcause with ⟨hs, rfl⟩ | ⟨hs | hs | hs | hs, rfl⟩ <;> rw [hs] <;> constructor
    let u := s.withHammer b { x with watch := none }
    have due : confirmTimeoutDue s b = true := by simp [confirmTimeoutDue, hb, hx, x, hw, hle]
    have run : exec (.withdrawConfirmTimeout b) s = .next (settleLoad (enterFault c cause u)) := by
      show Host.Outcome.next (whenOperating _ s) = _
      rw [whenOperating_true _ _ ho, if_pos due, hammerEvent, answering]
      exact congrArg (fun t => Host.Outcome.next (settleLoad t))
        (deliver_failed (s := u) (tiedChannel_of_ties (s := u) ties hc tie) rfl fails)
    obtain ⟨fault, hammer⟩ := failed_settled (s := u) (cause := cause) ties queue hc tie fails.not_queued
    exact ⟨_, run, hammer.trans (hammer_withHammer_self s b _ hb), fault⟩
  case clear =>
    let u := raise (.hammerFault b .engage 0 0)
      (s.withHammer b { x with state := .fault, faultCause := some .engage, watch := none })
    have due : clearTimeoutDue s b = true := by simp [clearTimeoutDue, hb, hx, x, hw, hle]
    have run : exec (.engageClearTimeout b) s = .next (faultEntered c .engageFailed u) := by
      show Host.Outcome.next (whenOperating _ s) = _
      rw [whenOperating_true _ _ ho, if_pos due]
      have delivered : deliver b .failed u = faultEntered c .engageFailed u :=
        (deliver_failed (s := u) (tiedChannel_of_ties (s := u) ties hc tie) hs .restoring).trans
          (enterFault_of_restoring (s := u) hs)
      exact congrArg _ (hammerEvent_answered hn rfl delivered rfl)
    refine ⟨_, run, hammer_withHammer_self s b _ hb, ?_, failed_faultEntered (s := u) ?_ tie, rfl, rfl, rfl⟩
    · exact (raise_details_ne (d := .swingFault c (u.swing c).cfg.bell .engageFailed (u.swing c).state) _
        (show (13 : Nat) ≠ 6 by decide)).trans
        (raise_details_self (d := .hammerFault b .engage 0 0) _ (show within 1 18 6 = true by decide))
    · exact (within_iff 1 12 c).mpr ((mem_numbers 1 12 c).mp hc)

end Sys2Proof.Machine

/-! SUPPORT. The rows of a stage (R103, R106, R114): what a valid change does to a row, and the rank of a row. -/

namespace Sys2Proof.Machine

open Sys2Proof

/-! ## A valid change of a row (R103, R106) -/

/-- A mask of places over a row: each place is made, or pairs off with the next. -/
inductive PairedOff : List Bool → List Nat → Prop
  | nil : PairedOff [] []
  | made (b : Nat) {ms : List Bool} {row : List Nat} (rest : PairedOff ms row) : PairedOff (true :: ms) (b :: row)
  | pair (a b : Nat) {ms : List Bool} {row : List Nat} (rest : PairedOff ms row) :
      PairedOff (false :: false :: ms) (a :: b :: row)

theorem pairedOff_of_pairsOff : ∀ (ms : List Bool) (row : List Nat), ms.length = row.length → pairsOff ms = true →
    PairedOff ms row
  | [], [], _, _ => .nil
  | true :: ms, b :: row, hl, hp => .made b (pairedOff_of_pairsOff ms row (Nat.succ.inj hl) hp)
  | false :: false :: ms, a :: b :: row, hl, hp =>
    .pair a b (pairedOff_of_pairsOff ms row (Nat.succ.inj (Nat.succ.inj hl)) hp)
  | [false], _, _, hp => by simp [pairsOff] at hp
  | false :: true :: _, _, _, hp => by simp [pairsOff] at hp
  | false :: false :: _, [_], hl, _ => by simp at hl

section Walk
variable {ms : List Bool} {row : List Nat}

theorem walk_perm (h : PairedOff ms row) : (walk ms row).Perm row := by
  induction h with
  | nil => exact .refl _
  | made b _ ih => exact ih.cons b
  | pair a b _ ih => exact ((ih.cons a).cons b).trans (.swap a b _)

/-- The same change applied again gives the row back. -/
theorem walk_walk (h : PairedOff ms row) : walk ms (walk ms row) = row := by
  induction h with
  | nil => rfl
  | made b _ ih => exact congrArg (b :: ·) ih
  | pair a b _ ih => exact congrArg (a :: b :: ·) ih

/-- A made place keeps its bell. -/
theorem walk_of_made (h : PairedOff ms row) (p : Nat) (hp : ms[p]? = some true) : (walk ms row)[p]? = row[p]? := by
  induction h generalizing p with
  | nil => simp at hp
  | made b _ ih =>
    cases p with
    | zero => rfl
    | succ p => exact ih p (by simpa using hp)
  | pair a b _ ih =>
    match p with
    | 0 | 1 => simp at hp
    | p + 2 => exact ih p (by simpa using hp)

/-- The bell of a place that is not made changes places with a neighbour's. -/
def Swapped (row row' : List Nat) (p : Nat) : Prop :=
  row'[p]? = row[p + 1]? ∧ row'[p + 1]? = row[p]? ∨ 1 ≤ p ∧ row'[p]? = row[p - 1]? ∧ row'[p - 1]? = row[p]?

theorem Swapped.cons {row row' : List Nat} {p : Nat} (h : Swapped row row' p) (b b' : Nat) :
    Swapped (b :: row) (b' :: row') (p + 1) := by
  rcases h with h | ⟨hp, h⟩
  · exact .inl h
  · obtain ⟨q, rfl⟩ := Nat.exists_eq_succ_of_ne_zero (Nat.one_le_iff_ne_zero.mp hp)
    exact .inr ⟨Nat.succ_pos _, h⟩

theorem walk_swapped (h : PairedOff ms row) (p : Nat) (hp : ms[p]? = some false) : Swapped row (walk ms row) p := by
  induction h generalizing p with
  | nil => simp at hp
  | made b _ ih =>
    cases p with
    | zero => simp at hp
    | succ p => exact (ih p (by simpa using hp)).cons b b
  | pair a b _ ih =>
    match p with
    | 0 => exact .inl ⟨rfl, rfl⟩
    | 1 => exact .inr ⟨Nat.le_refl 1, rfl, rfl⟩
    | p + 2 => exact ((ih p (by simpa using hp)).cons _ _).cons _ _

end Walk

theorem length_placesMade (n : Nat) (c : BitVec 16) : (placesMade n c).length = n := by simp [placesMade, numbers]

theorem placesMade_getElem? {n p : Nat} (c : BitVec 16) (hp : p < n) : (placesMade n c)[p]? = some (c.getLsbD p) := by
  simp [placesMade, numbers, hp]

theorem pairedOff_of_valid {c : BitVec 16} {row : List Nat} (h : changeValid row.length c = true) :
    PairedOff (placesMade row.length c) row :=
  pairedOff_of_pairsOff _ _ (length_placesMade _ _) (Bool.and_eq_true_iff.mp h).1

theorem applyChange_of_valid {c : BitVec 16} {row : List Nat} (h : changeValid row.length c = true) :
    (applyChange c row).Perm row ∧ applyChange c (applyChange c row) = row
      ∧ ∀ p, p < row.length →
        (c.getLsbD p = true → (applyChange c row)[p]? = row[p]?)
          ∧ (c.getLsbD p = false → Swapped row (applyChange c row) p) := by
  have pairs := pairedOff_of_valid h
  have perm : (applyChange c row).Perm row := walk_perm pairs
  refine ⟨perm, ?_, fun p hp => ⟨fun hm => ?_, fun hm => ?_⟩⟩
  · rw [applyChange, perm.length_eq]
    exact walk_walk pairs
  · exact walk_of_made pairs p (by rw [placesMade_getElem? c hp, hm])
  · exact walk_swapped pairs p (by rw [placesMade_getElem? c hp, hm])

/-! ## The rank of a row (R114) -/

theorem factorial_eq (n : Nat) : factorial n = n.factorial := by
  induction n with
  | zero => rfl
  | succ n ih => rw [factorial, ih, Nat.factorial_succ]

/-- How many bells of a row are below a bell. -/
def below (row : List Nat) (x : Nat) : Nat := (row.filter (· < x)).length

theorem rank_cons (x : Nat) (xs : List Nat) : rank (x :: xs) = below xs x * xs.length.factorial + rank xs := by
  rw [rank, factorial_eq, below]

theorem below_le (row : List Nat) (x : Nat) : below row x ≤ row.length := List.length_filter_le _ _

theorem below_cons (z : Nat) (zs : List Nat) (x : Nat) : below (z :: zs) x = below zs x + if z < x then 1 else 0 := by
  by_cases h : z < x <;> simp [below, h]

theorem below_cons_self (x : Nat) (xs : List Nat) : below (x :: xs) x = below xs x := by simp [below_cons]

theorem below_perm {a b : List Nat} (h : a.Perm b) (x : Nat) : below a x = below b x := (h.filter _).length_eq

/-- A bell of the row counts among those below a higher one. -/
theorem below_lt {row : List Nat} {x y : Nat} (hx : x ∈ row) (h : x < y) : below row x < below row y := by
  induction row with
  | nil => cases hx
  | cons z zs ih =>
    have le : below zs x ≤ below zs y :=
      (List.monotone_filter_right zs fun w hw => decide_eq_true ((of_decide_eq_true hw).trans h)).length_le
    rw [below_cons, below_cons]
    rcases List.mem_cons.mp hx with rfl | hx
    · rw [if_neg (Nat.lt_irrefl x), if_pos h]
      omega
    · have lt := ih hx
      split <;> split <;> omega

theorem rank_lt (row : List Nat) : rank row < row.length.factorial := by
  induction row with
  | nil => exact Nat.one_pos
  | cons x xs ih =>
    calc rank (x :: xs) = below xs x * xs.length.factorial + rank xs := rank_cons x xs
      _ < below xs x * xs.length.factorial + xs.length.factorial := Nat.add_lt_add_left ih _
      _ = (below xs x + 1) * xs.length.factorial := (Nat.succ_mul _ _).symm
      _ ≤ (xs.length + 1) * xs.length.factorial := Nat.mul_le_mul_right _ (Nat.succ_le_succ (below_le xs x))
      _ = (x :: xs).length.factorial := (Nat.factorial_succ _).symm

/-- No two rows of the same bells share a rank: the rank gives how many bells stand below the first, which names it, and the
rank of the rest. -/
theorem rank_injective {a b : List Nat} (h : a.Perm b) (hr : rank a = rank b) : a = b := by
  induction a generalizing b with
  | nil => exact (List.nil_perm.mp h).symm
  | cons x xs ih =>
    cases b with
    | nil => exact absurd h.length_eq (by simp)
    | cons y ys =>
      have length : ys.length = xs.length := (Nat.succ.inj h.length_eq).symm
      have lx := rank_lt xs
      have ly := rank_lt ys
      rw [rank_cons, rank_cons, length] at hr
      rw [length] at ly
      have digits (d r : Nat) (hlt : r < xs.length.factorial) :
          (d * xs.length.factorial + r) / xs.length.factorial = d ∧ (d * xs.length.factorial + r) % xs.length.factorial = r :=
        ⟨by rw [Nat.mul_comm, Nat.mul_add_div (Nat.factorial_pos _), Nat.div_eq_of_lt hlt, Nat.add_zero],
          by rw [Nat.mul_comm, Nat.mul_add_mod, Nat.mod_eq_of_lt hlt]⟩
      obtain ⟨firstX, restX⟩ := digits (below xs x) (rank xs) lx
      obtain ⟨firstY, restY⟩ := digits (below ys y) (rank ys) ly
      have first : below xs x = below ys y := by rw [← firstX, hr, firstY]
      have rest : rank xs = rank ys := by rw [← restX, hr, restY]
      have counted : below (x :: xs) x = below (x :: xs) y := by
        rw [below_cons_self, first, below_perm h, below_cons_self]
      have same : x = y := by
        rcases Nat.lt_trichotomy x y with hlt | rfl | hlt
        · exact absurd counted (Nat.ne_of_lt (below_lt List.mem_cons_self hlt))
        · rfl
        · exact absurd counted (Nat.ne_of_gt (below_lt (h.mem_iff.mpr List.mem_cons_self) hlt))
      subst same
      rw [ih h.cons_inv rest]

/-- A rising row has rank 0: no bell stands before a lower one. -/
theorem rank_of_rising {row : List Nat} (h : row.Pairwise (· < ·)) : rank row = 0 := by
  induction row with
  | nil => rfl
  | cons x xs ih =>
    obtain ⟨first, rest⟩ := List.pairwise_cons.mp h
    have noneBelow : xs.filter (· < x) = [] :=
      List.filter_eq_nil_iff.mpr fun y hy => by simpa using Nat.le_of_lt (first y hy)
    rw [rank, noneBelow, ih rest, List.length_nil, Nat.zero_mul]

theorem rank_rounds (n : Nat) : rank (rounds n) = 0 := by
  refine rank_of_rising ?_
  rw [rounds, numbers, List.pairwise_map]
  exact List.pairwise_lt_range.imp fun h => Nat.add_lt_add_right h 1

theorem length_rounds (n : Nat) : (rounds n).length = n := by simp [rounds, numbers]

end Sys2Proof.Machine

/-! SUPPORT. The next row of a touch, formed and taken (R107, R110 to R115); the settled O42. -/

namespace Sys2Proof.Machine

open Sys2Proof

/-! ## The call of a lead (R107) -/

/-- The call is that of the lead being rung, and its last change is the next to be used. -/
def Touch.Called (t : Touch) (c : Call) : Prop :=
  t.changeIndex = t.snap.lead.length ∧ t.calls[t.nextCall]? = some c ∧ c.lead = t.leadNumber

theorem Touch.callNow_eq_some_iff (t : Touch) (c : Call) : t.callNow = some c ↔ t.Called c := by
  unfold Touch.callNow Touch.Called
  by_cases last : t.changeIndex = t.snap.lead.length
  · rw [if_pos last, Option.filter_eq_some_iff, beq_iff_eq, and_iff_right last]
  · simp [last]

theorem Touch.callNow_eq_none {t : Touch} (h : ∀ c, ¬t.Called c) : t.callNow = none :=
  Option.eq_none_iff_forall_ne_some.mpr fun c hc => h c ((t.callNow_eq_some_iff c).mp hc)

/-- A call that is made is used up. -/
theorem Touch.nextCall_of_called {t : Touch} {next : Nat} (made : (∃ c, t.Called c) → next = t.nextCall + 1)
    (unmade : (∀ c, ¬t.Called c) → next = t.nextCall) : next = if t.callNow.isSome then t.nextCall + 1 else t.nextCall := by
  split
  · rename_i isCalled
    obtain ⟨c, hc⟩ := Option.isSome_iff_exists.mp isCalled
    exact made ⟨c, (t.callNow_eq_some_iff c).mp hc⟩
  · rename_i noCall
    exact unmade fun c hc => noCall (by rw [(t.callNow_eq_some_iff c).mpr hc]; rfl)

/-! ## The row formed (R110) -/

theorem Touch.form_of_rounds {t : Touch} (hp : t.phase ≠ .changes) : t.form = rounds t.snap.stage := by
  unfold Touch.form
  split
  · rfl
  · rfl
  · rename_i changes
    exact absurd changes hp

theorem Touch.form_of_changes {t : Touch} (hp : t.phase = .changes) : t.form = applyChange t.changeNow t.row := by
  simp only [Touch.form, hp]

theorem Touch.changeNow_of_own {t : Touch} (h : ∀ c, ¬t.Called c) : t.changeNow = t.snap.lead.getD (t.changeIndex - 1) 0 := by
  simp only [Touch.changeNow, Touch.callNow_eq_none h]

theorem Touch.changeNow_of_called {t : Touch} {c : Call} {x : BitVec 16} (h : t.Called c)
    (bob : c.kind = .bob → t.snap.bob = some x) (single : c.kind = .single → t.snap.single = some x) : t.changeNow = x := by
  rw [Touch.changeNow, (t.callNow_eq_some_iff c).mpr h]
  dsimp only
  cases hk : c.kind with
  | bob => rw [bob hk, Option.getD_some]
  | single => rw [single hk, Option.getD_some]

/-! ## The row taken (R111 to R114) -/

/-- The row formed is the current row, and is counted as rung (R110). -/
def Touch.rung (t : Touch) : Touch :=
  { t with row := t.form, rowNumber := some t.nextRowNumber, rowsRung := t.rowsRung + 1 }

theorem Touch.take_of_opening {t : Touch} (hp : t.phase = .opening) : t.take
    = if t.nextRowNumber + 1 = t.opening then
        { t.rung with phase := .changes, leadNumber := 1, changeIndex := 1, marks := t.marks.map (fun _ => [0]) }
      else t.rung := by
  simp only [Touch.take, Touch.rung, hp]

theorem Touch.take_of_closing {t : Touch} (hp : t.phase = .closing) :
    t.take = { t.rung with closingLeft := t.closingLeft - 1 } := by
  simp only [Touch.take, Touch.rung, hp]

theorem Touch.take_of_changes {t : Touch} (hp : t.phase = .changes) : t.take = t.rung.takeChanged t.form := by
  simp only [Touch.take, Touch.rung, hp]

theorem Touch.takeChanged_of_rounds {t : Touch} {row : List Nat} (h : row = rounds t.snap.stage) : t.takeChanged row
    = { t with
        nextCall := if t.callNow.isSome then t.nextCall + 1 else t.nextCall, cameRound := true, phase := .closing
        closingLeft := t.closing } := by
  rw [Touch.takeChanged, if_pos h]
  split <;> rfl

theorem Touch.check_eq (t : Touch) (row : List Nat) : t.check row
    = { t with
        falseRows := if t.isFalse row then t.falseRows + 1 else t.falseRows
        marks := if t.isFalse row then t.marks else t.marks.map (fun ms => rank row :: ms) } := by
  unfold Touch.check
  split <;> rfl

theorem Touch.moveOn_eq (t : Touch) : t.moveOn
    = { t with
        leadNumber := if t.changeIndex < t.snap.lead.length then t.leadNumber else t.leadNumber + 1
        changeIndex := if t.changeIndex < t.snap.lead.length then t.changeIndex + 1 else 1 } := by
  unfold Touch.moveOn
  split <;> rfl

theorem Touch.isFalse_eq (t : Touch) (row : List Nat) : t.isFalse row = t.marks.any (fun ms => ms.contains (rank row)) := by
  unfold Touch.isFalse
  split <;> rename_i hm <;> rw [hm] <;> rfl

theorem Touch.takeChanged_of_changed {t : Touch} {row : List Nat} (h : row ≠ rounds t.snap.stage) : t.takeChanged row
    = { t with
        nextCall := if t.callNow.isSome then t.nextCall + 1 else t.nextCall
        changedRows := t.changedRows + 1
        falseRows := if t.isFalse row then t.falseRows + 1 else t.falseRows
        marks := if t.isFalse row then t.marks else t.marks.map (fun ms => rank row :: ms)
        leadNumber := if t.changeIndex < t.snap.lead.length then t.leadNumber else t.leadNumber + 1
        changeIndex := if t.changeIndex < t.snap.lead.length then t.changeIndex + 1 else 1 } := by
  simp only [Touch.takeChanged, if_neg h, Touch.moveOn_eq, Touch.check_eq]
  split <;> rfl

theorem Touch.done_iff (t : Touch) : t.done = true ↔ t.phase = .closing ∧ t.closingLeft = 0 := by
  simp only [Touch.done, Bool.and_eq_true, beq_iff_eq]

/-! ## When a row begins (R115) -/

theorem Touch.rowStart_zero (t : Touch) (origin : Int) : t.rowStart origin 0 = origin := by
  simp [Touch.rowStart]

/-- A row takes a beat for each of its strokes, and a backstroke's row one beat more, before the handstroke after it. -/
theorem Touch.rowStart_succ (t : Touch) (origin : Int) (k : Nat) : t.rowStart origin (k + 1)
    = t.rowStart origin k + ((t.strokes * t.beat : Nat) : Int) + (if (k + 1) % 2 = 0 then (t.beat : Int) else 0) := by
  have strokes : (k + 1) * t.strokes * t.beat = k * t.strokes * t.beat + t.strokes * t.beat := by ring
  have half : (k + 1) / 2 = k / 2 + if (k + 1) % 2 = 0 then 1 else 0 := by
    split <;> omega
  have gap : (k + 1) / 2 * t.beat = k / 2 * t.beat + if (k + 1) % 2 = 0 then t.beat else 0 := by
    rw [half, Nat.add_mul]
    split <;> simp
  rw [Touch.rowStart, Touch.rowStart, strokes, gap]
  split <;> push_cast <;> ring

/-- Settles O42: `applyChange_of_valid` for the change of a row, `rank_rounds`, `rank_lt` and `rank_injective` for the ranks, and
for the touch the row formed and the row taken, phase by phase. -/
theorem rowsChangesAndRanks : Obligations.RowsChangesAndRanks := by
  refine ⟨fun c row valid => applyChange_of_valid valid, fun n => ⟨rank_rounds n, fun row hr => ?rankLt, fun a b ha hb => ?inj⟩,
    fun t => ?touch⟩
  case rankLt =>
    have lt := rank_lt row
    rwa [hr.length_eq, length_rounds] at lt
  case inj => exact rank_injective (ha.trans hb.symm)
  case touch =>
    intro n length r rung own called
    refine ⟨Touch.form_of_rounds, fun hp noCall => ?own, fun hp c x hc bob single => ?called, fun hp hr => ?opens, fun hp hr => ?go,
      Touch.take_of_closing, fun next hp made noCall => ⟨fun hr => ?back, fun hr => ?changed⟩, t.done_iff,
      fun origin => ⟨t.rowStart_zero origin, t.rowStart_succ origin⟩⟩
    case own => rw [Touch.form_of_changes hp, Touch.changeNow_of_own noCall]
    case called => rw [Touch.form_of_changes hp, Touch.changeNow_of_called hc bob single]
    case opens => exact (Touch.take_of_opening hp).trans (if_neg hr)
    case go => exact (Touch.take_of_opening hp).trans (if_pos hr)
    case back =>
      rw [Touch.nextCall_of_called made noCall, Touch.take_of_changes hp]
      exact Touch.takeChanged_of_rounds (t := t.rung) hr
    case changed =>
      rw [Touch.nextCall_of_called made noCall, Touch.take_of_changes hp]
      have taken := Touch.takeChanged_of_changed (t := t.rung) hr
      rw [Touch.isFalse_eq] at taken
      exact taken

end Sys2Proof.Machine

/-! SUPPORT. The count of the truth map (R114): what keeps it, the rows of a touch, and the operations of the arbiter that can
start, pause, resume or end a performance. -/

namespace Sys2Proof.Machine

open Sys2Proof

/-! ## What keeps the count -/

/-- The operation keeps the count of the truth map, and a touch that waits has not begun after it. -/
structure KeepsTruth (s t : State) : Prop where
  keeps : truthOk s → truthOk t

/-- The touch context's part of `truthOk`. -/
def Touch.counted (t : Touch) : Prop :=
  ∀ ms, t.marks = some ms →
    if t.phase = .opening then t.changedRows = 0 ∧ t.falseRows = 0
    else ms.Nodup ∧ ms.length + t.falseRows = 1 + t.changedRows

/-- The touch of the queue waits to begin. -/
def TouchWaits (q : List Perf) : Prop := ∃ p ∈ q, p.cls = .touch ∧ p.state = .waiting

theorem truthOk_iff (s : State) :
    truthOk s ↔ s.touch.counted ∧ (TouchWaits s.arbiter.queue → s.touch.phase = .opening) :=
  and_congr_right fun _ => ⟨fun h ⟨p, hp, hc, hw⟩ => h p hp hc hw, fun h p hp hc hw => h ⟨p, hp, hc, hw⟩⟩

theorem KeepsTruth.refl (s : State) : KeepsTruth s s := ⟨fun ht => ht⟩

theorem KeepsTruth.trans {s t u : State} (h : KeepsTruth s t) (h' : KeepsTruth t u) : KeepsTruth s u :=
  ⟨fun ht => h'.keeps (h.keeps ht)⟩

theorem KeepsTruth.foldl {α : Type} {f : State → α → State} (hf : ∀ s x, KeepsTruth s (f s x)) (xs : List α) (s : State) :
    KeepsTruth s (xs.foldl f s) := foldl_rel KeepsTruth.refl KeepsTruth.trans hf xs s

theorem KeepsTruth.ite {s t u : State} {p : Prop} [Decidable p] (ht : KeepsTruth s t) (hu : KeepsTruth s u) :
    KeepsTruth s (if p then t else u) := by
  split
  · exact ht
  · exact hu

/-- What the count was may be used of the operation. -/
theorem KeepsTruth.of {s t : State} (h : truthOk s → KeepsTruth s t) : KeepsTruth s t := ⟨fun ht => (h ht).keeps ht⟩

/-- What the count rests on is the touch context, its status apart, and which touch waits. -/
theorem KeepsTruth.of_waits {s t : State} {st : TouchStatus} (touch : t.touch = { s.touch with status := st })
    (waits : TouchWaits t.arbiter.queue → TouchWaits s.arbiter.queue) : KeepsTruth s t := by
  refine ⟨fun ht => ?_⟩
  rw [truthOk_iff] at ht ⊢
  obtain ⟨counted, begun⟩ := ht
  rw [touch]
  exact ⟨counted, fun h => begun (waits h)⟩

/-- The blocks that the count rests on. -/
def State.ringing (s : State) : Touch × Arbiter := (s.touch, s.arbiter)

/-- An operation on neither the touch nor the arbiter. -/
theorem KeepsTruth.of_eq {s t : State} (h : t.ringing = s.ringing) : KeepsTruth s t := by
  obtain ⟨touch, arbiter⟩ := Prod.mk.inj h
  exact .of_waits (touch.trans rfl) (by rw [arbiter]; exact id)

/-- The operation after one on neither. The equation is given as `by rfl` where the states between are found last. -/
theorem KeepsTruth.after {s t u : State} (h : KeepsTruth t u) (same : t.ringing = s.ringing) : KeepsTruth s u :=
  (KeepsTruth.of_eq same).trans h

theorem KeepsTruth.andThen {s t u : State} (h : KeepsTruth s t) (same : u.ringing = t.ringing) : KeepsTruth s u :=
  h.trans (.of_eq same)

theorem KeepsTruth.raise (d : Detail) (s : State) : KeepsTruth s (raise d s) := .of_eq rfl

theorem KeepsTruth.withQueue {s : State} {q : List Perf} (h : TouchWaits q → TouchWaits s.arbiter.queue) :
    KeepsTruth s (s.withQueue q) := .of_waits rfl h

theorem TouchWaits.of_filter {f : Perf → Bool} {q : List Perf} (h : TouchWaits (q.filter f)) : TouchWaits q := by
  obtain ⟨p, hp, hc, hw⟩ := h
  exact ⟨p, List.mem_of_mem_filter hp, hc, hw⟩

/-- A change that makes no performance a touch that waits. -/
theorem TouchWaits.of_map {f : Perf → Perf} {q : List Perf} (hf : ∀ p, (f p).cls = .touch → (f p).state = .waiting →
    p.cls = .touch ∧ p.state = .waiting) (h : TouchWaits (q.map f)) : TouchWaits q := by
  obtain ⟨_, hm, hc, hw⟩ := h
  obtain ⟨p, hp, rfl⟩ := List.mem_map.mp hm
  obtain ⟨hc, hw⟩ := hf p hc hw
  exact ⟨p, hp, hc, hw⟩

theorem KeepsTruth.dropPerf (id : Nat) (s : State) : KeepsTruth s (dropPerf id s) := .withQueue .of_filter

/-- A change of one performance that does not make it a touch that waits. -/
theorem KeepsTruth.updatePerf_of (id : Nat) {f : Perf → Perf} (s : State)
    (hf : ∀ p, (f p).cls = .touch → (f p).state = .waiting → p.cls = .touch ∧ p.state = .waiting) :
    KeepsTruth s (updatePerf id f s) := by
  refine .withQueue (.of_map fun p hc hw => ?_)
  split at hc
  · rename_i hid
    rw [if_pos hid] at hw
    exact hf p hc hw
  · rename_i hid
    rw [if_neg hid] at hw
    exact ⟨hc, hw⟩

/-- A change of one performance that leaves what it is and its state. -/
theorem KeepsTruth.updatePerf (id : Nat) {f : Perf → Perf} (s : State) (hf : ∀ p, ((f p).cls, (f p).state) = (p.cls, p.state)) :
    KeepsTruth s (updatePerf id f s) := by
  refine .updatePerf_of id s fun p hc hw => ?_
  obtain ⟨cls, state⟩ := Prod.mk.inj (hf p)
  exact ⟨cls ▸ hc, state ▸ hw⟩

/-- A performance that is no longer WAITING is no touch that waits. -/
theorem KeepsTruth.leavesWaiting (id : Nat) {f : Perf → Perf} (s : State) (hf : ∀ p, (f p).state ≠ .waiting) :
    KeepsTruth s (Machine.updatePerf id f s) := .updatePerf_of id s fun p _ hw => absurd hw (hf p)

/-! ## The rows of a touch (R110 to R114) -/

theorem Touch.counted_begun {t : Touch} (h : t.counted) (hp : t.phase ≠ .opening) {ms : List Nat} (hms : t.marks = some ms) :
    ms.Nodup ∧ ms.length + t.falseRows = 1 + t.changedRows := by
  have count := h ms hms
  rwa [if_neg hp] at count

/-- A changed row is one more row that is marked, or one more that is false (R114). -/
theorem Touch.changed_counted {t : Touch} (h : t.counted) (hp : t.phase = .changes) (hr : t.form ≠ rounds t.snap.stage) :
    (t.rung.takeChanged t.form).counted := by
  have phase : t.rung.phase ≠ .opening := by rw [Touch.rung, hp]; exact TouchPhase.noConfusion
  rw [Touch.takeChanged_of_changed (t := t.rung) hr]
  intro ms hms
  rw [if_neg phase]
  cases hf : t.rung.isFalse t.form with
  | true =>
    simp only [hf, if_true] at hms ⊢
    obtain ⟨nodup, count⟩ := Touch.counted_begun (t := t.rung) h phase hms
    exact ⟨nodup, by omega⟩
  | false =>
    simp only [hf, Bool.false_eq_true, if_false] at hms ⊢
    obtain ⟨ms', hms', rfl⟩ := Option.map_eq_some_iff.mp hms
    obtain ⟨nodup, count⟩ := Touch.counted_begun (t := t.rung) h phase hms'
    have new : rank t.form ∉ ms' := by simpa [Touch.isFalse_eq, hms'] using hf
    exact ⟨List.nodup_cons.mpr ⟨new, nodup⟩, by rw [List.length_cons]; omega⟩

/-- Taking a row keeps the count: go marks rounds alone, each changed row is marked or false, and the rows of OPENING and
CLOSING are no changed rows (R111 to R114). -/
theorem Touch.take_counted {t : Touch} (h : t.counted) : t.take.counted := by
  cases hp : t.phase with
  | opening =>
    rw [Touch.take_of_opening hp]
    split
    · intro ms hms
      obtain ⟨ms', hms', rfl⟩ := Option.map_eq_some_iff.mp hms
      obtain ⟨changed, falses⟩ : t.changedRows = 0 ∧ t.falseRows = 0 := by simpa [hp] using h ms' hms'
      simp [Touch.rung, changed, falses]
    · exact h
  | changes =>
    rw [Touch.take_of_changes hp]
    by_cases hr : t.form = rounds t.snap.stage
    · rw [Touch.takeChanged_of_rounds (t := t.rung) hr]
      exact fun ms hms => Touch.counted_begun h (by rw [hp]; exact TouchPhase.noConfusion) hms
    · exact Touch.changed_counted h hp hr
  | closing =>
    rw [Touch.take_of_closing hp]
    exact h

/-! ## Omitting and ending (R72, R77) -/

theorem KeepsTruth.endTouch (p : Perf) (how : TouchHow) (reason : Option OmitReason) (s : State) :
    KeepsTruth s (endTouch p how reason s) := .ite (.of_waits (st := .ended) rfl id) (.refl s)

theorem KeepsTruth.moveMarker (event : Nat) (s : State) : KeepsTruth s (moveMarker event s) := by
  rw [moveMarker_same]
  exact .of_eq rfl

theorem KeepsTruth.serveEvent (p : Perf) (s : State) : KeepsTruth s (serveEvent p s) := by
  unfold Machine.serveEvent
  split
  · exact .moveMarker _ s
  · exact .refl s

theorem KeepsTruth.endHold (was : Option Nat) (s : State) : KeepsTruth s (endHold was s) := by
  unfold Machine.endHold
  split
  · exact .ite (.updatePerf _ s fun _ => rfl) (.refl s)
  · exact .refl s

/-- A performance that is omitted or left out leaves the queue, its event served. -/
theorem KeepsTruth.served (p : Perf) (was : Option Nat) (s : State) :
    KeepsTruth s (Machine.endHold was (Machine.serveEvent p (Machine.dropPerf p.id s))) :=
  ((KeepsTruth.dropPerf p.id s).trans (.serveEvent p _)).trans (.endHold _ _)

theorem KeepsTruth.omitPerf (p : Perf) (reason : OmitReason) (part : ClockPart) (s : State) :
    KeepsTruth s (omitPerf p reason part s) := ((KeepsTruth.endTouch p _ _ s).trans (.raise _ _)).trans (.served p _ _)

theorem KeepsTruth.endPerf (p : Perf) (how : How) (s : State) : KeepsTruth s (endPerf p how s) := by
  have removed (u : State) : KeepsTruth u (removeEntries p.id u) := .of_eq rfl
  exact (((KeepsTruth.ite (removed s) (.refl s)).trans (.endTouch p (touchHow how) none _)).trans (.raise _ _)).trans
    (.dropPerf p.id _)

/-! ## Starting (R62, R72, R73) -/

/-- A touch that starts has waited, so that it is in OPENING already (R109). -/
theorem KeepsTruth.startPlain {s : State} {p : Perf} (hp : p ∈ s.arbiter.queue) (hw : p.state = .waiting) :
    KeepsTruth s (startPlain p s) := by
  refine .of fun ht => ?_
  have touch : ∃ st, (Machine.startPlain p s).touch = { s.touch with status := st } := by
    rw [startPlain_touch]
    split
    · rename_i source
      have opening := ((truthOk_iff s).mp ht).2 ⟨p, hp, by rw [Perf.cls, source]; rfl, hw⟩
      exact ⟨.ringing, by rw [← opening]⟩
    · exact ⟨_, rfl⟩
  obtain ⟨st, touch⟩ := touch
  refine .of_waits touch fun h => ?_
  rw [startPlain_arbiter] at h
  refine h.of_map fun q hc hw => ?_
  split at hw
  · cases hw
  · rename_i other
    rw [if_neg other] at hc
    exact ⟨hc, hw⟩

theorem KeepsTruth.startClock (p : Perf) (event : Nat) (chime : Option ChimePart) (strike : Option StrikePart) (s : State) :
    KeepsTruth s (startClock p event chime strike s) := by
  have moved : KeepsTruth s (Machine.moveMarker event (Machine.updatePerf p.id (fun p => { p with
      state := .active, tested := true, source := .clock event chime strike, inStrike := chime.isNone }) s)) :=
    (KeepsTruth.leavesWaiting p.id s fun _ => PerfState.noConfusion).trans (.moveMarker event _)
  cases chime with
  | none => exact moved
  | some c => exact moved.trans (.ite (.refl _) (.of_eq rfl))

theorem KeepsTruth.arbitrateClock (p : Perf) (event : Nat) (chime : Option ChimePart) (strike : Option StrikePart)
    (part : ClockPart) (s : State) : KeepsTruth s (arbitrateClock p event chime strike part s) := by
  unfold Machine.arbitrateClock
  split
  · exact .startClock p event chime strike s
  · have paused (id : Nat) : KeepsTruth s (pause id s) := .leavesWaiting id s fun _ => PerfState.noConfusion
    exact .ite ((paused _).trans (.startClock p event chime strike _)) (.omitPerf p _ _ s)

theorem KeepsTruth.partTest {α : Type} (p : Perf) (reason : OmitReason) (part : ClockPart) (fails : α → Bool) (x : Option α)
    (s : State) : KeepsTruth s (partTest p reason part fails x s).2 := by
  unfold Machine.partTest
  split
  · exact .of_eq rfl
  · exact .refl s

theorem KeepsTruth.testClock (p : Perf) (event : Nat) (chime : Option ChimePart) (strike : Option StrikePart) (s : State) :
    KeepsTruth s (testClock p event chime strike s) := by
  unfold Machine.testClock
  refine .ite (.omitPerf p _ _ s) (KeepsTruth.trans ?_ (.ite (.served p _ _) (.arbitrateClock _ _ _ _ _ _)))
  exact (((KeepsTruth.partTest _ _ _ _ _ s).trans (.partTest _ _ _ _ _ _)).trans (.partTest _ _ _ _ _ _)).trans
    (.partTest _ _ _ _ _ _)

theorem KeepsTruth.testPlain {s : State} {p : Perf} (hp : p ∈ s.arbiter.queue) (hw : p.state = .waiting) (k : SilenceClass)
    (lacks : Bool) : KeepsTruth s (testPlain p k lacks s) := by
  unfold Machine.testPlain
  refine .ite (.omitPerf _ _ _ s) (.ite (.omitPerf _ _ _ s) ?_)
  split
  · exact .startPlain hp hw
  · exact .updatePerf _ s fun _ => rfl

theorem KeepsTruth.startTest {s : State} {p : Perf} (hp : p ∈ s.arbiter.queue) (hw : p.state = .waiting) :
    KeepsTruth s (startTest p s) := by
  unfold Machine.startTest
  refine .ite (.omitPerf _ _ _ s) ?_
  split
  · exact .testClock p _ _ _ s
  all_goals exact .testPlain hp hw _ _

/-! ## Offering the hammers (R75, R76) -/

theorem KeepsTruth.offerTo (s : State) (id : Nat) : KeepsTruth s (offerTo s id) := by
  unfold Machine.offerTo
  split
  · rename_i p hfind _
    split
    · rename_i due
      exact .startTest (findPerf_mem hfind).1 (by simpa using (Bool.and_eq_true_iff.mp due).1)
    · exact .refl s
  · exact .refl s

theorem KeepsTruth.offerHammers (clock : Option Int) (s : State) : KeepsTruth s (offerHammers clock s) := by
  unfold Machine.offerHammers
  split
  · exact .leavesWaiting _ s fun _ => PerfState.noConfusion
  · exact .foldl KeepsTruth.offerTo _ s

theorem KeepsTruth.checkEnd (s : State) (id : Nat) : KeepsTruth s (checkEnd s id) := by
  unfold Machine.checkEnd
  split
  · exact .ite (.ite ((KeepsTruth.endPerf _ _ s).trans (.offerHammers _ _)) (.endPerf _ _ s)) (.refl s)
  · exact .refl s

end Sys2Proof.Machine

/-! SUPPORT. Every command keeps the count of the truth map: first the blocks that can emit a row, end a performance or offer the
hammers, then the blocks that those rest on. -/

namespace Sys2Proof.Machine

open Sys2Proof

/-! ## Queueing and building (R63, R68, R69) -/

theorem TouchWaits.of_enqueue {p : Perf} {q : List Perf} (hp : p.cls ≠ .touch) (h : TouchWaits (enqueue p q)) : TouchWaits q := by
  obtain ⟨x, hx, hc, hw⟩ := h
  rcases (mem_enqueue p x q).mp hx with rfl | hx
  · exact absurd hc hp
  · exact ⟨x, hx, hc, hw⟩

theorem KeepsTruth.joinQueue {p : Perf} (hp : p.cls ≠ .touch) (s : State) : KeepsTruth s (joinQueue p s) :=
  .of_waits rfl (.of_enqueue hp)

theorem KeepsTruth.latePart (id event : Nat) (part : ClockPart) (late : Bool) (s : State) :
    KeepsTruth s (latePart id event part late s) := .ite (.of_eq rfl) (.refl s)

theorem KeepsTruth.buildEvent (event : Nat) (s : State) : KeepsTruth s (buildEvent event s) := by
  unfold Machine.buildEvent
  split
  · exact (KeepsTruth.moveMarker event _).after (by rfl)
  · dsimp only
    have late (id : Nat) (c k : Bool) : KeepsTruth s (Machine.latePart id event .strike k (Machine.latePart id event .chime c s)) :=
      (KeepsTruth.latePart _ _ _ _ s).trans (.latePart _ _ _ _ _)
    split
    · exact (late _ _ _).trans (.moveMarker event _)
    · exact (late _ _ _).trans (.joinQueue PerfClass.noConfusion _)

theorem KeepsTruth.buildAhead (s : State) : KeepsTruth s (buildAhead s) :=
  .foldl (fun s n => .ite (.buildEvent n s) (.refl s)) _ s

/-! ## Strokes (R86 to R92) -/

theorem KeepsTruth.dropStroke (id : Nat) (cls : PerfClass) (row : Nat) (bell : Int) (strength : Nat) (reason : DropReason)
    (wanted : Int) (slip : Nat) (s : State) : KeepsTruth s (dropStroke id cls row bell strength reason wanted slip s) := by
  have counted : KeepsTruth s (Machine.updatePerf id (fun p => { p with dropped := countUp 65535 p.dropped }) s) :=
    .updatePerf id s fun _ => rfl
  exact counted.andThen (by rfl)

theorem KeepsTruth.bookStroke (p : Perf) (row limit : Nat) (s : State) (k : Stroke) :
    KeepsTruth s (bookStroke p row limit s k) := by
  unfold Machine.bookStroke
  refine .ite (.dropStroke _ _ _ _ _ _ _ _ s) ?_
  dsimp only
  refine .ite (.dropStroke _ _ _ _ _ _ _ _ s) (.ite (.dropStroke _ _ _ _ _ _ _ _ s) ?_)
  exact (KeepsTruth.updatePerf p.id _ fun _ => by rfl).after (by rfl)

theorem KeepsTruth.advance (id : Nat) (s : State) : KeepsTruth s (Machine.updatePerf id Perf.advance s) := by
  refine .updatePerf id s fun p => ?_
  obtain ⟨-, source, state, -⟩ := p.advance_same
  rw [Perf.cls, source, state, Perf.cls]

theorem KeepsTruth.reportFalse (t : Touch) (s : State) : KeepsTruth s (reportFalse t s) := .ite (.of_eq rfl) (.refl s)

/-- Where the touch of the queue is ACTIVE, no touch waits to begin: there is one touch at most (R63). -/
theorem not_touchWaits {s : State} {p : Perf} (hq : queueOk s) (hp : p ∈ s.arbiter.queue) (hc : p.cls = .touch)
    (ha : p.state = .active) : ¬TouchWaits s.arbiter.queue := by
  rintro ⟨x, hx, hxc, hw⟩
  have fits := ((queueOk_iff s).mp hq).1
  rw [eq_of_id fits.ids hx hp (fits.oneTouch x hx p hp hxc hc), ha] at hw
  cases hw

/-- A row of the touch that rings is taken into the count. -/
theorem KeepsTruth.takeTouchRow {s : State} {p : Perf} (hw : ¬TouchWaits s.arbiter.queue) : KeepsTruth s (takeTouchRow p s) := by
  have row : KeepsTruth s { s with touch := s.touch.take } := by
    refine ⟨fun ht => ?_⟩
    rw [truthOk_iff] at ht ⊢
    exact ⟨Touch.take_counted ht.1, fun h => absurd h hw⟩
  have taken := row.trans (.reportFalse s.touch _)
  unfold Machine.takeTouchRow
  exact .ite (taken.trans (.updatePerf p.id _ fun _ => rfl)) taken

theorem KeepsTruth.emitRow {s : State} {p : Perf} (hw : p.cls = .touch → ¬TouchWaits s.arbiter.queue) :
    KeepsTruth s (emitRow p s) := by
  have taken : KeepsTruth s (if p.cls == .touch then Machine.takeTouchRow p s else s) := by
    split
    · rename_i hc
      exact .takeTouchRow (hw (beq_iff_eq.mp hc))
    · exact .refl s
  unfold Machine.emitRow
  exact ((taken.trans (.foldl (KeepsTruth.bookStroke p _ _) _ _)).trans (.advance p.id _)).trans (.checkEnd _ _)

theorem KeepsTruth.dropEntry (reason : DropReason) (s : State) (e : Entry) : KeepsTruth s (dropEntry reason s e) :=
  .dropStroke _ _ _ _ _ _ _ _ s

theorem KeepsTruth.dropEntriesFor (bell : Nat) (reason : DropReason) (s : State) :
    KeepsTruth s (dropEntriesFor bell reason s) :=
  ((KeepsTruth.foldl (KeepsTruth.dropEntry reason) _ _).after (by rfl)).trans (.foldl KeepsTruth.checkEnd _ _)

theorem KeepsTruth.endRecovery (b : Nat) (s : State) : KeepsTruth s (endRecovery b s) := .ite (.of_eq rfl) (.refl s)

theorem KeepsTruth.actuatorFault (b : Nat) (s : State) : KeepsTruth s (actuatorFault b s) :=
  (KeepsTruth.dropEntriesFor b _ _).after (by rfl)

theorem KeepsTruth.pulseEnd (b : Nat) (asserted : Bool) (s : State) : KeepsTruth s (pulseEnd b asserted s) := by
  unfold Machine.pulseEnd
  exact .ite ((KeepsTruth.actuatorFault b _).after (by rfl)) (.ite ((KeepsTruth.endRecovery b _).after (by rfl)) (.of_eq rfl))

theorem KeepsTruth.ripen (b : Nat) (s : State) : KeepsTruth s (ripen b s) := by
  unfold Machine.ripen
  exact (KeepsTruth.ite (.pulseEnd b _ s) (.refl s)).trans (.endRecovery b _)

theorem KeepsTruth.takeEntry (s : State) : KeepsTruth s (takeEntry s) := by
  unfold Machine.takeEntry
  split
  · exact .refl s
  · rename_i e es _
    have ripened := KeepsTruth.ripen e.bell s
    revert ripened
    generalize Machine.ripen e.bell s = r
    intro ripened
    refine .ite ripened ?_
    dsimp only
    split
    · exact (ripened.trans ((KeepsTruth.updatePerf _ _ fun _ => by rfl).after (by rfl))).trans (.checkEnd _ _)
    · exact (ripened.trans ((KeepsTruth.dropEntry _ _ _).after (by rfl))).trans (.checkEnd _ _)

/-! ## The hammers' handshake (R94 to R96) -/

theorem KeepsTruth.assertWithdraw (b : Nat) (s : State) : KeepsTruth s (assertWithdraw b s).1 := by
  unfold Machine.assertWithdraw
  dsimp only
  split <;> exact .of_eq rfl

theorem KeepsTruth.withdrawRequest (b : Nat) (s : State) : KeepsTruth s (withdrawRequest b s).1 := by
  have dropped (x : Hammer) : KeepsTruth s (Machine.dropEntriesFor b .withdrawn (s.withHammer b x)) :=
    (KeepsTruth.dropEntriesFor b _ _).after (by rfl)
  unfold Machine.withdrawRequest
  dsimp only
  split
  · exact dropped _
  · split
    case h_1 | h_2 | h_3 | h_4 => exact (dropped _).trans (.assertWithdraw b _)
    case h_5 => exact dropped _
    case h_6 => exact .assertWithdraw b s
    case h_7 =>
      split
      · exact .assertWithdraw b s
      · exact .refl s
    case h_8 => exact .refl s

theorem KeepsTruth.beginEngage (b : Nat) (s : State) : KeepsTruth s (beginEngage b s).1 := by
  unfold Machine.beginEngage
  dsimp only
  split <;> exact .of_eq rfl

theorem KeepsTruth.engageRequest (b : Nat) (s : State) : KeepsTruth s (engageRequest b s).1 := by
  unfold Machine.engageRequest
  dsimp only
  split
  case h_1 | h_2 => exact .beginEngage b s
  case h_3 =>
    split
    · exact .beginEngage b s
    · exact .refl s
  all_goals exact .refl s

theorem KeepsTruth.confirmAsserted (b : Nat) (s : State) : KeepsTruth s (confirmAsserted b s).1 := by
  unfold Machine.confirmAsserted
  dsimp only
  split <;> exact .of_eq rfl

theorem KeepsTruth.confirmCleared (b : Nat) (s : State) : KeepsTruth s (confirmCleared b s).1 := by
  unfold Machine.confirmCleared
  dsimp only
  split
  · exact .of_eq rfl
  · split
    · exact (KeepsTruth.assertWithdraw b _).after (by rfl)
    · exact .of_eq rfl

theorem KeepsTruth.sampleWithdrawing (b : Nat) (asserted : Bool) (s : State) : KeepsTruth s (sampleWithdrawing b asserted s) := by
  unfold Machine.sampleWithdrawing
  exact .ite (.of_eq rfl) (.of_eq rfl)

theorem KeepsTruth.hammerPulseEnded (b : Nat) (asserted : Bool) (s : State) : KeepsTruth s (hammerPulseEnded b asserted s).1 := by
  unfold Machine.hammerPulseEnded
  dsimp only
  split
  · exact (KeepsTruth.sampleWithdrawing b asserted s).trans (.assertWithdraw b _)
  · split
    · exact .sampleWithdrawing b asserted s
    · exact .pulseEnd b asserted s

/-! ## The swing channels (R121 to R131) -/

theorem KeepsTruth.watchLoad {f : State → State} {s : State} (h : KeepsTruth s (f s)) : KeepsTruth s (watchLoad f s) := by
  rcases watchLoad_cases f s with e | e <;> rw [e]
  · exact h
  · exact h.andThen (by rfl)

theorem KeepsTruth.enterFault (c : Nat) (cause : SwingCause) (s : State) : KeepsTruth s (enterFault c cause s) :=
  .watchLoad (.of_eq rfl)

theorem KeepsTruth.enterLowering (c : Nat) (cause : WayDown) (s : State) : KeepsTruth s (enterLowering c cause s) :=
  .watchLoad (.of_eq rfl)

theorem KeepsTruth.leaveRaise (c : Nat) (s : State) : KeepsTruth s (leaveRaise c s) := .ite (.of_eq rfl) (.of_eq rfl)

theorem KeepsTruth.joinRaise (c : Nat) (s : State) : KeepsTruth s (joinRaise c s) := .ite (.of_eq rfl) (.of_eq rfl)

theorem KeepsTruth.returnDown (c : Nat) (cause : WayDown) (s : State) : KeepsTruth s (returnDown c cause s) := by
  have left (u : State) : KeepsTruth u (reportSwing c (Machine.leaveRaise c u)) := (KeepsTruth.leaveRaise c u).andThen (by rfl)
  exact .watchLoad ((left _).after (by rfl))

theorem KeepsTruth.deliver (b : Nat) (a : HammerAnswer) (s : State) : KeepsTruth s (deliver b a s) := by
  unfold Machine.deliver
  split
  · exact .refl s
  · split
    case h_1 | h_8 => exact .of_eq rfl
    case h_9 => exact .refl s
    all_goals exact .enterFault _ _ s

theorem KeepsTruth.answering {b : Nat} {f : State → State × Option HammerAnswer} {s : State} (h : KeepsTruth s (f s).1) :
    KeepsTruth s (answering b f s) := by
  unfold Machine.answering
  dsimp only
  split
  · exact h.trans (.deliver b _ _)
  · exact h

theorem KeepsTruth.enterSettling (c : Nat) (withdraw : Bool) (s : State) : KeepsTruth s (enterSettling c withdraw s) :=
  .watchLoad (.ite ((KeepsTruth.withdrawRequest _ _).after (by rfl)) (.of_eq rfl))

theorem KeepsTruth.enterClearing (c : Nat) (s : State) : KeepsTruth s (enterClearing c s) :=
  (KeepsTruth.answering (.withdrawRequest _ _)).after (by rfl)

theorem KeepsTruth.enterRestoring (c : Nat) (cause : WayDown) (s : State) : KeepsTruth s (enterRestoring c cause s) := by
  have entered : KeepsTruth s (Machine.watchLoad (fun u => u.withSwing c { (s.swing c).still with
      state := .restoring, wayDown := cause }) s) := .watchLoad (.of_eq rfl)
  exact entered.trans (.answering (.engageRequest _ _))

theorem KeepsTruth.movedPass (c : Nat) (s : State) : KeepsTruth s (movedPass c s) := by
  refine .watchLoad (KeepsTruth.trans ?_ (.enterSettling c true _))
  exact .ite ((KeepsTruth.leaveRaise c _).after (by rfl)) (.of_eq rfl)

theorem KeepsTruth.raisingPass (c : Nat) (d : Direction) (arc : Bool) (s : State) : KeepsTruth s (raisingPass c d arc s) := by
  have swings (u : State) : KeepsTruth u (enterSwinging c u) := .watchLoad (.of_eq rfl)
  unfold Machine.raisingPass
  dsimp only
  generalize (if arc = true then _ else _ : Nat) = run
  split
  · exact (swings _).after (by rfl)
  · exact .of_eq rfl

theorem KeepsTruth.swingingPass (c : Nat) (d : Direction) (arc : Bool) (s : State) : KeepsTruth s (swingingPass c d arc s) := by
  have pulsed : KeepsTruth s (if arc then s else givePulse c d s) := .ite (.refl s) (.of_eq rfl)
  exact pulsed.andThen (by rfl)

theorem KeepsTruth.loweringPass (c : Nat) (d : Direction) (arc : Bool) (s : State) : KeepsTruth s (loweringPass c d arc s) :=
  .ite (.of_eq rfl) (.enterSettling c false s)

theorem KeepsTruth.passPulse (c : Nat) (d : Direction) (s : State) : KeepsTruth s (passPulse c d s) := by
  unfold Machine.passPulse
  dsimp only
  split
  case h_1 | h_2 => exact (KeepsTruth.movedPass c _).after (by rfl)
  case h_3 => exact (KeepsTruth.raisingPass c d _ _).after (by rfl)
  case h_4 => exact (KeepsTruth.swingingPass c d _ _).after (by rfl)
  case h_5 => exact (KeepsTruth.loweringPass c d _ _).after (by rfl)
  case h_6 => exact .of_eq rfl
  case h_7 => exact (KeepsTruth.enterSettling c true _).after (by rfl)
  all_goals exact .refl s

theorem KeepsTruth.arcPulse (c : Nat) (s : State) : KeepsTruth s (arcPulse c s) := by
  unfold Machine.arcPulse
  dsimp only
  split <;> exact .of_eq rfl

theorem KeepsTruth.endDrive (c : Nat) (s : State) : KeepsTruth s (endDrive c s) := by
  unfold Machine.endDrive
  dsimp only
  split <;> exact .of_eq rfl

/-! ## The allowance and the lights (R140 to R147) -/

theorem KeepsTruth.of_onlyLights {s t : State} (h : OnlyLights s t) : KeepsTruth s t :=
  .of_eq (by rw [h.same]; rfl)

theorem KeepsTruth.admitHead (c : Nat) (s : State) : KeepsTruth s (admitHead c s) :=
  (KeepsTruth.enterClearing c s).trans (.leaveRaise c _)

theorem KeepsTruth.tryHeads (n : Nat) (s : State) : KeepsTruth s (tryHeads n s) := by
  induction n generalizing s with
  | zero => exact .refl s
  | succ n ih =>
    unfold Machine.tryHeads
    split
    · exact .refl s
    · exact .ite ((KeepsTruth.admitHead _ s).trans (ih _)) (.ite (.refl s) (.of_onlyLights (.orderYield s)))

theorem KeepsTruth.tryHead (s : State) : KeepsTruth s (tryHead s) := (KeepsTruth.tryHeads 13 s).andThen (by rfl)

theorem KeepsTruth.release (s : State) : KeepsTruth s (release s) := by
  have tried : KeepsTruth s (Machine.tryHead { s with allowance := { s.allowance with releaseDue := false } }) :=
    (KeepsTruth.tryHead _).after (by rfl)
  exact tried.trans (.of_onlyLights (.restoring _))

theorem KeepsTruth.workOff (n : Nat) (s : State) : KeepsTruth s (workOff n s) := by
  induction n generalizing s with
  | zero => exact .refl s
  | succ n ih =>
    unfold Machine.workOff
    exact .ite ((KeepsTruth.tryHead s).trans (ih _)) (.ite ((KeepsTruth.release s).trans (ih _)) (.refl s))

theorem KeepsTruth.settleLoad (s : State) : KeepsTruth s (settleLoad s) := (KeepsTruth.workOff 32 s).andThen (by rfl)

/-- An operation, and what it leaves due in the allowance. -/
theorem KeepsTruth.settled {s t : State} (h : KeepsTruth s t) : KeepsTruth s (Machine.settleLoad t) := h.trans (.settleLoad t)

theorem KeepsTruth.applyScene (scene fade : Nat) (s : State) :
    KeepsTruth s (Machine.settleLoad (Machine.applyScene scene fade s)) :=
  .settled (.of_onlyLights (.applyScene scene fade s))

theorem KeepsTruth.restoreLights (s : State) : KeepsTruth s (restoreLights s) :=
  .ite (.settled (.of_onlyLights (.scenes _ s))) (.refl s)

theorem KeepsTruth.evaluateAt (m : Nat) (s : State) : KeepsTruth s (evaluateAt m s) :=
  .foldl (fun u (e : SchedEntry) => .applyScene e.scene e.fade u) _ s

theorem KeepsTruth.setLightMode (mode : LightMode) (first last : Nat) (s : State) :
    KeepsTruth s (setLightMode mode first last s) := by
  have forced (s : State) (c : Nat) : KeepsTruth s (forceCircuit s c) := .watchLoad (.of_eq rfl)
  have freed (s : State) (c : Nat) : KeepsTruth s (unforceCircuit s c) := (KeepsTruth.of_onlyLights (.grant c _ _ _)).after (by rfl)
  unfold Machine.setLightMode
  exact .settled (((KeepsTruth.foldl forced _ _).after (by rfl)).trans (.foldl freed _ _))

/-! ## Starting and stopping the swing bells (R123, R132, R133) -/

theorem KeepsTruth.endStagger (c : Nat) (s : State) : KeepsTruth s (endStagger c s) := by
  refine .settled ?_
  unfold staggerEnded
  dsimp only
  split
  · exact .refl s
  · exact .ite (.of_eq rfl) ((KeepsTruth.joinRaise c _).after (by rfl))

theorem KeepsTruth.startSwings (entries : List (Nat × Nat)) (duration program : Nat) (s : State) :
    KeepsTruth s (startSwings entries duration program s).1 := by
  have set (u : State) (e : (Nat × Nat) × Nat) :
      KeepsTruth u (setStart (clamp 0 120 duration) program s.startRequests u e) := .of_eq rfl
  unfold Machine.startSwings
  exact ((KeepsTruth.foldl set _ _).after (by rfl)).trans (.foldl (fun u (e : (Nat × Nat) × Nat) => .endStagger e.1.1 u) _ _)

theorem KeepsTruth.timerStartProgram (k : Nat) (s : State) : KeepsTruth s (timerStartProgram k s).1 := by
  unfold Machine.timerStartProgram
  dsimp only
  split
  · exact .of_eq rfl
  · split
    · exact .refl s
    · split
      · exact .of_eq rfl
      · exact .startSwings _ _ _ s

theorem KeepsTruth.settleLowered (s : State) (c : Nat) : KeepsTruth s (settleLowered s c) :=
  .ite (.settled (.enterSettling c false s)) (.refl s)

theorem KeepsTruth.lowerSwing (c : Nat) (cause : WayDown) (s : State) : KeepsTruth s (lowerSwing c cause s) :=
  (KeepsTruth.settled (.enterLowering c cause s)).trans (.settleLowered _ c)

theorem KeepsTruth.stopSwing (cause : WayDown) (s : State) (c : Nat) : KeepsTruth s (stopSwing cause s c) := by
  unfold Machine.stopSwing
  dsimp only
  split
  case h_1 => exact .of_eq rfl
  case h_2 => exact .returnDown c cause s
  case h_3 => exact .enterRestoring c cause s
  case h_4 | h_5 => exact .enterLowering c cause s
  all_goals exact .refl s

theorem KeepsTruth.stopSwings (cause : WayDown) (channels : List Nat) (s : State) : KeepsTruth s (stopSwings cause channels s) :=
  (KeepsTruth.settled (.foldl (KeepsTruth.stopSwing cause) _ s)).trans (.foldl KeepsTruth.settleLowered _ _)

theorem KeepsTruth.refuseHead (s : State) : KeepsTruth s (refuseHead s) := by
  unfold Machine.refuseHead
  split
  · exact .refl s
  · rename_i c _
    exact .settled ((KeepsTruth.returnDown c .refused s).andThen (by rfl))

theorem KeepsTruth.hammerEvent {b : Nat} {f : State → State × Option HammerAnswer} {s : State} (h : KeepsTruth s (f s).1) :
    KeepsTruth s (hammerEvent b f s) := .settled (.answering h)

/-! ## A step record (R12, R79) -/

theorem KeepsTruth.skipEvents (waiting : List Perf) (s : State) : KeepsTruth s (skipEvents waiting s) :=
  .of_eq (Prod.ext (Builds.skipEvents waiting s).touch (skipEvents_arbiter waiting s))

/-- The ACTIVE clock and those that wait leave, what is left moves by the step, and the clock events are built afresh (R79). -/
theorem KeepsTruth.rebuilt (step : Int) (s : State) : KeepsTruth s (rebuilt step s) := by
  have ended : KeepsTruth s (endClock s) := by
    unfold endClock
    split
    · exact .endPerf _ _ s
    · exact .refl s
  have shifted : KeepsTruth s (clocksLeft step s) := by
    refine (((ended.trans (.withQueue .of_filter)).trans (.withQueue (.of_map fun p hc hw => ?_))).andThen (by rfl))
    rw [Perf.cls, Perf.shift_source] at hc
    rw [Perf.shift_state] at hw
    exact ⟨hc, hw⟩
  have omitted : KeepsTruth s (passedOmitted step s) := shifted.trans (.ite (.skipEvents _ _) (.refl _))
  exact (omitted.trans (.buildAhead _)).trans (.endHold _ _)

theorem KeepsTruth.arbiterAfterStep (step : Int) (s : State) : KeepsTruth s (arbiterAfterStep step s) := by
  rw [arbiterAfterStep_eq]
  exact .ite ((KeepsTruth.rebuilt step s).trans (.offerHammers _ _)) (.rebuilt step s)

theorem KeepsTruth.publishStep (cause : StepCause) (step : Int) (old : Nat) (before : Validity) (s : State) :
    KeepsTruth s (publishStep cause step old before s) := by
  have announces : KeepsTruth s (announced cause step old before s) :=
    .of_eq (Prod.ext (by rw [announced_same]; rfl) (announced_arbiter cause step old before s))
  rw [publishStep_eq]
  exact (KeepsTruth.settled (announces.trans (.arbiterAfterStep step _))).trans (.restoreLights _)

theorem KeepsTruth.reachEnd (s : State) : KeepsTruth s (reachEnd s) := (KeepsTruth.publishStep _ _ _ _ _).after (by rfl)

theorem KeepsTruth.stepTo (cause : StepCause) (new : Nat) (s : State) : KeepsTruth s (stepTo cause new s) :=
  .ite (.reachEnd s) ((KeepsTruth.publishStep _ _ _ _ _).after (by rfl))

theorem KeepsTruth.lockedPulse (s : State) : KeepsTruth s (lockedPulse s) := by
  have corrected (e : Int) (s : State) : KeepsTruth s (correct e s) :=
    .ite (.of_eq rfl) ((KeepsTruth.stepTo _ _ _).after (by rfl))
  exact .ite ((corrected _ _).after (by rfl)) (.of_eq rfl)

theorem KeepsTruth.referencePulse (s : State) : KeepsTruth s (Machine.referencePulse s) := by
  unfold Machine.referencePulse
  split
  · exact .refl s
  · exact (KeepsTruth.lockedPulse _).after (by rfl)
  · exact .lockedPulse s

theorem KeepsTruth.renewIfDue (s : State) : KeepsTruth s (renewIfDue s) := .ite (.of_eq rfl) (.refl s)

theorem KeepsTruth.adjustSecond (s : State) : KeepsTruth s (adjustSecond s) := by
  unfold Machine.adjustSecond
  exact .ite (.of_eq rfl) (.ite ((KeepsTruth.reachEnd _).after (by rfl)) ((KeepsTruth.renewIfDue _).after (by rfl)))

theorem KeepsTruth.countMs (s : State) : KeepsTruth s (countMs s) := by
  unfold Machine.countMs whenOperating
  exact .ite (.of_eq rfl) (.ite ((KeepsTruth.renewIfDue _).after (by rfl)) (.of_eq rfl))

/-! ## Timers (R19) -/

theorem KeepsTruth.expireTimer (n : Nat) (s : State) : KeepsTruth s (expireTimer n s) := by
  have performed (a : TimerAction) (s : State) : KeepsTruth s (performAction a s).1 := by
    cases a with
    | none => exact .refl s
    | startProgram k => exact .timerStartProgram k s
    | stopSwing => exact .stopSwings .stop _ s
    | applyScene n fade => exact .applyScene n fade s
  have expired := (performed (s.timer n).action (s.withTimer n { s.timer n with ends := none })).after (s := s) (by rfl)
  exact expired.andThen (by rfl)

/-! ## MAINTENANCE and the start of operation (R80, R180, R182, R183) -/

theorem KeepsTruth.arbiterMaintenance (s : State) : KeepsTruth s (arbiterMaintenance s) := by
  have cleared (s : State) (p : Perf) : KeepsTruth s (clearForMode s p) := .ite (.omitPerf p _ _ s) (.endPerf p _ s)
  unfold Machine.arbiterMaintenance
  refine KeepsTruth.trans ?_ ((KeepsTruth.foldl cleared _ _).after (by rfl))
  split
  · exact (KeepsTruth.endPerf _ _ _).andThen (by rfl)
  · exact .of_eq rfl

theorem KeepsTruth.enterMaintenance (s : State) : KeepsTruth s (enterMaintenance s) := by
  have begun : KeepsTruth s (Machine.arbiterMaintenance { s with maintenance := true }) :=
    (KeepsTruth.arbiterMaintenance _).after (by rfl)
  have inhibits (u : State) : KeepsTruth u { u with hammers := u.hammers.map Hammer.inhibit } := .of_eq rfl
  exact (begun.trans (inhibits _)).trans (.stopSwings .maintenance _ _)

/-- A context in which no row has been changed, with no touch in the queue that waits (R109, R182). -/
theorem volatileStart_truthOk (s : State) : truthOk (volatileStart s) :=
  (truthOk_iff _).mpr ⟨fun _ _ => ⟨rfl, rfl⟩, fun _ => rfl⟩

theorem restart_truthOk (cause : RestartCause) (s : State) : truthOk (restart cause s) := by
  have lapsed (s : State) (n : Nat) : KeepsTruth s (lapseTimer s n) := .ite (.of_eq rfl) (.refl s)
  have dials (s : State) (c : Nat) : KeepsTruth s (settleDial c s) := .of_eq rfl
  unfold restart
  dsimp only
  have started := volatileStart_truthOk (if (cause == .powerUp && !s.power.markerGood) = true then retainedLost s else s)
  refine KeepsTruth.keeps ?_ started
  have settled (s : State) : KeepsTruth s ((numbers 1 4).foldl (fun s c => settleDial c s) s) := .foldl dials _ s
  exact (((((KeepsTruth.foldl lapsed (numbers 1 2) _).after (by rfl)).trans (settled _)).trans
    (.skipEvents [] _)).trans (.buildAhead _)).trans (.restoreLights _)

theorem KeepsTruth.restartIfFree (cause : RestartCause) (s : State) : KeepsTruth s (restartIfFree cause s) :=
  .ite ⟨fun _ => restart_truthOk _ s⟩ (.refl s)

end Sys2Proof.Machine

/-! SUPPORT. Every request and every event keeps the count of the truth map; the settled O43. -/

namespace Sys2Proof.Machine

open Sys2Proof

/-! ## Requests -/

/-- The answer's state keeps the count, whatever state the request is taken in. -/
structure AnswerKeepsTruth (body : State → Answer) : Prop where
  keeps : ∀ s, KeepsTruth s (body s).state

theorem KeepsTruth.closeStream (s : State) (l : Link) : KeepsTruth s (closeStream l s) :=
  .of_eq (Prod.ext (closeStream_touch s l) (closeStream_arbiter s l))

theorem KeepsTruth.countError (l : Link) (k : Counter) (s : State) : KeepsTruth s (countError l k s) :=
  .of_eq (Prod.ext (countError_touch s l k) (countError_arbiter s l k))

theorem KeepsTruth.withLink (s : State) (l : Link) (x : LinkState) : KeepsTruth s (s.withLink l x) :=
  .of_eq (Prod.ext (withLink_touch s l x) (withLink_arbiter s l x))

theorem KeepsTruth.withReceiver (s : State) (l : Link) (r : Receiver) : KeepsTruth s (s.withReceiver l r) :=
  .of_eq (Prod.ext (withReceiver_touch s l r) (withReceiver_arbiter s l r))

theorem KeepsTruth.takeRequest {body : State → Answer} (h : AnswerKeepsTruth body) (hd : Header) (kind : Nat) (s : State) :
    KeepsTruth s (takeRequest hd kind body s) := by
  unfold Machine.takeRequest
  refine .ite (.refl s) (.ite (.countError _ _ s) ?_)
  exact (KeepsTruth.trans (.ite (.refl s) (.closeStream s _)) (h.keeps _)).trans (.withLink _ _ _)

theorem AnswerKeepsTruth.of_eq {body : State → Answer}
    (h : ∀ s, (body s).state.ringing = s.ringing) : AnswerKeepsTruth body :=
  ⟨fun s => .of_eq (h s)⟩

/-- A refusal changes no state. -/
theorem KeepsTruth.refuse (s : State) (st : Status) : KeepsTruth s (refuse s st).state := .refl s

/-- The performance that joined the queue waits, and what is due now is tested (R63). -/
theorem KeepsTruth.queueTested {p : Perf} (hw : p.state = .waiting) (s : State) :
    KeepsTruth (Machine.joinQueue p s) (queuePerf p s) := by
  unfold queuePerf
  exact .ite (.startTest ((mem_enqueue p p _).mpr (.inl rfl)) hw) (.refl _)

theorem KeepsTruth.queuePerf {p : Perf} (hp : p.cls ≠ .touch) (hw : p.state = .waiting) (s : State) :
    KeepsTruth s (queuePerf p s) := (KeepsTruth.joinQueue hp s).trans (.queueTested hw s)

theorem playTuneAnswer_truth (h : Header) (n : Nat) (shift : Option Int) (start : Option Nat) (wait : Nat) :
    AnswerKeepsTruth (playTuneAnswer h n shift start wait) := by
  refine ⟨fun s => ?_⟩
  unfold playTuneAnswer
  dsimp only
  split
  · exact .refuse s _
  · exact .queuePerf PerfClass.noConfusion rfl s

theorem tollAnswer_truth (h : Header) (bell strength interval count silenceClock : Nat) (start : Option Nat) (wait : Nat) :
    AnswerKeepsTruth (tollAnswer h bell strength interval count silenceClock start wait) := by
  refine ⟨fun s => ?_⟩
  unfold tollAnswer
  dsimp only
  split
  · exact .refuse s _
  · exact .queuePerf PerfClass.noConfusion rfl s

/-- A touch joins the queue with a context in OPENING in which no row has been changed (R108, R109). -/
theorem touchStartAnswer_truth (h : Header) (method strength beat opening closing maximum : Nat) (calls : List (Nat × Nat)) :
    AnswerKeepsTruth (touchStartAnswer h method strength beat opening closing maximum calls) := by
  refine ⟨fun s => ?_⟩
  unfold touchStartAnswer
  dsimp only
  split
  · exact .refuse s _
  · simp only [accept]
    refine KeepsTruth.trans ⟨fun _ => ?_⟩ (.queueTested (p := newPerf s .touch none 600000) rfl _)
    exact (truthOk_iff _).mpr ⟨fun _ _ => ⟨rfl, rfl⟩, fun _ => rfl⟩

theorem hushAnswer_truth (clockFlag : Nat) : AnswerKeepsTruth (hushAnswer clockFlag) := by
  refine ⟨fun s => ?_⟩
  unfold hushAnswer
  split
  · exact .refuse s _
  · have stopped (s : State) (id : Nat) : KeepsTruth s (updatePerf id (fun p => { p with stopped := some .hushed }) s) :=
      .updatePerf id s fun _ => rfl
    exact ((KeepsTruth.foldl stopped _ s).trans (.foldl (fun s p => .endPerf p .hushed s) _ _)).trans
      (.foldl .checkEnd _ _)

theorem clockStrikeConfigAnswer_truth (bell strength interval gap : Nat) :
    AnswerKeepsTruth (clockStrikeConfigAnswer bell strength interval gap) := by
  refine ⟨fun s => ?_⟩
  unfold clockStrikeConfigAnswer
  split
  · exact .refuse s _
  · exact ⟨fun ht => ht⟩

theorem silenceWriteAnswer_truth (entry enable start stop classes silenced : Nat) :
    AnswerKeepsTruth (silenceWriteAnswer entry enable start stop classes silenced) := by
  refine ⟨fun s => ?_⟩
  unfold silenceWriteAnswer
  split
  · split
    · exact .refuse s _
    · exact ⟨fun ht => ht⟩
  · exact .refuse s _

theorem modeMaintenanceAnswer_truth : AnswerKeepsTruth modeMaintenanceAnswer :=
  ⟨fun s => .ite (.refl s) (.enterMaintenance s)⟩

theorem modeRunAnswer_truth : AnswerKeepsTruth modeRunAnswer := ⟨fun s => .ite (.of_eq rfl) (.refl s)⟩

theorem timeSetAnswer_truth (year month day ms : Nat) : AnswerKeepsTruth (timeSetAnswer year month day ms) := by
  refine ⟨fun s => ?_⟩
  unfold timeSetAnswer
  dsimp only
  split
  · exact .refuse s _
  · split
    · exact .refl s
    · exact (KeepsTruth.publishStep _ _ _ _ (setTime _ s)).after (by rfl)

theorem zoneSetAnswer_truth (minutes : Int) : AnswerKeepsTruth (zoneSetAnswer minutes) := by
  refine ⟨fun s => ?_⟩
  unfold zoneSetAnswer
  split
  · exact .refuse s _
  · dsimp only
    split
    · exact .refl s
    · split
      · exact .refuse s _
      · exact (KeepsTruth.publishStep _ _ _ _ _).after (by rfl)

theorem faultClearHammerAnswer_truth (b : Nat) : AnswerKeepsTruth (faultClearHammerAnswer b) := by
  refine ⟨fun s => ?_⟩
  unfold faultClearHammerAnswer
  split
  · exact .refuse s _
  · dsimp only
    split
    · split
      · exact .refuse s _
      · exact (KeepsTruth.beginEngage b _).after (by rfl)
    all_goals exact .of_eq rfl

theorem faultClearSwingAnswer_truth (c : Nat) : AnswerKeepsTruth (faultClearSwingAnswer c) := by
  refine ⟨fun s => ?_⟩
  unfold faultClearSwingAnswer
  split
  · exact .refuse s _
  · dsimp only
    split
    · exact .settled ((KeepsTruth.enterSettling c true _).after (by rfl))
    · exact .refl s

theorem hammerConfigAnswer_truth (b lead recovery width fitted : Nat) :
    AnswerKeepsTruth (hammerConfigAnswer b lead recovery width fitted) := by
  refine ⟨fun s => ?_⟩
  unfold hammerConfigAnswer
  split
  · exact .refuse s _
  · dsimp only
    split
    · exact .refuse s _
    · split
      · exact .refuse s _
      · exact (KeepsTruth.endRecovery b s).andThen (by rfl)

theorem testStrokeAnswer_truth (b strength : Nat) : AnswerKeepsTruth (testStrokeAnswer b strength) := by
  refine ⟨fun s => ?_⟩
  unfold testStrokeAnswer
  split
  · exact .refuse s _
  · split
    · exact .refuse s _
    · dsimp only
      split
      · exact (KeepsTruth.endRecovery b s).andThen (by rfl)
      · exact .refuse s _

theorem swingStartAnswer_truth (h : Header) (entries : List (Nat × Nat)) (duration : Nat) :
    AnswerKeepsTruth (swingStartAnswer h entries duration) := by
  refine ⟨fun s => ?_⟩
  unfold swingStartAnswer
  dsimp only
  repeat' split
  · exact .refuse s _
  · exact .refuse s _
  · exact .refuse s _
  · exact .refuse s _
  · exact .startSwings _ _ _ s

theorem swingStopAnswer_truth (channels : Option (List Nat)) : AnswerKeepsTruth (swingStopAnswer channels) := by
  refine ⟨fun s => ?_⟩
  unfold swingStopAnswer
  dsimp only
  split
  · exact .refuse s _
  · exact .stopSwings .stop _ s

theorem programStartAnswer_truth (h : Header) (k : Nat) : AnswerKeepsTruth (programStartAnswer h k) := by
  refine ⟨fun s => ?_⟩
  unfold programStartAnswer
  dsimp only
  repeat' split
  · exact .refuse s _
  · exact .refuse s _
  · exact .refuse s _
  · exact .refuse s _
  · exact .refuse s _
  · exact .startSwings _ _ _ s

theorem allowanceSetAnswer_truth (units : Nat) : AnswerKeepsTruth (allowanceSetAnswer units) := by
  refine ⟨fun s => ?_⟩
  unfold allowanceSetAnswer
  dsimp only
  split
  · exact .refl s
  · exact .settled (.ite (.of_eq rfl) (.of_eq rfl))

theorem circuitConfigAnswer_truth (c maxDraw yieldFlag floor : Nat) :
    AnswerKeepsTruth (circuitConfigAnswer c maxDraw yieldFlag floor) := by
  refine ⟨fun s => ?_⟩
  unfold circuitConfigAnswer
  split
  · exact .refuse s _
  · dsimp only
    split
    · exact .refuse s _
    · split
      · exact .refl s
      · exact .settled (.watchLoad (.of_eq rfl))

theorem sceneApplyAnswer_truth (scene fade : Nat) : AnswerKeepsTruth (sceneApplyAnswer scene fade) := by
  refine ⟨fun s => ?_⟩
  unfold sceneApplyAnswer
  split
  · exact .refuse s _
  · exact .applyScene _ _ s

theorem lightModeAnswer_truth (mode first last : Nat) : AnswerKeepsTruth (lightModeAnswer mode first last) := by
  refine ⟨fun s => ?_⟩
  unfold lightModeAnswer
  split
  · exact .refuse s _
  · dsimp only
    split
    · exact .refuse s _
    · split
      · exact .refl s
      · exact .setLightMode _ _ _ s

/-! ## Dispatch (R168, R169) -/

/-- A request keeps the count: those that queue, start, stop or end something by the lemmas above, and the rest touch neither
the touch nor the arbiter. -/
theorem KeepsTruth.runRequest (i : Instr) (s : State) : KeepsTruth s (runRequest i s) := by
  cases i
  case playTune => exact .takeRequest (playTuneAnswer_truth _ _ _ _ _) _ _ s
  case toll => exact .takeRequest (tollAnswer_truth _ _ _ _ _ _ _ _) _ _ s
  case touchStart => exact .takeRequest (touchStartAnswer_truth _ _ _ _ _ _ _ _) _ _ s
  case hush => exact .takeRequest (hushAnswer_truth _) _ _ s
  case clockstrikeConfig => exact .takeRequest (clockStrikeConfigAnswer_truth _ _ _ _) _ _ s
  case silenceWrite => exact .takeRequest (silenceWriteAnswer_truth _ _ _ _ _ _) _ _ s
  case modeSetMaintenance => exact .takeRequest modeMaintenanceAnswer_truth _ _ s
  case modeSetRun => exact .takeRequest modeRunAnswer_truth _ _ s
  case timeSet => exact .takeRequest (timeSetAnswer_truth _ _ _ _) _ _ s
  case zoneSet => exact .takeRequest (zoneSetAnswer_truth _) _ _ s
  case faultClearHammer => exact .takeRequest (faultClearHammerAnswer_truth _) _ _ s
  case faultClearSwing => exact .takeRequest (faultClearSwingAnswer_truth _) _ _ s
  case hammerConfig => exact .takeRequest (hammerConfigAnswer_truth _ _ _ _ _) _ _ s
  case testStroke => exact .takeRequest (testStrokeAnswer_truth _ _) _ _ s
  case swingStart => exact .takeRequest (swingStartAnswer_truth _ _ _) _ _ s
  case swingStop => exact .takeRequest (swingStopAnswer_truth _) _ _ s
  case swingProgramStart => exact .takeRequest (programStartAnswer_truth _ _) _ _ s
  case allowanceSet => exact .takeRequest (allowanceSetAnswer_truth _) _ _ s
  case circuitConfig => exact .takeRequest (circuitConfigAnswer_truth _ _ _ _) _ _ s
  case sceneApply => exact .takeRequest (sceneApplyAnswer_truth _ _) _ _ s
  case lightMode => exact .takeRequest (lightModeAnswer_truth _ _ _) _ _ s
  case unknownKind =>
    exact .ite (.refl s) (.takeRequest ⟨fun s => .refuse s _⟩ _ _ s)
  case identify | timeRead | queueRead | timerRead | clockstrikeRead | silenceRead | touchRead | allowanceRead | lightRead
      | reset | strikeQueueRead =>
    exact .takeRequest (.of_eq fun s => rfl) _ _ s
  case linkStats | noticeMask | noticeClear | scoreWindow | scoreWrite =>
    refine .takeRequest (.of_eq fun s => ?_) _ _ s
    simp only [linkStatsAnswer, noticeMaskAnswer, noticeClearAnswer, scoreWindowAnswer, scoreWriteAnswer]
    repeat' split
    all_goals simp only [accept, Machine.refuse, State.ringing, withLink_arbiter, withWindow_arbiter, closeStream_arbiter,
      withLink_touch, withWindow_touch, closeStream_touch]
  case noticeRead | faultClearDial | referenceSet | classWrite | weekdayWrite | calendarWrite | calendarDelete | calendarRead
      | timerStart | timerStop | dialConfig | dialHold | dialSetPosition | dialRelease | dialRead | scoreRead | scoreProtect
      | tuneWrite | tuneClear | tuneRead | chimeWrite | chimeRead | hammerRead | methodWrite | methodClear | methodRead
      | swingConfig | swingProgramWrite | swingProgramRead | swingRead | sceneWrite | sceneRead | duskWrite | duskRead
      | scheduleWrite | scheduleRead =>
    refine .takeRequest (.of_eq fun s => ?_) _ _ s
    simp only [noticeReadAnswer, faultClearDialAnswer, referenceSetAnswer, classWriteAnswer, weekdayWriteAnswer,
      calendarWriteAnswer, calendarDeleteAnswer, calendarReadAnswer, timerStartAnswer, timerStopAnswer, dialConfigAnswer,
      dialHoldAnswer, dialSetPositionAnswer, dialReleaseAnswer, dialReadAnswer, scoreReadAnswer, scoreProtectAnswer,
      tuneWriteAnswer, tuneClearAnswer, tuneReadAnswer, chimeWriteAnswer, chimeReadAnswer, hammerReadAnswer,
      methodWriteAnswer, methodClearAnswer, methodReadAnswer, swingConfigAnswer, programWriteAnswer, programReadAnswer,
      swingReadAnswer, sceneWriteAnswer, sceneReadAnswer, duskWriteAnswer, duskReadAnswer, scheduleWriteAnswer,
      scheduleReadAnswer]
    repeat' split
    all_goals rfl
  all_goals exact .refl s

/-! ## Received bytes (R167) -/

theorem KeepsTruth.takeFrame (l : Link) (kind tag : Nat) (payload : List Byte) (s : State) :
    KeepsTruth s (takeFrame l kind tag payload s) := by
  have answered (kind : Nat) {answer : State → Answer} (h : ∀ s, (answer s).state = s) (s : State) :
      KeepsTruth s (answerFrame { link := l, tag := tag } kind answer s) := by
    refine .takeRequest ⟨fun s => ?_⟩ _ kind s
    rw [h]
    exact .closeStream s _
  have badValue (s : State) : (badValueAnswer kind s).state = s := (badValueAnswer_cases kind s).1
  cases hd : decodeRequest { link := l, tag := tag } kind payload with
  | unknown =>
    rw [takeFrame_of_unknown hd]
    exact answered kind (fun s => rfl) s
  | badLength =>
    rw [takeFrame_of_badLength hd]
    exact answered kind (fun s => rfl) s
  | badValue =>
    rw [takeFrame_of_badValue hd]
    exact answered kind badValue s
  | request i =>
    rw [takeFrame_of_request hd]
    exact .runRequest i s

theorem KeepsTruth.takeBytes (l : Link) (fuel : Nat) (bytes : List Byte) (s : State) :
    KeepsTruth s (takeBytes l fuel bytes s) := by
  induction fuel generalizing bytes s with
  | zero => exact .refl s
  | succ fuel ih =>
    cases bytes with
    | nil => exact .refl s
    | cons b rest =>
      have hunting : KeepsTruth s (toHunt l s) := .withReceiver s l _
      unfold Machine.takeBytes
      split
      · exact (KeepsTruth.withReceiver s l _).trans (ih _ _)
      · exact (hunting.trans (.takeFrame l _ _ _ _)).trans (ih _ _)
      · exact (hunting.trans (.countError l _ _)).trans (ih _ _)

theorem KeepsTruth.receiveByte (l : Link) (b : Byte) (s : State) : KeepsTruth s (receiveByte l b s) :=
  (KeepsTruth.withReceiver s l _).trans (.takeBytes l _ _ _)

/-! ## Events -/

theorem KeepsTruth.whenOperating {f : State → State} {s : State} (h : KeepsTruth s (f s)) :
    KeepsTruth s (whenOperating f s) := .ite h (.refl s)

/-- An event that acts when it is due. -/
theorem KeepsTruth.whenDue {due : State → Bool} {f : State → State} {s : State} (h : KeepsTruth s (f s)) :
    KeepsTruth s (Machine.whenOperating (fun s => if due s then f s else s) s) :=
  .whenOperating (.ite h (.refl s))

theorem KeepsTruth.dialFollow (c : Nat) (s : State) : KeepsTruth s (dialFollow c s) := by
  unfold Machine.dialFollow
  dsimp only
  split <;> exact .of_eq rfl

theorem KeepsTruth.dialImpulseComplete (c : Nat) (datum : Bool) (s : State) : KeepsTruth s (dialImpulseComplete c datum s) := by
  have checked (u : State) : KeepsTruth u (datumCheck c datum u) := by
    unfold datumCheck
    dsimp only
    repeat' split
    all_goals exact .of_eq rfl
  have settled (u : State) : KeepsTruth u (settleDial c (datumCheck c datum u)) := (checked u).andThen (by rfl)
  exact (settled _).after (by rfl)

theorem KeepsTruth.stepFade (c : Nat) (s : State) : KeepsTruth s (stepFade c s) := by
  unfold Machine.stepFade
  split
  · exact .settled (.watchLoad (.of_eq rfl))
  · exact .refl s

theorem KeepsTruth.clockEventBuild (s : State) :
    KeepsTruth s (match nextBuild s with | some e => Machine.buildEvent e s | none => s) := by
  split
  · exact .buildEvent _ s
  · exact .refl s

theorem KeepsTruth.dueStart (id : Nat) (s : State) :
    KeepsTruth s (match findPerf s id with | some p => if p.startDue s.now then Machine.startTest p s else s | none => s) := by
  split
  · rename_i p hp
    split
    · rename_i due
      simp only [Perf.startDue, Bool.and_eq_true, beq_iff_eq] at due
      exact .startTest (findPerf_mem hp).1 due.1.1
    · exact .refl s
  · exact .refl s

theorem KeepsTruth.deadline (id : Nat) (s : State) : KeepsTruth s
    (match findPerf s id with | some p => if p.deadlineDue s.now then Machine.omitPerf p .late .whole s else s | none => s) := by
  split
  · exact .ite (.omitPerf _ _ _ s) (.refl s)
  · exact .refl s

/-- The touch that emits its row is ACTIVE, so that no touch waits. -/
theorem KeepsTruth.rowEmission {s : State} (hq : queueOk s) : KeepsTruth s
    (match activePerf s with | some p => if emissible s p then Machine.emitRow p s else s | none => s) := by
  split
  · rename_i p ha
    obtain ⟨hp, active⟩ := activePerf_spec ha
    exact .ite (.emitRow fun hc => not_touchWaits hq hp hc active) (.refl s)
  · exact .refl s

theorem KeepsTruth.replySent (l : Link) (s : State) : KeepsTruth s
    (match (s.link l).reply with
      | none => s
      | some r =>
        if r.restarts then restart .resetRequest (s.withLink l { s.link l with reply := none })
        else s.withLink l { s.link l with reply := none }) := by
  split
  · exact .refl s
  · exact .ite ⟨fun _ => restart_truthOk _ _⟩ (.withLink s l _)

theorem KeepsTruth.rangeEnd (s : State) : KeepsTruth s
    (if rangeEndDue s then
      if s.power.operating then Machine.reachEnd { s with elapsed := s.elapsed + 1 } else stopAtEnd { s with elapsed := s.elapsed + 1 }
    else s) :=
  .ite (.ite ((KeepsTruth.reachEnd _).after (by rfl)) (.of_eq rfl)) (.refl s)

/-- Every command keeps the count, in a state whose queue is as R60 and R61 have it. -/
theorem KeepsTruth.exec {i : Instr} {s t : State} (hq : queueOk s) (h : exec i s = .next t) : KeepsTruth s t := by
  cases hd : headerOf i with
  | some hdr =>
    rw [exec_of_header hd] at h
    cases h
    exact .runRequest i s
  | none =>
    cases i
    case receiveByte l b => cases h; exact .whenOperating (.receiveByte l b s)
    case receiveTimeout l => cases h; exact .whenDue ((KeepsTruth.withReceiver s l _).trans (.countError l _ _))
    case replySent l => cases h; exact .whenOperating (.replySent l s)
    case chamberKeyChange => cases h; exact .of_eq rfl
    case slewSecondAdjust => cases h; exact .whenDue (.adjustSecond s)
    case rangeEnd => cases h; exact .rangeEnd s
    case dayClassRenewal => cases h; exact .whenOperating (.renewIfDue s)
    case referencePulse => cases h; exact .whenOperating (.referencePulse s)
    case referenceGap => cases h; exact .whenDue (.of_eq rfl)
    case timerExpired n => cases h; exact .whenDue (.expireTimer n s)
    case dialTargetChange c => cases h; exact .whenDue (.dialFollow c s)
    case dialImpulseStart => cases h; exact .whenDue (.of_eq rfl)
    case dialImpulseEnd c datum => cases h; exact .whenDue (.dialImpulseComplete c datum s)
    case dialDriverFault => cases h; exact .whenDue (.of_eq rfl)
    case clockEventBuild => cases h; exact .whenOperating (.clockEventBuild s)
    case dueStart id => cases h; exact .whenOperating (.dueStart id s)
    case performanceDeadline id => cases h; exact .whenOperating (.deadline id s)
    case rowEmission => cases h; exact .whenOperating (.rowEmission hq)
    case strikeEntryTaken => cases h; exact .whenDue (.takeEntry s)
    case hammerPulseEnd b faultInput => cases h; exact .whenDue (.hammerEvent (.hammerPulseEnded b faultInput s))
    case hammerRecoveryEnd b => cases h; exact .whenOperating (.endRecovery b s)
    case hammerConfirmAsserted b => cases h; exact .ite (.hammerEvent (.confirmAsserted b s)) (.of_eq rfl)
    case hammerConfirmCleared b => cases h; exact .ite (.hammerEvent (.confirmCleared b s)) (.of_eq rfl)
    case withdrawConfirmTimeout b => cases h; exact .whenDue (.hammerEvent (.of_eq rfl))
    case engageClearTimeout b => cases h; exact .whenDue (.hammerEvent (.of_eq rfl))
    case staggerEnd c => cases h; exact .whenDue (.endStagger c s)
    case raiseRefused => cases h; exact .whenDue (.refuseHead s)
    case passPulse c d => cases h; exact .whenDue (.settled (.passPulse c d s))
    case arcPulse c => cases h; exact .whenDue (.arcPulse c s)
    case drivePulseEnd c => cases h; exact .whenDue (.endDrive c s)
    case raiseNoPass => cases h; exact .whenDue (.of_eq rfl)
    case raiseLimitEnd c => cases h; exact .whenDue (.lowerSwing c .raiseTimeout s)
    case swingPassWatchEnd c => cases h; exact .whenDue (.settled (.enterFault c _ s))
    case durationEnd c => cases h; exact .whenDue (.lowerSwing c .duration s)
    case loweringPassWatchEnd c => cases h; exact .whenOperating (.settleLowered s c)
    case settleWatchEnd c => cases h; exact .whenDue (.settled (.enterRestoring c _ s))
    case fadeStep c => cases h; exact .whenDue (.stepFade c s)
    case scheduleEvaluation => cases h; exact .whenDue ((KeepsTruth.evaluateAt _ _).after (by rfl))
    case putaway => cases h; exact .ite (.of_eq rfl) (.refl s)
    case supplyRecovered => cases h; exact .ite ((KeepsTruth.restartIfFree _ _).after (by rfl)) (.refl s)
    case supplyLost => cases h; exact .ite (.of_eq rfl) (.refl s)
    case powerUp => cases h; exact .ite (.refl s) ((KeepsTruth.restartIfFree _ _).after (by rfl))
    case resetLineAssert => cases h; exact .of_eq (by split <;> rfl)
    case resetLineRelease => cases h; exact .ite ((KeepsTruth.restartIfFree _ _).after (by rfl)) (.refl s)
    all_goals cases hd

/-- Settles O43: every operation of the model keeps the count. It rests on `Touch.take_counted` where a row is taken, and on
`not_touchWaits` and `KeepsTruth.startPlain` where a touch leaves OPENING or begins it; no other operation is on what the
count is made of. -/
theorem truthMapCounts : Obligations.TruthMapCounts := by
  intro s t hq ht hstep
  unfold step at hstep
  split at hstep
  · rename_i c rest _
    exact (KeepsTruth.exec (queueOk_congr (t := { s with pending := rest }) rfl hq) hstep).keeps
      ((KeepsTruth.of_eq (t := { s with pending := rest }) rfl).keeps ht)
  · split at hstep
    · exact (KeepsTruth.exec hq hstep).keeps ht
    · cases hstep
      exact (KeepsTruth.countMs s).keeps ht

end Sys2Proof.Machine

/-! SUPPORT. Method records, swing configurations and programs: the tests of the requests that store them, and what those that
read them give; the settled O44. -/

namespace Sys2Proof.Machine

open Sys2Proof

@[simp] theorem closed_programs (h : Header) (s : State) : (closed h s).programs = s.programs := closeStream_programs _ _

theorem distinct_iff (xs : List Nat) : distinct xs = true ↔ xs.Nodup := by
  induction xs with
  | nil => simp [distinct]
  | cons x xs ih => simp [distinct, ih]

/-! ## Method records (R104, R105) -/

/-- An optional change is valid for a stage. -/
def changeFits (n : Nat) (c : Option (BitVec 16)) : Prop := ∀ x, c = some x → changeValid n x = true

theorem any_invalid_iff (n : Nat) (c : Option (BitVec 16)) : c.any (fun x => !changeValid n x) = true ↔ ¬changeFits n c := by
  cases c <;> simp [changeFits]

section FirstInvalid
variable {n : Nat} {lead : List (BitVec 16)} {bob single : Option (BitVec 16)}

theorem firstInvalid_of_lead {j : Nat} (hj : j < lead.length) (bad : changeValid n (lead.getD j 0) = false)
    (good : ∀ m, m < j → changeValid n (lead.getD m 0) = true) : firstInvalid n lead bob single = some (j + 1) := by
  have found : (List.range lead.length).find? (fun i => !changeValid n (lead.getD i 0)) = some j := by
    rw [List.find?_range_eq_some]
    exact ⟨by rw [bad]; rfl, List.mem_range.mpr hj, fun m hm => by rw [good m hm]; rfl⟩
  have numbered : (numbers 1 lead.length).find? (fun i => !changeValid n (lead.getD (i - 1) 0)) = some (j + 1) := by
    rw [numbers, List.find?_map]
    exact congrArg (Option.map (· + 1)) found
  rw [firstInvalid, numbered]

section Calls
variable (valid : ∀ c ∈ lead, changeValid n c = true)
include valid

theorem firstInvalid_of_valid : firstInvalid n lead bob single
    = if bob.any (fun c => !changeValid n c) then some 0xFE
      else if single.any (fun c => !changeValid n c) then some 0xFF else none := by
  have allValid : (numbers 1 lead.length).find? (fun i => !changeValid n (lead.getD (i - 1) 0)) = none := by
    refine List.find?_eq_none.mpr fun i hi => ?_
    obtain ⟨lo, hi⟩ := (mem_numbers _ _ _).mp hi
    have inside : i - 1 < lead.length := by omega
    rw [List.getD_eq_getElem _ _ inside, valid _ (List.getElem_mem inside)]
    exact Bool.false_ne_true
  rw [firstInvalid, allValid]

theorem firstInvalid_of_bob (bad : ¬changeFits n bob) : firstInvalid n lead bob single = some 0xFE := by
  rw [firstInvalid_of_valid valid, if_pos ((any_invalid_iff n bob).mpr bad)]

theorem firstInvalid_of_single (fits : changeFits n bob) (bad : ¬changeFits n single) :
    firstInvalid n lead bob single = some 0xFF := by
  rw [firstInvalid_of_valid valid, if_neg (mt (any_invalid_iff n bob).mp (not_not_intro fits)),
    if_pos ((any_invalid_iff n single).mpr bad)]

theorem firstInvalid_eq_none (fits : changeFits n bob) (fits' : changeFits n single) :
    firstInvalid n lead bob single = none := by
  rw [firstInvalid_of_valid valid, if_neg (mt (any_invalid_iff n bob).mp (not_not_intro fits)),
    if_neg (mt (any_invalid_iff n single).mp (not_not_intro fits'))]

end Calls

end FirstInvalid

theorem bellsFit_of {n : Nat} {bells : List Nat} {cover : Nat} (hl : bells.length = n) (nodup : bells.Nodup)
    (range : ∀ b ∈ bells, 1 ≤ b ∧ b ≤ 24) (hc : cover ≤ 24) (out : cover ∉ bells) : bellsFit n bells cover = true := by
  have bell : bells.all (within 1 24) = true := List.all_eq_true.mpr fun b hb => (within_iff 1 24 b).mpr (range b hb)
  have covers : (cover == 0 || within 1 24 cover && !bells.contains cover) = true := by
    by_cases h0 : cover = 0
    · simp [h0]
    · simp [within_iff, out, hc, Nat.one_le_iff_ne_zero.mpr h0]
  simp only [bellsFit, hl, decide_true, bell, (distinct_iff bells).mpr nodup, covers, Bool.and_self]

/-- The record that METHOD-WRITE stores (R104). -/
def writtenMethod (n : Nat) (bells : List Nat) (cover : Nat) (lead : List (BitVec 16)) (bob single : Option (BitVec 16)) :
    Method where
  valid := true
  stage := n
  bells := bells
  cover := if cover = 0 then none else some cover
  lead := lead
  bob := bob
  single := single

section MethodWrite
variable {k n cover : Nat} {bells : List Nat} {lead : List (BitVec 16)} {bob single : Option (BitVec 16)}

/-- Every field of the record fits but, it may be, a change of it. -/
structure MethodFits (k n : Nat) (bells : List Nat) (cover : Nat) (lead : List (BitVec 16)) : Prop where
  number : within 0 7 k = true
  stage : within 4 12 n = true
  bells : bellsFit n bells cover = true
  length : within 2 32 lead.length = true

theorem methodWriteAnswer_stored (fits : MethodFits k n bells cover lead) (hf : firstInvalid n lead bob single = none) (s : State) :
    methodWriteAnswer k n bells cover lead.length lead bob single s
      = accept { s with methods := setSlot s.methods k (writtenMethod n bells cover lead bob single) } .none := by
  obtain ⟨number, stage, bells, length⟩ := fits
  rw [methodWriteAnswer, number, stage, bells, length, decide_eq_true rfl, hf]
  rfl

theorem methodWriteAnswer_refused {i : Nat} (fits : MethodFits k n bells cover lead)
    (hf : firstInvalid n lead bob single = some i) (s : State) :
    methodWriteAnswer k n bells cover lead.length lead bob single s
      = { state := s, status := .badValue, body := .changeIndex i } := by
  obtain ⟨number, stage, bells, length⟩ := fits
  rw [methodWriteAnswer, number, stage, bells, length, decide_eq_true rfl, hf]
  rfl

variable {h : Header} {s : State} (ht : Taken h s) (fits : MethodFits k n bells cover lead)
include ht fits

theorem answers_methodWrite_stored (hf : firstInvalid n lead bob single = none) :
    answers (.methodWrite h k n bells cover lead.length lead bob single) h 0x58 s .ok .none
      { closed h s with methods := setSlot s.methods k (writtenMethod n bells cover lead bob single) } := by
  refine answers_of_accept ht (by decide) rfl ?_
  rw [methodWriteAnswer_stored fits hf, closed_methods]

theorem answers_methodWrite_refused {i : Nat} (hf : firstInvalid n lead bob single = some i) :
    answers (.methodWrite h k n bells cover lead.length lead bob single) h 0x58 s .badValue (.changeIndex i) (closed h s) :=
  answers_of_taken { state := closed h s, status := .badValue, body := .changeIndex i } ht (by decide) rfl
    (methodWriteAnswer_refused fits hf _)

end MethodWrite

theorem methodClearAnswer_of_le {k : Nat} (hk : k ≤ 7) (s : State) : methodClearAnswer k s
    = accept { s with methods := setSlot s.methods k { slot s.methods k with valid := false } } .none := by
  rw [methodClearAnswer, (within_iff 0 7 k).mpr ⟨Nat.zero_le _, hk⟩]
  rfl

theorem methodReadAnswer_of_le {k : Nat} (hk : k ≤ 7) (s : State) :
    methodReadAnswer k s = accept s (.method k (slot s.methods k)) := by
  rw [methodReadAnswer, (within_iff 0 7 k).mpr ⟨Nat.zero_le _, hk⟩]
  rfl

theorem touchReadAnswer_closed (h : Header) (s : State) : touchReadAnswer (closed h s)
    = accept (closed h s) (.touch s.touch.status (if s.touch.status = .empty then none else some (touchView s))) := by
  simp only [touchReadAnswer, touchView, closed_touch, closed_arbiter, beq_iff_eq]

/-! ## Swing configurations and programs (R120, R134, R138) -/

section SwingConfig
variable {c bell : Nat}

theorem tied_iff (s : State) (c bell : Nat) : (numbers 1 12).any (fun d => d != c && (s.swing d).cfg.bell == bell) = true
    ↔ ∃ d ∈ numbers 1 12, d ≠ c ∧ (s.swing d).cfg.bell = bell := by
  simp only [List.any_eq_true, Bool.and_eq_true, bne_iff_ne, beq_iff_eq]

/-- The record as SWING-CONFIG clamps it (R119). -/
def clampedConfig (bell drive raise hold limit settle : Nat) (fitted : Bool) : SwingConfig where
  bell := bell
  drive := max 100 (min 1500 drive)
  raiseLoad := max 1 (min 100 raise)
  holdLoad := max 1 (min 100 hold)
  raiseLimit := max 10 (min 180 limit)
  settle := max 5 (min 60 settle)
  fitted := fitted

/-- The three tests of SWING-CONFIG on a channel and a bell that there are (R120). -/
theorem swingConfigAnswer_eq (hc : c ∈ numbers 1 12) (hb : 1 ≤ bell ∧ bell ≤ 24) (drive raise hold limit settle : Nat)
    (fitted : Bool) (s : State) : swingConfigAnswer c bell drive raise hold limit settle fitted.toNat s
      = if (∃ d ∈ numbers 1 12, d ≠ c ∧ (s.swing d).cfg.bell = bell) ∨ max 1 (min 100 raise) < max 1 (min 100 hold) then
          refuse s .badValue
        else if (s.swing c).state ≠ .down ∨ (s.swing c).start ≠ none then refuse s .busy
        else
          accept (s.withSwing c { s.swing c with cfg := clampedConfig bell drive raise hold limit settle fitted })
            (.swingConfig c (clampedConfig bell drive raise hold limit settle fitted)) := by
  have channel : within 1 12 c = true := (within_iff 1 12 c).mpr ((mem_numbers 1 12 c).mp hc)
  have there : within 1 24 bell = true := (within_iff 1 24 bell).mpr hb
  simp only [swingConfigAnswer, flag?_toNat, channel, there, Bool.not_true, Bool.false_or, Bool.or_eq_true, tied_iff,
    decide_eq_true_eq, bne_iff_ne, Option.isSome_iff_ne_none]
  simp only [clamp_eq, clampedConfig]
  congr

end SwingConfig

theorem startsFit_iff (entries : List (Nat × Nat)) : startsFit entries = true
    ↔ entries.length ≤ 12 ∧ (∀ e ∈ entries, e.1 ∈ numbers 1 12) ∧ (entries.map (·.1)).Nodup := by
  simp only [startsFit, Bool.and_eq_true, decide_eq_true_eq, List.all_eq_true, within_iff, distinct_iff, mem_numbers, and_assoc]

theorem programWriteAnswer_eq {k : Nat} (hk : 1 ≤ k ∧ k ≤ 4) (entries : List (Nat × Nat)) (duration : Nat) (s : State) :
    let p : Program := { entries := entries.map (fun e => (e.1, min 120000 e.2)), duration := min 120 duration }
    programWriteAnswer k entries duration s
      = if startsFit entries = true then accept { s with programs := setNth s.programs k p } (.program p)
        else refuse s .badValue := by
  have number : within 1 4 k = true := (within_iff 1 4 k).mpr hk
  simp only [programWriteAnswer, number, clamp_zero, Bool.not_true, Bool.false_or]
  cases startsFit entries <;> rfl

theorem programReadAnswer_eq {k : Nat} (hk : 1 ≤ k ∧ k ≤ 4) (s : State) :
    programReadAnswer k s = accept s (.program (nth s.programs k)) := by
  rw [programReadAnswer, (within_iff 1 4 k).mpr hk]
  rfl

theorem swingView_closed (h : Header) (s : State) (c : Nat) : swingView (closed h s) c = swingView s c := by
  simp only [swingView, closed_swing, closed_elapsed, closed_hammer, closed_allowance]

theorem swingReadAnswer_eq {c : Nat} (hc : c ∈ numbers 1 12) (count : Nat) (s : State) : swingReadAnswer c count s
    = accept s (.swings ((numbers c (min 12 (c + max 1 (min 6 count) - 1))).map (swingView s))) := by
  rw [swingReadAnswer, (within_iff 1 12 c).mpr ((mem_numbers 1 12 c).mp hc), clamp_eq]
  rfl

/-- Settles O44, request by request: what METHOD-WRITE answers by the first invalid change, SWING-CONFIG by its three tests and
SWING-PROGRAM-WRITE by `startsFit`, and what the others read or clear. -/
theorem methodAndSwingRecords : Obligations.MethodAndSwingRecords := by
  refine ⟨fun h k s ht hk => ⟨?write, ?clear, ?read, fun he => ?touchEmpty, fun he => ?touchRead⟩,
    fun h c s ht hc => ⟨?config, fun k entries duration lo hi => ⟨?programWrite, ?programRefused, ?programRead⟩,
      fun count => ?swingRead⟩⟩
  case write =>
    intro n bells cover lead bob single n4 n12 hl nodup range hc out l2 l32
    have fits : MethodFits k n bells cover lead :=
      ⟨(within_iff 0 7 k).mpr ⟨Nat.zero_le _, hk⟩, (within_iff 4 12 n).mpr ⟨n4, n12⟩, bellsFit_of hl nodup range hc out,
        (within_iff 2 32 _).mpr ⟨l2, l32⟩⟩
    refine ⟨fun valid bobFits singleFits => ?stored, fun j hj bad good => ?lead, fun valid bobBad => ?bob,
      fun valid bobFits singleBad => ?single⟩
    case stored =>
      exact ⟨_, answers_methodWrite_stored ht fits (firstInvalid_eq_none valid bobFits singleFits),
        slot_setSlot_self _ _ _ (Nat.lt_succ_of_le hk), fun m hm => slot_setSlot_ne _ _ _ _ hm.symm⟩
    case lead => exact answers_methodWrite_refused ht fits (firstInvalid_of_lead hj bad good)
    case bob => exact answers_methodWrite_refused ht fits (firstInvalid_of_bob valid bobBad)
    case single => exact answers_methodWrite_refused ht fits (firstInvalid_of_single valid bobFits singleBad)
  case clear =>
    refine ⟨_, answers_of_accept ht (by decide) rfl ?_, slot_setSlot_self _ _ _ (Nat.lt_succ_of_le hk),
      fun m hm => slot_setSlot_ne _ _ _ _ hm.symm⟩
    rw [methodClearAnswer_of_le hk, closed_methods]
  case read =>
    refine answers_of_accept ht (by decide) rfl ?_
    rw [methodReadAnswer_of_le hk, closed_methods]
  case touchEmpty =>
    refine answers_of_accept ht (by decide) rfl ?_
    rw [touchReadAnswer_closed, if_pos he, he]
  case touchRead =>
    refine answers_of_accept ht (by decide) rfl ?_
    rw [touchReadAnswer_closed, if_neg he]
    simp only [touchView, Touch.callAhead, beq_iff_eq]
  case config =>
    intro bell drive raise hold limit settle fitted lo hi i r k cfg tied
    have answer := swingConfigAnswer_eq hc ⟨lo, hi⟩ drive raise hold limit settle fitted (closed h s)
    simp only [closed_swing] at answer
    refine ⟨fun bad => ?_, fun free loads busy => ?_, fun free loads down idle => ?_⟩
    · exact answers_of_refuse ht (by decide) rfl (answer.trans (if_pos bad))
    all_goals
      have good : ¬(tied ∨ r < k) := not_or_intro free (Nat.not_lt.mpr loads)
      rw [if_neg good] at answer
    · exact answers_of_refuse ht (by decide) rfl (answer.trans (if_pos busy))
    · refine answers_of_accept ht (by decide) rfl (answer.trans (if_neg ?_))
      exact not_or_intro (not_not_intro down) (not_not_intro idle)
  case programWrite =>
    intro fits
    refine ⟨_, answers_of_accept ht (by decide) rfl ?_, nth_setNth_self _ _ _ ((within_iff 1 4 k).mpr ⟨lo, hi⟩),
      fun j hj => nth_setNth_ne _ _ _ _ hj.symm⟩
    rw [programWriteAnswer_eq ⟨lo, hi⟩, if_pos ((startsFit_iff entries).mpr fits), closed_programs]
  case programRefused =>
    intro bad
    refine answers_of_refuse ht (by decide) rfl ?_
    rw [programWriteAnswer_eq ⟨lo, hi⟩, if_neg (mt (startsFit_iff entries).mp bad)]
  case programRead =>
    refine answers_of_accept ht (by decide) rfl ?_
    rw [programReadAnswer_eq ⟨lo, hi⟩, closed_programs]
  case swingRead =>
    refine ⟨_, answers_of_accept ht (by decide) rfl (swingReadAnswer_eq hc count _), ?_, fun v hv => ?_⟩
    · rw [List.map_map]
      exact List.map_id _
    · obtain ⟨d, -, rfl⟩ := List.mem_map.mp hv
      rw [swingView_closed]
      exact ⟨rfl, rfl, rfl, rfl, rfl, rfl⟩

end Sys2Proof.Machine
